-- ==== Sys2Proof/Word.lean ====
section
/-! DEFINITION. Words, bytes and tables of a fixed size. -/

namespace Sys2Proof

/-- One byte of shared memory. -/
abbrev Byte := BitVec 8

/-- One 32-bit word: a register of the window (R186) or an argument word of a request slot. -/
abbrev Word := BitVec 32

/-- A table of exactly `n` entries, numbered `0` to `n - 1`. -/
structure Tab (n : Nat) (α : Type) where
  cells : List α
  size : cells.length = n
deriving DecidableEq, Repr

/-- Entry `i` of a table. -/
def Tab.get {n : Nat} {α : Type} (t : Tab n α) (i : Fin n) : α :=
  t.cells[i.val]'(by rw [t.size]; exact i.isLt)

/-- The table with entry `i` replaced. -/
def Tab.set {n : Nat} {α : Type} (t : Tab n α) (i : Fin n) (a : α) : Tab n α :=
  ⟨t.cells.set i.val a, by rw [List.length_set]; exact t.size⟩

/-- The table with entry `i` changed by `f`. -/
def Tab.modify {n : Nat} {α : Type} (t : Tab n α) (i : Fin n) (f : α → α) : Tab n α :=
  t.set i (f (t.get i))

/-- The table whose entry `i` is `f i`. -/
def Tab.ofFn {n : Nat} {α : Type} (f : Fin n → α) : Tab n α :=
  ⟨(List.finRange n).map f, by simp⟩

/-- The table that holds `a` everywhere. -/
def Tab.fill {α : Type} (n : Nat) (a : α) : Tab n α :=
  ⟨List.replicate n a, List.length_replicate⟩

/-- Entry by entry, with the entry's number. -/
def Tab.mapIdx {n : Nat} {α β : Type} (t : Tab n α) (f : Fin n → α → β) : Tab n β :=
  Tab.ofFn (fun i => f i (t.get i))

/-- The value within `lo..hi` nearest to `x`. -/
def clampNat (lo hi x : Nat) : Nat := max lo (min hi x)

/-- The value within `lo..hi` nearest to `x`. -/
def clampInt (lo hi x : Int) : Int := max lo (min hi x)

/-- A count that reaches `top` stays there. -/
def satAdd (top x : Nat) : Nat := min top (x + 1)

end Sys2Proof
end

