-- ==== Sys2Proof/Config.lean ====
section
/-! DEFINITION. The constants the spec fixes for the part. The spec leaves no value of the part open, so there is
no free value here (log entry 28). -/

namespace Sys2Proof.Config

/-- Least song time (spec/00_scope.md, Time). -/
def songMin : Int := -8388608
/-- Greatest song time (R3). -/
def songMax : Int := 8388607
/-- The edge stamp that marks "no edge yet" (R33, R43). -/
def noEdge : Int := -8388608
/-- Rounds without a pulse after which the phase count stands still (R5) and lock is lost (R7). -/
def phaseLimit : Nat := 32
/-- Rounds a start or a resume waits for a pulse (R12, R14). -/
def waitLimit : Nat := 32
/-- Anomalies in a row that are reported (R6). -/
def anomalyLimit : Nat := 4
/-- Extreme readings in a row that fail a sensor (R20). -/
def failLimit : Nat := 64
/-- Believable readings in a row that recover a sensor (R21). -/
def recoverLimit : Nat := 1024
/-- Rounds in one unit of the stuck limit (R29). -/
def stuckUnit : Nat := 2000
/-- Greatest stuck timer value (chapter 2, What Pad Sense holds). -/
def stuckTop : Nat := 480000
/-- Rounds between two polls of a page header or link (R50). -/
def pollLimit : Nat := 8
/-- Page tag (R47). -/
def pageTag : Nat := 0x3147504B
/-- Record slots of a page (chapter 3). -/
def slotsPerPage : Nat := 31
/-- Entries of the page tracker (R46). -/
def trackerSize : Nat := 8
/-- Entries of one note pool (R70). -/
def poolSize : Nat := 64
/-- Entries of a beat list (R74). -/
def beatListSize : Nat := 8
/-- Marks after its effective time from which a beat is late (R65). -/
def beatLateness : Int := 64
/-- Shortest hold, in marks, that stays a hold (R55). -/
def shortestHold : Nat := 16
/-- Points of a whole stage (R118). -/
def fullScore : Nat := 1000000
/-- Full life (R123). -/
def fullLife : Int := 1000
/-- Full fraction (R75, R120). -/
def fullFraction : Nat := 64
/-- Top of a 16-bit saturating count. -/
def top16 : Nat := 65535
/-- Top of a 32-bit saturating count. -/
def top32 : Nat := 4294967295
/-- IDENT: family code 0x5A26, revision 0x01 (R186). -/
def ident : Word := 0x5A260001
/-- Bytes of the root block (R188). -/
def rootBytes : Nat := 384
/-- Bytes of a chart page. -/
def pageBytes : Nat := 512

end Sys2Proof.Config
end

