-- ==== Sys2Proof/Syntax.lean ====
section
/-! DEFINITION. The commands of the PK-260: one constructor of `Instr` per row of spec/opcode_table.json, with the
row's operands. -/

namespace Sys2Proof

/-- P0 and P1. -/
inductive Player where
  | p0 | p1
deriving DecidableEq, Repr

/-- The other player. -/
def Player.other : Player → Player
  | .p0 => .p1
  | .p1 => .p0

/-- PAD0 and PAD1. -/
inductive PadId where
  | pad0 | pad1
deriving DecidableEq, Repr

/-- The three request slots. -/
inductive SlotId where
  | slot0 | slot1 | slot2
deriving DecidableEq, Repr

/-- A panel within its pad. -/
abbrev PanelId := Fin 6
/-- A sensor within its panel. -/
abbrev SensorId := Fin 4

/-- One sensor of the 48, named by pad, panel and sensor (R18). -/
structure SensorName where
  pad : PadId
  panel : PanelId
  sensor : SensorId
deriving DecidableEq, Repr

/-- The readings of one round (R18): connector A's inputs SNSA0..23 and connector B's SNSB0..23. -/
structure Readings where
  a : Tab 24 (BitVec 12)
  b : Tab 24 (BitVec 12)
deriving DecidableEq, Repr

/-- The parts of one round that the spec lets happen in any order among themselves: a player's judge takes the new
song time (R4, R86, R90), a panel is evaluated and its event taken (R19), the lamps count down (R182). -/
inductive RoundItem where
  | handOver (pl : Player)
  | panel (pad : PadId) (p : PanelId)
  | countdown
deriving DecidableEq, Repr

/-- The order in which the hardware takes the freely ordered parts of one round (log entry 4). What the lists leave
out comes after what they name, in the model's standing order. -/
structure RoundOrder where
  sensors : List SensorName
  items : List RoundItem
  first : Player
deriving DecidableEq, Repr

/-- The words of a request slot as a slot read hands them over (spec/11, Request slot). -/
structure SlotWords where
  tag : BitVec 16
  doneTag : BitVec 16
  arg0 : Word
  arg1 : Word
deriving DecidableEq, Repr

/-- The commands. Each constructor is the row of spec/opcode_table.json that its name spells. A `reply` is the data
a bus read hands over, its first byte in bits 7..0 (R201), or `none` when the read ends in a bus error; `ok` is
`false` when a bus write ends in a bus error. -/
inductive Instr where
  -- Song Clock (spec/01)
  | roundStrobe (readings : Readings) (order : RoundOrder)
  | syncPulse (first : Player)
  | anomalyRunReport
  | lockLoss
  | startFallback (first : Player)
  | resumeFallback (first : Player)
  | songStart (w : SlotWords)
  | songPause (w : SlotWords)
  | songResume (w : SlotWords)
  | songStop (w : SlotWords) (first : Player)
  | heldRequest (kind : BitVec 16) (w : SlotWords)
  -- Pad Sense (spec/02)
  | loadProfile (w : SlotWords)
  | profileReadDone (reply : Option (BitVec 768))
  | calibrate (w : SlotWords)
  | calibrationComplete (pad : PadId)
  | baselineTableWriteDone (ok : Bool)
  | sensorDump (w : SlotWords)
  | dumpCapture
  | dumpWriteDone (ok : Bool)
  | sensorFail (c : SensorName)
  | sensorRecover (c : SensorName)
  | pressConfirm (pad : PadId) (p : PanelId)
  | releaseConfirm (pad : PadId) (p : PanelId)
  | stuckRelease (pad : PadId) (p : PanelId)
  -- Lane Judge (spec/04, spec/05)
  | beatDue (pl : Player) (entry : Nat)
  | lapseDue (pl : Player) (entry : Nat)
  | crossingDue (pl : Player) (entry : Nat)
  | avoidSettleDue (pl : Player) (entry : Nat)
  | graceDue (pl : Player) (entry : Nat)
  | settleDue (pl : Player) (entry : Nat)
  -- Player sessions and slots (spec/07, spec/10)
  | arm (pl : Player) (w : SlotWords)
  | descriptorReadDone (pl : Player) (reply : Option (BitVec 640))
  | abandon (pl : Player) (w : SlotWords)
  | refreshNow (pl : Player) (w : SlotWords)
  | unknownKind (slot : SlotId) (kind : BitVec 16) (w : SlotWords)
  | staleRequest (slot : SlotId) (w : SlotWords)
  | slotReadFault (slot : SlotId)
  | completionWriteDone (slot : SlotId) (ok : Bool)
  -- Chart Fetcher (spec/03)
  | pageWaitResume (pl : Player)
  | headerReadDone (pl : Player) (reply : Option (BitVec 128))
  | poolEntryReserve (pl : Player)
  | recordReadDone (pl : Player) (reply : Option (BitVec 128))
  | stalledRecordRetry (pl : Player)
  | pollDue (pl : Player)
  | fillRereadDone (pl : Player) (reply : Option (BitVec 128))
  | linkReadDone (pl : Player) (reply : Option (BitVec 32))
  | fetchReadDiscarded (pl : Player) (ok : Bool)
  -- Bus Port (spec/10)
  | busGrant
  | busTimeout
  -- Write-back Unit and Refresh Unit (spec/08)
  | resultWriteDone (pl : Player)
  | resultWriteError (pl : Player)
  | retirementWriteDone (pl : Player) (ok : Bool)
  | refreshPeriodDue
  | holdReadDone (reply : Option (BitVec 64))
  | nowHoldReadDone (pl : Player) (reply : Option (BitVec 32))
  | scoreboardWriteDone (pl : Player) (ok : Bool)
  | finalScoreboardWriteDone (pl : Player) (ok : Bool)
  | mirrorWriteDone (ok : Bool)
  | faultRecordWriteDone (ok : Bool)
  -- Lamp Driver (spec/09)
  | flashEnd (pad : PadId) (p : PanelId)
  | pwmPeriodStart
  -- Register window, run states and resets (spec/10)
  | standbyExit
  | settingsReadDone (reply : Option (BitVec 512))
  | wakingAbandon
  | standbyEntry
  | controlReset (run : Bool)
  | resetComplete
  | resetN
  | resetNRise
  | root (value : Word)
  | attn (value : Word)
  | notice (value : Word)
  | faultRearm (value : Word)
  | noticeMask (value : Word)
  | registerWrite (offset : Nat) (value : Word)
deriving DecidableEq, Repr

end Sys2Proof
end

