-- ==== Sys2Proof/Machine/State.lean ====
section
/-! DEFINITION. The state of the PK-260 as plain data, block by block, the state after power-on reset, and the updates of
one block that every operation is built from. A song time is an `Int` (chapter 1), a bus address a `Nat`. -/

namespace Sys2Proof.Machine

/-- One value for each player. -/
structure PerPlayer (α : Type) where
  p0 : α
  p1 : α
deriving DecidableEq, Repr

def PerPlayer.get {α : Type} (t : PerPlayer α) : Player → α
  | .p0 => t.p0
  | .p1 => t.p1

def PerPlayer.set {α : Type} (t : PerPlayer α) (pl : Player) (a : α) : PerPlayer α :=
  match pl with
  | .p0 => ⟨a, t.p1⟩
  | .p1 => ⟨t.p0, a⟩

/-- One value for each pad. -/
structure PerPad (α : Type) where
  pad0 : α
  pad1 : α
deriving DecidableEq, Repr

def PerPad.get {α : Type} (t : PerPad α) : PadId → α
  | .pad0 => t.pad0
  | .pad1 => t.pad1

def PerPad.set {α : Type} (t : PerPad α) (pad : PadId) (a : α) : PerPad α :=
  match pad with
  | .pad0 => ⟨a, t.pad1⟩
  | .pad1 => ⟨t.pad0, a⟩

/-- One value for each request slot. -/
structure PerSlot (α : Type) where
  slot0 : α
  slot1 : α
  slot2 : α
deriving DecidableEq, Repr

def PerSlot.get {α : Type} (t : PerSlot α) : SlotId → α
  | .slot0 => t.slot0
  | .slot1 => t.slot1
  | .slot2 => t.slot2

def PerSlot.set {α : Type} (t : PerSlot α) (sl : SlotId) (a : α) : PerSlot α :=
  match sl with
  | .slot0 => ⟨a, t.slot1, t.slot2⟩
  | .slot1 => ⟨t.slot0, a, t.slot2⟩
  | .slot2 => ⟨t.slot0, t.slot1, a⟩

/-! ### The part as a whole (chapter 10) -/

/-- The run states of R187. -/
inductive RunState where
  | standby | waking | operating | resetting
deriving DecidableEq, Repr

/-- The fault kinds of the Fault Record (R197), with NONE for an empty latch. -/
inductive FaultKind where
  | none | busRead | busWrite | pageTag | pageSeq | pageFill | pageLink | recordKind | laneRange | order | overlap
  | chordSize | chordShort | starved | sensorFail | syncAnomaly | settings
deriving DecidableEq, Repr

/-- The Fault Record (chapter 10). `held` is the latch. -/
structure FaultRecord where
  held : Bool
  kind : FaultKind
  player : Option Player
  pageSeq : Nat
  recordIndex : Nat
  songTime : Int
  further : Nat
  writePending : Bool
deriving DecidableEq, Repr

/-- The bounds of the window, both included (R188). -/
structure Window where
  low : Nat
  high : Nat
deriving DecidableEq, Repr

/-- A request taken from a slot. -/
structure Request where
  tag : BitVec 16
  kind : BitVec 16
  arg0 : Word
  arg1 : Word
deriving DecidableEq, Repr

/-- What the slot protocol keeps for a slot (chapter 10, Request slots). -/
structure Slot where
  attention : Bool
  readInFlight : Bool
  executing : Option Request
  unwritten : Nat
deriving DecidableEq, Repr

/-- The status codes of a completion (R194, spec/11 Codes). -/
inductive Status where
  | ok | busy | padBusy | badArg | noProfile | busFault | unknownKind | disturbed
deriving DecidableEq, Repr

/-- The transfers of the request client's work list (R195). A completion carries what it writes (R194); a table or
dump write carries its bytes, captured when it was asked for (R37, R39), and the result word of its request. A profile read
carries whether its pad has become owned since it was asked for (R32, R139). -/
inductive Work where
  | settings
  | slotRead (slot : SlotId)
  | completion (slot : SlotId) (status : Status) (tag : BitVec 16) (result : Word)
  | descriptor (pl : Player) (addr : Nat)
  | profile (pad : PadId) (addr : Nat) (claimed : Bool)
  | table (addr : Nat) (data : List Byte) (result : Word)
  | dump (addr : Nat) (data : List Byte) (result : Word)
deriving DecidableEq, Repr

/-- The reads of a Chart Fetcher (R46, R48, R50, R51): the first header read of a page, a re-read of it, a record, a
link. -/
inductive FetchKind where
  | header | reread | record | link
deriving DecidableEq, Repr

/-- What a transfer is, for the client it belongs to. A scoreboard write carries the refresh serial it was built
with (R169). -/
inductive Xfer where
  | request (w : Work)
  | faultRecord
  | fetch (pl : Player) (kind : FetchKind)
  | result (pl : Player) (entry : Nat)
  | retire (pl : Player) (seq : Nat)
  | holds
  | nowHold (pl : Player)
  | board (pl : Player) (serial : Nat)
  | finalBoard (pl : Player) (serial : Nat)
  | mirrors
deriving DecidableEq, Repr

/-- The six clients of the Bus Port (R199). -/
inductive Client where
  | request | fetch (pl : Player) | write (pl : Player) | refresh
deriving DecidableEq, Repr

/-- A transfer on the system bus: what it is, its first byte's address, its length and the bytes it writes (empty for a
read). `silent` marks one whose ending is reported to no block (R189, R190). -/
structure Transfer where
  what : Xfer
  addr : Nat
  len : Nat
  data : List Byte
  silent : Bool
deriving DecidableEq, Repr

/-- The Bus Port: the transfer in flight and the last granted client (R199). -/
structure Bus where
  inFlight : Option Transfer
  last : Client
deriving DecidableEq, Repr

/-! ### Song Clock (chapter 1) -/

inductive ClockState where
  | idle | starting | running | paused
deriving DecidableEq, Repr

inductive LockMode where
  | locked | free
deriving DecidableEq, Repr

inductive PendingChange where
  | none | pause | resume
deriving DecidableEq, Repr

inductive SyncEdge where
  | rising | falling
deriving DecidableEq, Repr

/-- The Song Clock (chapter 1, The clock at a glance). `taking` tells that a round strobe has come since the standby exit: from
it on the clock takes pulses (R188). -/
structure Clock where
  state : ClockState
  songTime : Int
  lastPulse : Int
  phase : Nat
  anomalyRun : Nat
  mode : LockMode
  change : PendingChange
  wait : Nat
  start : Int
  waiting : Option Request
  held : Option Request
  edge : SyncEdge
  taking : Bool
deriving DecidableEq, Repr

/-! ### Pad Sense (chapter 2) -/

/-- NORMAL or SWAPPED, of the pad assignment (R18) and of the lamp assignment (R176). -/
inductive Assign where
  | normal | swapped
deriving DecidableEq, Repr

/-- One sensor (chapter 2, What Pad Sense holds). -/
structure Sensor where
  raw : Nat
  baseline : Nat
  healthy : Bool
  failRun : Nat
  recoverRun : Nat
deriving DecidableEq, Repr

inductive PanelState where
  | off | up | rising | down | falling | dead
deriving DecidableEq, Repr

/-- One panel. -/
structure Panel where
  state : PanelState
  riseStamp : Int
  fallStamp : Int
  confirm : Nat
  load : Nat
  stuck : Nat
  holdActive : Bool
  lastPress : Int
  lastRelease : Int
deriving DecidableEq, Repr

/-- Base mode of a lamp (R178). -/
inductive BaseMode where
  | dark | steady | press
deriving DecidableEq, Repr

/-- The lamp fields of one panel (R178). -/
structure LampField where
  mode : BaseMode
  level : Nat
  beat : Bool
  grade : Bool
  strike : Bool
deriving DecidableEq, Repr

/-- The lamp fields of one pad (R178). -/
structure LampFields where
  panels : Tab 6 LampField
  flashLength : Nat
deriving DecidableEq, Repr

/-- The clamped profile (R33). -/
structure Profile where
  panelCount : Nat
  enables : BitVec 24
  tOn : Nat
  tOff : Nat
  dOn : Nat
  dOff : Nat
  shift : Nat
  stuckLimit : Nat
  table : Tab 24 Nat
  lamps : LampFields
deriving DecidableEq, Repr

inductive PadState where
  | unconfigured | active | calibrating
deriving DecidableEq, Repr

/-- The calibration context (R34). -/
structure Calibration where
  wanted : Nat
  taken : Nat
  sums : Tab 24 Nat
  included : Tab 24 Bool
deriving DecidableEq, Repr

/-- One pad: sensor `s` of panel `p` is sensor `4 p + s` of the table (R18). -/
structure Pad where
  state : PadState
  sensors : Tab 24 Sensor
  panels : Tab 6 Panel
  profile : Profile
  profileAddr : Nat
  cal : Option Calibration
deriving DecidableEq, Repr

/-- A SENSOR_DUMP taken and not yet captured (R39); `due` once a round has ended since. -/
structure DumpWait where
  addr : Nat
  due : Bool
deriving DecidableEq, Repr

/-- What one panel shows in a pad mirror (R40). -/
structure PanelView where
  state : PanelState
  load : Nat
deriving DecidableEq, Repr

/-- What Pad Sense makes available of one pad for its mirror, as of the most recently completed round (R40). -/
structure PadView where
  state : PadState
  panelCount : Nat
  panels : Tab 6 PanelView
  healthy : Tab 24 Bool
deriving DecidableEq, Repr

/-- What Pad Sense keeps for the device. `shown` is what the mirrors show (R40), kept over a standby (DEDUCED, log entry 35). -/
structure Scan where
  dumpSerial : Nat
  assign : Assign
  dump : Option DumpWait
  shown : PerPad PadView
deriving DecidableEq, Repr

/-! ### Chart Fetcher (chapter 3) -/

/-- The record kinds; END is `chartEnd`, any other code `unknown`. -/
inductive RecordKind where
  | tap | hold | avoid | beat | chartEnd | unknown
deriving DecidableEq, Repr

/-- The host fields of a note record (chapter 3). -/
structure NoteRecord where
  time : Int
  kind : RecordKind
  length : Nat
  lane : Nat
  chord : Nat
  cue : Nat
deriving DecidableEq, Repr

inductive FetchState where
  | idle | pageWait | fetching | stalled | fillPoll | linkPoll | ended | halted
deriving DecidableEq, Repr

/-- The fetcher's single outstanding bus transfer. `discard` once the fetcher has been stopped (R68). -/
structure FetchRead where
  kind : FetchKind
  addr : Nat
  discard : Bool
deriving DecidableEq, Repr

/-- An open chord being assembled (R58). -/
structure Assembly where
  chord : Fin 8
  size : Nat
  time : Int
  lanes : List Nat
  found : Nat
deriving DecidableEq, Repr

/-- One page tracker entry. -/
structure Track where
  addr : Nat
  seq : Nat
  taken : Nat
  written : Nat
  full : Bool
deriving DecidableEq, Repr

/-- A Chart Fetcher with its page tracker, oldest page first. `roomReport` (a report of R56 not yet answered) and
`recordsTaken` (which numbers the records in chart order, R89) are the model's own. -/
structure Fetcher where
  state : FetchState
  page : Nat
  seq : Nat
  index : Nat
  fill : Nat
  poll : Nat
  read : Option FetchRead
  reserved : Option Nat
  inHand : Option NoteRecord
  lastTime : Option Int
  laneLast : Tab 12 (Option Int)
  holdBusy : Tab 12 (Option Int)
  unitCounter : Nat
  assembly : Option Assembly
  starvedLogged : Bool
  tracker : List Track
  roomReport : Bool
  recordsTaken : Nat
deriving DecidableEq, Repr

/-! ### Lane Judge (chapters 4 and 5) -/

inductive EntryState where
  | free | reserved | waiting | watching | scheduled | held | slipping | judged | final
deriving DecidableEq, Repr

inductive Grade where
  | pending | apex | solid | fair | thin | lapse | struck | avoided | passed | void
deriving DecidableEq, Repr

inductive Tail where
  | none | held | dropped | cut
deriving DecidableEq, Repr

/-- The result flags of a record. -/
structure ResultFlags where
  lateFetch : Bool
  shortHold : Bool
  chordShort : Bool
  lengthClamped : Bool
  forced : Bool
deriving DecidableEq, Repr

/-- One entry of a note pool (chapter 4). `tracker` is the sequence of its page, `slot` its record slot. `crossed`
(R104: the crossing is served once) and `chartNo` (R89: chart order) are the model's own. -/
structure Entry where
  state : EntryState
  record : NoteRecord
  addr : Nat
  tracker : Nat
  slot : Nat
  unit : Option Nat
  tailUnit : Option Nat
  chord : Option (Fin 8)
  own : Grade
  unitGrade : Grade
  tail : Tail
  offset : Int
  flags : ResultFlags
  slip : Option Int
  crossed : Bool
  chartNo : Nat
deriving DecidableEq, Repr

/-- A chord not yet settled (R109). -/
structure Chord where
  unit : Nat
  expected : Nat
  judged : Nat
  worst : Option Grade
  members : List Nat
deriving DecidableEq, Repr

inductive ComboAction where
  | add | keep | break
deriving DecidableEq, Repr

/-- The judge fields of one grade (R75). -/
structure GradeRow where
  early : Nat
  late : Nat
  fraction : Nat
  delta : Int
  action : ComboAction
deriving DecidableEq, Repr

/-- The judge parameters (R75, R76). -/
structure Params where
  offset : Int
  apex : GradeRow
  solid : GradeRow
  fair : GradeRow
  thin : GradeRow
  lapseDelta : Int
  heldDelta : Int
  droppedDelta : Int
  struckDelta : Int
  depth : Nat
  grace : Nat
  avoidWindow : Nat
deriving DecidableEq, Repr

/-- A Lane Judge. Its pool has 64 entries, 128 in double play, none while it is lent (R70). Lane lists, the beat list
and chord members name entries by their place in the pool. `serving` is the model's own: the due times that the judged
song time has reached are being served (R87), so a hand-over leaves it off (log entry 3). -/
structure Judge where
  pool : List Entry
  lanes : Tab 12 (List Nat)
  beats : List Nat
  chords : Tab 8 (Option Chord)
  params : Params
  judged : Int
  serving : Bool
deriving DecidableEq, Repr

/-! ### Score Unit (chapter 6) -/

inductive StageOutcome where
  | none | cleared | failed | aborted | faulted
deriving DecidableEq, Repr

/-- A Score Unit. The event flags stand as the scoreboard numbers them (spec/11). -/
structure Score where
  n : Nat
  unitValue : Nat
  remainder : Nat
  noFail : Bool
  startLife : Int
  score : Nat
  life : Int
  combo : Nat
  maxCombo : Nat
  outcome : StageOutcome
  endTime : Option Int
  apex : Nat
  solid : Nat
  fair : Nat
  thin : Nat
  lapse : Nat
  held : Nat
  dropped : Nat
  struck : Nat
  avoided : Nat
  voided : Nat
  assigned : Nat
  finalized : Nat
  freeSteps : Nat
  recordFaults : Nat
  offsetSum : Int
  offsetCount : Nat
  flags : BitVec 16
deriving DecidableEq, Repr

/-! ### Player session (chapter 7) -/

inductive PlayerState where
  | idle | arming | armed | playing | closing | done
deriving DecidableEq, Repr

inductive PadSet where
  | pad0 | pad1 | double
deriving DecidableEq, Repr

/-- A session record. Lane map entries stand as the descriptor's bytes: pad number in bits 7..4, panel number in bits
3..0 (spec/11). -/
structure Session where
  state : PlayerState
  returnState : Option PlayerState
  padSet : Option PadSet
  laneCount : Nat
  laneMap : Tab 12 Byte
  firstPage : Nat
  firstSeq : Nat
  waitingAbandon : Option (BitVec 16)
  finalAsked : Bool
deriving DecidableEq, Repr

/-! ### Write-back Unit and Refresh Unit (chapter 8) -/

/-- A result item names a pool entry, a retirement item a page. -/
inductive WriteItem where
  | result (entry : Nat)
  | retire (addr : Nat) (seq : Nat)
deriving DecidableEq, Repr

structure Writer where
  queue : List WriteItem
  inFlight : Option WriteItem
  retirePending : Bool
  retiredThrough : Nat
deriving DecidableEq, Repr

/-- The transfers a refresh job is made of. -/
inductive RefreshXfer where
  | holds
  | nowHold (pl : Player)
  | board (pl : Player)
  | finalBoard (pl : Player)
  | mirrors
deriving DecidableEq, Repr

inductive JobKind where
  | periodic
  | now (pl : Player)
  | final (pl : Player)
deriving DecidableEq, Repr

/-- A refresh job: the transfers it has yet to make, and whether it has made one (R167). -/
structure Job where
  kind : JobKind
  todo : List RefreshXfer
  started : Bool
deriving DecidableEq, Repr

structure Refresh where
  period : Nat
  timer : Nat
  jobs : List Job
  serial : PerPlayer Nat
  carried : PerPlayer (BitVec 16)
deriving DecidableEq, Repr

/-! ### Lamp Driver (chapter 9) -/

structure LampPanel where
  base : Nat
  level : Nat
  remaining : Nat
deriving DecidableEq, Repr

/-- The Lamp Driver. `fields` are the lamp fields read at the latest round end, `output` and `active` the level and the
running PWM period's active length of LAMP0..LAMP11, `enabled` whether a round end has come since standby (R177). -/
structure Lamps where
  assign : Assign
  fields : PerPad LampFields
  panels : PerPad (Tab 6 LampPanel)
  output : Tab 12 Nat
  active : Tab 12 Nat
  enabled : Bool
deriving DecidableEq, Repr

/-- The state of the part, with the queue of commands that wait. -/
structure State where
  run : RunState
  resetHeld : Bool
  root : Word
  notice : BitVec 8
  mask : BitVec 8
  fault : FaultRecord
  window : Window
  slots : PerSlot Slot
  work : List Work
  bus : Bus
  clock : Clock
  pads : PerPad Pad
  owners : PerPad (Option Player)
  scan : Scan
  fetchers : PerPlayer Fetcher
  judges : PerPlayer Judge
  scores : PerPlayer Score
  sessions : PerPlayer Session
  writers : PerPlayer Writer
  refresh : Refresh
  lamps : Lamps
  pending : List Instr
deriving DecidableEq, Repr

/-- No command of the PK-260 stops the part: a fault of its own is an entry of the Fault Record (R197), so there is no
reason for a step to fault. -/
inductive Fault where
deriving DecidableEq, Repr

/-- Why a step is refused. -/
inductive Refusal where
  /-- Raised by `exec` for a command without a meaning; no arm raises it. Safe: the machine stops. -/
  | notModelled (mnemonic : String)
deriving DecidableEq, Repr

/-! ### Reset (R16, R44, R69, R94, R136, R158, R165, R175, R185, R190) -/

/-- The contents of a re-armed Fault Record with no write pending (R198). -/
def FaultRecord.clear : FaultRecord :=
  { held := false, kind := .none, player := none, pageSeq := 0, recordIndex := 0, songTime := 0, further := 0,
    writePending := false }

def Slot.clear : Slot := { attention := false, readInFlight := false, executing := none, unwritten := 0 }

/-- R16. -/
def Clock.reset : Clock :=
  { state := .idle, songTime := 0, lastPulse := 0, phase := Config.phaseLimit, anomalyRun := 0, mode := .locked,
    change := .none, wait := 0, start := 0, waiting := none, held := none, edge := .rising, taking := false }

def Sensor.reset : Sensor := { raw := 0, baseline := 0, healthy := true, failRun := 0, recoverRun := 0 }

/-- R44. DESIGN CHOICE, log entry 10: the rise and fall stamps. -/
def Panel.reset : Panel :=
  { state := .off, riseStamp := Config.noEdge, fallStamp := Config.noEdge, confirm := 0, load := 0, stuck := 0,
    holdActive := false, lastPress := Config.noEdge, lastRelease := Config.noEdge }

/-- The lamp fields of an UNCONFIGURED pad (R178). -/
def LampFields.unconfigured : LampFields :=
  { panels := Tab.fill 6 { mode := .dark, level := 0, beat := false, grade := false, strike := false },
    flashLength := 1 }

/-- A cleared profile copy (R44). -/
def Profile.clear : Profile :=
  { panelCount := 0, enables := 0, tOn := 0, tOff := 0, dOn := 0, dOff := 0, shift := 0, stuckLimit := 0,
    table := Tab.fill 24 0, lamps := LampFields.unconfigured }

/-- R44. -/
def Pad.reset : Pad :=
  { state := .unconfigured, sensors := Tab.fill 24 Sensor.reset, panels := Tab.fill 6 Panel.reset,
    profile := Profile.clear, profileAddr := 0, cal := none }

/-- What Pad Sense makes available of a pad at a round end (R40): an UNCONFIGURED pad shows no panels. -/
def Pad.view (pad : Pad) : PadView :=
  { state := pad.state,
    panelCount := if pad.state = .unconfigured then 0 else pad.profile.panelCount,
    panels := pad.panels.mapIdx (fun _ x =>
      if pad.state = .unconfigured then ⟨.off, 0⟩ else ⟨x.state, x.load⟩),
    healthy := pad.sensors.mapIdx (fun _ x => x.healthy) }

/-- R69. DESIGN CHOICE, log entry 10: page, sequence, index, fill and poll count, the starved-logged mark, and the model's own
room report and count of records taken. -/
def Fetcher.reset : Fetcher :=
  { state := .idle, page := 0, seq := 0, index := 0, fill := 0, poll := 0, read := none, reserved := none,
    inHand := none, lastTime := none, laneLast := Tab.fill 12 none, holdBusy := Tab.fill 12 none, unitCounter := 0,
    assembly := none, starvedLogged := false, tracker := [], roomReport := false, recordsTaken := 0 }

def NoteRecord.blank : NoteRecord := { time := 0, kind := .unknown, length := 0, lane := 0, chord := 0, cue := 0 }

def ResultFlags.clear : ResultFlags :=
  { lateFetch := false, shortHold := false, chordShort := false, lengthClamped := false, forced := false }

/-- A pool entry that is not in use. -/
def Entry.blank : Entry :=
  { state := .free, record := NoteRecord.blank, addr := 0, tracker := 0, slot := 0, unit := none, tailUnit := none,
    chord := none, own := .pending, unitGrade := .pending, tail := .none, offset := 0, flags := ResultFlags.clear,
    slip := none, crossed := false, chartNo := 0 }

def GradeRow.zero : GradeRow := { early := 0, late := 0, fraction := 0, delta := 0, action := .add }

/-- The judge parameters cleared to zero (R94). -/
def Params.zero : Params :=
  { offset := 0, apex := GradeRow.zero, solid := GradeRow.zero, fair := GradeRow.zero, thin := GradeRow.zero,
    lapseDelta := 0, heldDelta := 0, droppedDelta := 0, struckDelta := 0, depth := 0, grace := 0, avoidWindow := 0 }

/-- An empty judge with `size` free pool entries (R93, R94). -/
def Judge.empty (size : Nat) (params : Params) (judged : Int) : Judge :=
  { pool := List.replicate size Entry.blank, lanes := Tab.fill 12 [], beats := [], chords := Tab.fill 8 none, params,
    judged, serving := false }

/-- A cleared Score Unit with the outcome given (R136). -/
def Score.clear (outcome : StageOutcome) : Score :=
  { n := 0, unitValue := 0, remainder := 0, noFail := false, startLife := 0, score := 0, life := 0, combo := 0,
    maxCombo := 0, outcome, endTime := none, apex := 0, solid := 0, fair := 0, thin := 0, lapse := 0, held := 0,
    dropped := 0, struck := 0, avoided := 0, voided := 0, assigned := 0, finalized := 0, freeSteps := 0,
    recordFaults := 0, offsetSum := 0, offsetCount := 0, flags := 0 }

/-- R158. -/
def Session.reset : Session :=
  { state := .idle, returnState := none, padSet := none, laneCount := 1, laneMap := Tab.fill 12 0, firstPage := 0,
    firstSeq := 0, waitingAbandon := none, finalAsked := false }

/-- R165. -/
def Writer.reset : Writer := { queue := [], inFlight := none, retirePending := false, retiredThrough := 0 }

/-- R175. -/
def Refresh.reset : Refresh :=
  { period := 1, timer := 0, jobs := [], serial := ⟨0, 0⟩, carried := ⟨0, 0⟩ }

/-- R185. -/
def Lamps.reset : Lamps :=
  { assign := .normal, fields := ⟨LampFields.unconfigured, LampFields.unconfigured⟩,
    panels := ⟨Tab.fill 6 ⟨0, 0, 0⟩, Tab.fill 6 ⟨0, 0, 0⟩⟩, output := Tab.fill 12 0, active := Tab.fill 12 0,
    enabled := false }

/-- The part right after power-on reset (R190), RESET_N high again. -/
def State.reset : State :=
  { run := .standby, resetHeld := false, root := 0, notice := 0, mask := 0, fault := FaultRecord.clear,
    window := ⟨0, 0⟩, slots := ⟨Slot.clear, Slot.clear, Slot.clear⟩, work := [],
    bus := { inFlight := none, last := .refresh }, clock := Clock.reset, pads := ⟨Pad.reset, Pad.reset⟩,
    owners := ⟨none, none⟩, scan := { dumpSerial := 0, assign := .normal, dump := none, shown := ⟨Pad.reset.view, Pad.reset.view⟩ },
    fetchers := ⟨Fetcher.reset, Fetcher.reset⟩,
    judges := ⟨Judge.empty Config.poolSize Params.zero 0, Judge.empty Config.poolSize Params.zero 0⟩,
    scores := ⟨Score.clear .none, Score.clear .none⟩, sessions := ⟨Session.reset, Session.reset⟩,
    writers := ⟨Writer.reset, Writer.reset⟩, refresh := Refresh.reset, lamps := Lamps.reset, pending := [] }

/-! ### Reading one block and updating one block -/

namespace State

def pad (s : State) (i : PadId) : Pad := s.pads.get i
def owner (s : State) (i : PadId) : Option Player := s.owners.get i
def slot (s : State) (i : SlotId) : Slot := s.slots.get i
def fetcher (s : State) (pl : Player) : Fetcher := s.fetchers.get pl
def judge (s : State) (pl : Player) : Judge := s.judges.get pl
def scoreUnit (s : State) (pl : Player) : Score := s.scores.get pl
def session (s : State) (pl : Player) : Session := s.sessions.get pl
def writer (s : State) (pl : Player) : Writer := s.writers.get pl

def setRun (s : State) (r : RunState) : State := { s with run := r }
def setNotices (s : State) (n : BitVec 8) : State := { s with notice := n }
def setFault (s : State) (f : FaultRecord) : State := { s with fault := f }
def setWork (s : State) (w : List Work) : State := { s with work := w }
def setBus (s : State) (b : Bus) : State := { s with bus := b }
def setClock (s : State) (c : Clock) : State := { s with clock := c }
def setScan (s : State) (c : Scan) : State := { s with scan := c }
def setOwners (s : State) (o : PerPad (Option Player)) : State := { s with owners := o }
def setRefresh (s : State) (r : Refresh) : State := { s with refresh := r }
def setLamps (s : State) (l : Lamps) : State := { s with lamps := l }
def setSlot (s : State) (i : SlotId) (x : Slot) : State := { s with slots := s.slots.set i x }
def setPad (s : State) (i : PadId) (x : Pad) : State := { s with pads := s.pads.set i x }
def setFetcher (s : State) (pl : Player) (x : Fetcher) : State := { s with fetchers := s.fetchers.set pl x }
def setJudge (s : State) (pl : Player) (x : Judge) : State := { s with judges := s.judges.set pl x }
def setScore (s : State) (pl : Player) (x : Score) : State := { s with scores := s.scores.set pl x }
def setSession (s : State) (pl : Player) (x : Session) : State := { s with sessions := s.sessions.set pl x }
def setWriter (s : State) (pl : Player) (x : Writer) : State := { s with writers := s.writers.set pl x }

end State

end Sys2Proof.Machine
end

