-- ==== Sys2Proof/Machine/Operands.lean ====
section
/-! DEFINITION. The operand forms: the shared memory structures the part reads, field by field, and the bytes of the
structures it writes (R201, R202, spec/11_shared_memory_formats.md). -/

namespace Sys2Proof.Machine

/-! ### Fields of a structure (R201) -/

/-- The unsigned little-endian field of `size` bytes at byte `off`. -/
def fieldAt {n : Nat} (d : BitVec n) (off size : Nat) : Nat := d.toNat >>> (8 * off) % 2 ^ (8 * size)

/-- Two's complement: the value of the low `bits` bits of `v`. -/
def toSigned (bits v : Nat) : Int := if v < 2 ^ (bits - 1) then (v : Int) else (v : Int) - 2 ^ bits

/-- The signed field of `size` bytes at byte `off`. -/
def signedAt {n : Nat} (d : BitVec n) (off size : Nat) : Int := toSigned (8 * size) (fieldAt d off size)

/-- The `n` bytes of `v`, least significant first. -/
def leBytes (n v : Nat) : List Byte := (List.range n).map (fun k => BitVec.ofNat 8 (v >>> (8 * k)))

/-- The `n` bytes of a signed value. -/
def leSigned (n : Nat) (v : Int) : List Byte := leBytes n (v % 2 ^ (8 * n)).toNat

/-- A song time sign-extended to a 32-bit result word (R9, R201). -/
def timeWord (t : Int) : Word := BitVec.ofInt 32 t

/-- The value held at its upper limit in place of a larger one (R3, R77). -/
def capTime (t : Int) : Int := min t Config.songMax

/-! ### Sums, runs and orders that name sensors and panels -/

/-- The place of sensor `s` of panel `p` in the tables of a pad (R18). -/
def channel (p : PanelId) (s : SensorId) : Fin 24 := ⟨4 * p.val + s.val, by omega⟩

def sensorIds : List SensorId := [0, 1, 2, 3]
def panelIds : List PanelId := [0, 1, 2, 3, 4, 5]
def padIds : List PadId := [.pad0, .pad1]

/-- Pad number `n`, if there is one. -/
def padOfNumber : Nat → Option PadId
  | 0 => some .pad0
  | 1 => some .pad1
  | _ => none

def padNumber : PadId → Nat
  | .pad0 => 0
  | .pad1 => 1

/-- The pad and panel a lane map byte names, if it names one (spec/11, Session descriptor). -/
def laneTarget (b : Byte) : Option (PadId × PanelId) :=
  match padOfNumber (b.toNat / 16) with
  | none => none
  | some pad => if h : b.toNat % 16 < 6 then some (pad, ⟨b.toNat % 16, h⟩) else none

def PadSet.pads : PadSet → List PadId
  | .pad0 => [.pad0]
  | .pad1 => [.pad1]
  | .double => [.pad0, .pad1]

/-! ### Codes (spec/11, Codes) -/

def Status.code : Status → Nat
  | .ok => 0 | .busy => 1 | .padBusy => 2 | .badArg => 3 | .noProfile => 4 | .busFault => 5 | .unknownKind => 6
  | .disturbed => 7

def FaultKind.code : FaultKind → Nat
  | .none => 0 | .busRead => 1 | .busWrite => 2 | .pageTag => 3 | .pageSeq => 4 | .pageFill => 5 | .pageLink => 6
  | .recordKind => 7 | .laneRange => 8 | .order => 9 | .overlap => 10 | .chordSize => 11 | .chordShort => 12
  | .starved => 13 | .sensorFail => 14 | .syncAnomaly => 15 | .settings => 16

def PlayerState.code : PlayerState → Nat
  | .idle => 0 | .arming => 1 | .armed => 2 | .playing => 3 | .closing => 4 | .done => 5

def StageOutcome.code : StageOutcome → Nat
  | .none => 0 | .cleared => 1 | .failed => 2 | .aborted => 3 | .faulted => 4

def PadState.code : PadState → Nat
  | .unconfigured => 0 | .active => 1 | .calibrating => 2

def PanelState.code : PanelState → Nat
  | .off => 0 | .up => 1 | .rising => 2 | .down => 3 | .falling => 4 | .dead => 5

def Grade.code : Grade → Nat
  | .pending => 0 | .apex => 1 | .solid => 2 | .fair => 3 | .thin => 4 | .lapse => 5 | .struck => 6 | .avoided => 7
  | .passed => 8 | .void => 9

def Tail.code : Tail → Nat
  | .none => 0 | .held => 1 | .dropped => 2 | .cut => 3

def ResultFlags.code (f : ResultFlags) : Nat :=
  f.lateFetch.toNat + 2 * f.shortHold.toNat + 4 * f.chordShort.toNat + 8 * f.lengthClamped.toNat
    + 16 * f.forced.toNat

/-- The ten request kinds. -/
inductive ReqKind where
  | songStart | songPause | songResume | songStop | loadProfile | calibrate | sensorDump | arm | abandon | refreshNow
deriving DecidableEq, Repr

def ReqKind.code : ReqKind → BitVec 16
  | .songStart => 1 | .songPause => 2 | .songResume => 3 | .songStop => 4 | .loadProfile => 5 | .calibrate => 6
  | .sensorDump => 7 | .arm => 8 | .abandon => 9 | .refreshNow => 10

/-- The kind of a code, if a slot takes that kind (R193). -/
def takenKind (slot : SlotId) (code : BitVec 16) : Option ReqKind :=
  match slot with
  | .slot0 =>
    match code.toNat with
    | 1 => some .songStart | 2 => some .songPause | 3 => some .songResume | 4 => some .songStop
    | 5 => some .loadProfile | 6 => some .calibrate | 7 => some .sensorDump | _ => none
  | _ =>
    match code.toNat with
    | 8 => some .arm | 9 => some .abandon | 10 => some .refreshNow | _ => none

def slotOf : Player → SlotId
  | .p0 => .slot1
  | .p1 => .slot2

/-- The player a slot belongs to, if any (R137). -/
def slotPlayer : SlotId → Option Player
  | .slot0 => none
  | .slot1 => some .p0
  | .slot2 => some .p1

/-! ### Places in the root block (R202) -/

def slotOffset : SlotId → Nat
  | .slot0 => 0x040
  | .slot1 => 0x060
  | .slot2 => 0x080

def holdOffset : Player → Nat
  | .p0 => 0x0A0
  | .p1 => 0x0A4

def boardOffset : Player → Nat
  | .p0 => 0x0C0
  | .p1 => 0x100

/-! ### Structures the part reads -/

/-- The settings (spec/11), clamped (R166). -/
structure Settings where
  window : Window
  period : Nat
  edge : SyncEdge
  assign : Assign
deriving DecidableEq, Repr

def parseSettings (d : BitVec 512) : Settings :=
  { window := ⟨fieldAt d 0x00 4, fieldAt d 0x04 4⟩,
    period := clampNat 1 64 (fieldAt d 0x08 1),
    edge := if fieldAt d 0x09 1 = 0 then .rising else .falling,
    assign := if fieldAt d 0x0A 1 = 0 then .normal else .swapped }

def parseBaseMode : Nat → BaseMode
  | 1 => .steady
  | 2 => .press
  | _ => .dark

/-- The lamp fields of a profile (R178). -/
def parseLamps (d : BitVec 768) : LampFields :=
  { panels := Tab.ofFn (fun p =>
      { mode := parseBaseMode (fieldAt d (0x40 + 3 * p.val) 1),
        level := fieldAt d (0x41 + 3 * p.val) 1,
        beat := (fieldAt d (0x42 + 3 * p.val) 1).testBit 0,
        grade := (fieldAt d (0x42 + 3 * p.val) 1).testBit 1,
        strike := (fieldAt d (0x42 + 3 * p.val) 1).testBit 2 }),
    flashLength := clampNat 1 4095 (fieldAt d 0x0A 2) }

/-- A profile, every field clamped (R33). -/
def parseProfile (d : BitVec 768) : Profile :=
  let tOn := clampNat 1 16380 (fieldAt d 0x04 2)
  { panelCount := clampNat 1 6 (fieldAt d 0x00 1),
    enables := BitVec.ofNat 24 (fieldAt d 0x0C 4),
    tOn,
    tOff := clampNat 0 (tOn - 1) (fieldAt d 0x06 2),
    dOn := clampNat 0 7 (fieldAt d 0x01 1),
    dOff := clampNat 0 7 (fieldAt d 0x02 1),
    shift := clampNat 4 10 (fieldAt d 0x03 1),
    stuckLimit := clampNat 0 240 (fieldAt d 0x08 1),
    table := Tab.ofFn (fun i => clampNat 0 4095 (fieldAt d (0x10 + 2 * i.val) 2)),
    lamps := parseLamps d }

/-- A combo action code (R75): a code above that of BREAK is taken as BREAK. -/
def parseAction : Nat → ComboAction
  | 0 => .add
  | 1 => .keep
  | _ => .break

/-- One row of the grade table at byte `off`, clamped (R75). -/
def parseGradeRow (d : BitVec 640) (off : Nat) : GradeRow :=
  { early := clampNat 0 2047 (fieldAt d off 2),
    late := clampNat 0 2047 (fieldAt d (off + 2) 2),
    fraction := clampNat 0 64 (fieldAt d (off + 4) 1),
    delta := clampInt (-1000) 1000 (signedAt d (off + 6) 2),
    action := parseAction (fieldAt d (off + 5) 1) }

/-- R76: each row's limits are raised to those of the repaired row above it. -/
def GradeRow.widen (above row : GradeRow) : GradeRow :=
  { row with early := max above.early row.early, late := max above.late row.late }

/-- R76: the nesting repair of the four rows. -/
def Params.repair (p : Params) : Params :=
  let solid := p.apex.widen p.solid
  let fair := solid.widen p.fair
  let thin := fair.widen p.thin
  { p with solid, fair, thin }

/-- The judge parameters of a descriptor: clamped (R75), then repaired (R76). -/
def parseParams (d : BitVec 640) : Params :=
  Params.repair
    { offset := clampInt (-1024) 1023 (signedAt d 0x1A 2),
      apex := parseGradeRow d 0x20,
      solid := parseGradeRow d 0x28,
      fair := parseGradeRow d 0x30,
      thin := parseGradeRow d 0x38,
      lapseDelta := clampInt (-1000) 1000 (signedAt d 0x40 2),
      heldDelta := clampInt (-1000) 1000 (signedAt d 0x42 2),
      droppedDelta := clampInt (-1000) 1000 (signedAt d 0x44 2),
      struckDelta := clampInt (-1000) 1000 (signedAt d 0x46 2),
      depth := clampNat 1 8 (fieldAt d 0x03 1),
      grace := clampNat 0 2047 (fieldAt d 0x1C 2),
      avoidWindow := clampNat 0 255 (fieldAt d 0x1E 1) }

def parsePadSet : Nat → Option PadSet
  | 0 => some .pad0
  | 1 => some .pad1
  | 2 => some .double
  | _ => none

/-- A session descriptor (spec/11). -/
structure Descriptor where
  padSet : Option PadSet
  laneCount : Nat
  noFail : Bool
  laneMap : Tab 12 Byte
  firstPage : Nat
  firstSeq : Nat
  n : Nat
  startLife : Int
  params : Params
deriving DecidableEq, Repr

def parseDescriptor (d : BitVec 640) : Descriptor :=
  { padSet := parsePadSet (fieldAt d 0x00 1),
    laneCount := fieldAt d 0x01 1,
    noFail := fieldAt d 0x02 1 != 0,
    laneMap := Tab.ofFn (fun i => BitVec.ofNat 8 (fieldAt d (0x04 + i.val) 1)),
    firstPage := fieldAt d 0x10 4,
    firstSeq := fieldAt d 0x14 2,
    n := fieldAt d 0x16 2,
    startLife := clampInt 1 Config.fullLife (fieldAt d 0x18 2),
    params := parseParams d }

/-- The header fields the fetcher uses (chapter 3). -/
structure PageHeader where
  tag : Nat
  link : Nat
  seq : Nat
  fill : Nat
deriving DecidableEq, Repr

def parseHeader (d : BitVec 128) : PageHeader :=
  { tag := fieldAt d 0x00 4, link := fieldAt d 0x04 4, seq := fieldAt d 0x08 2, fill := fieldAt d 0x0A 2 }

def parseKind : Nat → RecordKind
  | 1 => .tap
  | 2 => .hold
  | 3 => .avoid
  | 4 => .beat
  | 5 => .chartEnd
  | _ => .unknown

/-- The host fields of a note record (spec/11, Note record). -/
def parseRecord (d : BitVec 128) : NoteRecord :=
  { time := signedAt d 0x00 3, kind := parseKind (fieldAt d 0x03 1), length := fieldAt d 0x04 3,
    lane := fieldAt d 0x07 1, chord := fieldAt d 0x08 1, cue := fieldAt d 0x09 1 }

/-- The words of a request slot as its 32 bytes hold them, and the kind code (spec/11, Request slot). -/
def parseSlot (d : BitVec 256) : BitVec 16 × SlotWords :=
  (BitVec.ofNat 16 (fieldAt d 0x02 2),
    { tag := BitVec.ofNat 16 (fieldAt d 0x00 2), doneTag := BitVec.ofNat 16 (fieldAt d 0x12 2),
      arg0 := BitVec.ofNat 32 (fieldAt d 0x04 4), arg1 := BitVec.ofNat 32 (fieldAt d 0x08 4) })

/-! ### Structures the part writes -/

/-- The 8 bytes of a completion write: status, done tag, result word (R194, R202). -/
def completionBytes (status : Status) (tag : BitVec 16) (result : Word) : List Byte :=
  leBytes 2 status.code ++ leBytes 2 tag.toNat ++ leBytes 4 result.toNat

/-- The six result bytes of a record (R160). -/
def resultBytes (e : Entry) : List Byte :=
  leBytes 1 e.own.code ++ leBytes 1 e.unitGrade.code ++ leBytes 1 e.tail.code ++ leBytes 1 e.flags.code
    ++ leSigned 2 e.offset

/-- The done word of a retirement write (R164). -/
def retireBytes (seq : Nat) : List Byte := leBytes 4 seq

/-- The 24 bytes of the root block's fault record (spec/11). -/
def faultBytes (f : FaultRecord) : List Byte :=
  leBytes 1 f.kind.code
    ++ leBytes 1 (match f.player with | some .p0 => 0 | some .p1 => 1 | none => 0xFF)
    ++ leBytes 1 f.further ++ leBytes 1 f.recordIndex ++ leBytes 2 f.pageSeq ++ leBytes 2 0
    ++ leSigned 4 f.songTime ++ leBytes 12 0

/-- The 64 bytes of a scoreboard (R169, spec/11). -/
def boardBytes (serial : Nat) (songTime : Int) (state : PlayerState) (c : Score) (retiredThrough : Nat) : List Byte :=
  leBytes 4 serial ++ leSigned 4 songTime ++ leBytes 4 c.score ++ leBytes 4 c.finalized ++ leSigned 4 c.offsetSum
    ++ leBytes 1 state.code ++ leBytes 1 c.outcome.code ++ leBytes 2 c.flags.toNat
    ++ leSigned 2 c.life ++ leBytes 2 c.combo ++ leBytes 2 c.maxCombo
    ++ leBytes 2 c.apex ++ leBytes 2 c.solid ++ leBytes 2 c.fair ++ leBytes 2 c.thin ++ leBytes 2 c.lapse
    ++ leBytes 2 c.held ++ leBytes 2 c.dropped ++ leBytes 2 c.struck ++ leBytes 2 c.avoided
    ++ leBytes 2 c.voided ++ leBytes 2 c.assigned ++ leBytes 2 c.freeSteps ++ leBytes 2 c.offsetCount
    ++ leBytes 2 retiredThrough ++ leBytes 2 c.recordFaults ++ leBytes 4 0

/-- Bit `s` set when sensor `s` of the panel is FAILED (spec/11, Pad mirror). -/
def healthBits (pad : PadView) (p : PanelId) : Nat :=
  (sensorIds.map (fun s => if pad.healthy.get (channel p s) then 0 else 2 ^ s.val)).sum

/-- The 32 bytes of one pad mirror (R40, R171). -/
def mirrorBytes (pad : PadView) : List Byte :=
  leBytes 1 pad.state.code ++ leBytes 1 pad.panelCount
    ++ panelIds.flatMap (fun p =>
        leBytes 1 (pad.panels.get p).state.code ++ leBytes 1 (healthBits pad p) ++ leBytes 2 (pad.panels.get p).load)
    ++ leBytes 6 0

/-- The 48 bytes of a pad's baseline table (R37). -/
def tableBytes (pad : Pad) : List Byte :=
  pad.sensors.cells.flatMap (fun c => leBytes 2 (c.baseline / 16))

/-- The 440 bytes of a sensor dump (R39, spec/11). -/
def dumpBytes (songTime : Int) (serial : Nat) (pads : PerPad Pad) : List Byte :=
  leSigned 4 songTime ++ leBytes 4 serial
    ++ padIds.flatMap (fun i => panelIds.flatMap (fun p => sensorIds.flatMap (fun c =>
        let pad := pads.get i
        let x := pad.sensors.get (channel p c)
        let enabled := pad.state ≠ .unconfigured ∧ pad.profile.enables.getLsbD (channel p c).val
        leBytes 2 x.raw ++ leBytes 2 (x.baseline / 16) ++ leBytes 1 (if x.healthy then 0 else 1)
          ++ leBytes 1 (if enabled then 1 else 0))))
    ++ padIds.flatMap (fun i => panelIds.flatMap (fun p =>
        let x := (pads.get i).panels.get p
        leSigned 4 x.lastPress ++ leSigned 4 x.lastRelease ++ leBytes 1 x.state.code ++ leBytes 3 0))

end Sys2Proof.Machine
end

