-- ==== Sys2Proof/Decode.lean ====
section
/-! DEFINITION. What a word spells by the bits of the command table, and what the 32 bytes of a request slot spell by
spec/11 and R193. -/

namespace Sys2Proof

/-- No row of spec/opcode_table.json gives bits, so no word spells a command. -/
def decodeTableWord (_nbits _w : Nat) : Option Instr := none

/-- The command a kind stands for on the slot that takes it (R193). -/
def slotKindCommand (slot : SlotId) (kind : BitVec 16) (w : SlotWords) (first : Player) : Instr :=
  match Machine.takenKind slot kind, Machine.slotPlayer slot with
  | some .songStart, none => .songStart w
  | some .songPause, none => .songPause w
  | some .songResume, none => .songResume w
  | some .songStop, none => .songStop w first
  | some .loadProfile, none => .loadProfile w
  | some .calibrate, none => .calibrate w
  | some .sensorDump, none => .sensorDump w
  | some .arm, some pl => .arm pl w
  | some .abandon, some pl => .abandon pl w
  | some .refreshNow, some pl => .refreshNow pl w
  | _, _ => .unknownKind slot kind w

/-- The command that ends a slot read handing over these 32 bytes, when no song request waits (R193). -/
def slotCommand (slot : SlotId) (d : BitVec 256) (first : Player) : Instr :=
  let x := Machine.parseSlot d
  if x.2.tag = x.2.doneTag then .staleRequest slot x.2 else slotKindCommand slot x.1 x.2 first

end Sys2Proof
end

