-- ==== Sys2Proof/Machine/Flags.lean ====
section
/-! DEFINITION. The flags the part raises: the NOTICE bits and ALERT (R196), the Fault Record (R197, R198) and the
event flags of the players (R131). -/

namespace Sys2Proof.Machine

/-! ### NOTICE bits (R186) -/

def noticeSlot : SlotId → BitVec 8
  | .slot0 => 0x01
  | .slot1 => 0x02
  | .slot2 => 0x04
def noticeRefresh : BitVec 8 := 0x08
def noticeStage : BitVec 8 := 0x10
def noticeFault : BitVec 8 := 0x20
def noticeSync : BitVec 8 := 0x40
def noticeSensor : BitVec 8 := 0x80

/-- A cause sets a notice, whatever NOTICE_MASK holds (R196). -/
def State.raise (s : State) (bit : BitVec 8) : State := s.setNotices (s.notice ||| bit)

/-- ALERT: NOTICE and NOTICE_MASK share a set bit (R196). -/
def State.alert (s : State) : Bool := s.notice &&& s.mask != 0

/-! ### The Fault Record (R197, R198) -/

/-- One fault taken by the record: the first is recorded, later ones are counted up to 255 (R197). -/
def FaultRecord.take (f : FaultRecord) (kind : FaultKind) (player : Option Player) (pageSeq recordIndex : Nat)
    (songTime : Int) : FaultRecord :=
  if f.held then { f with further := satAdd 255 f.further, writePending := true }
  else
    { held := true, kind, player, pageSeq, recordIndex, songTime, further := f.further, writePending := true }

/-- A fault is logged: the record takes it and the FAULT notice is set (R197). -/
def State.logFaultAt (s : State) (kind : FaultKind) (player : Option Player) (pageSeq recordIndex : Nat)
    (songTime : Int) : State :=
  (s.setFault (s.fault.take kind player pageSeq recordIndex songTime)).raise noticeFault

/-- A fault logged with the song time at which the clock stands. -/
def State.logFault (s : State) (kind : FaultKind) (player : Option Player) (pageSeq recordIndex : Nat) : State :=
  s.logFaultAt kind player pageSeq recordIndex s.clock.songTime

/-- The re-armed record: empty, with its cleared copy to be written (R198). -/
def FaultRecord.rearmed : FaultRecord := { FaultRecord.clear with writePending := true }

/-! ### Event flags (R131, spec/11 Scoreboard) -/

def flagSyncLost : BitVec 16 := 0x001
def flagSyncBack : BitVec 16 := 0x002
def flagWriteLost : BitVec 16 := 0x004
def flagUnitOverrun : BitVec 16 := 0x008
def flagStarved : BitVec 16 := 0x010
def flagRecordFault : BitVec 16 := 0x020
def flagLifeFloor : BitVec 16 := 0x040
def flagSensorChange : BitVec 16 := 0x080
def flagForcedRelease : BitVec 16 := 0x100

def Score.setFlag (c : Score) (f : BitVec 16) : Score := { c with flags := c.flags ||| f }

/-- A cause sets an event flag of a player. -/
def State.flag (s : State) (pl : Player) (f : BitVec 16) : State := s.setScore pl ((s.scoreUnit pl).setFlag f)

/-- The Song Clock's flags reach both players (R131). -/
def State.flagBoth (s : State) (f : BitVec 16) : State := (s.flag .p0 f).flag .p1 f

/-- Pad Sense's flags reach the player that owns the pad, if any. -/
def State.flagOwner (s : State) (pad : PadId) (f : BitVec 16) : State :=
  match s.owner pad with
  | none => s
  | some pl => s.flag pl f

/-- The Song Clock reports a loss or a return of lock, or a run of anomalies: the SYNC notice and a flag of both
players (R6, R7, R8, R12, R14). -/
def State.reportSync (s : State) (f : BitVec 16) : State := (s.raise noticeSync).flagBoth f

end Sys2Proof.Machine
end

