-- ==== Sys2Proof/Machine/Score.lean ====
section
/-! DEFINITION. The Score Unit: the settlements it takes and what each does to points, life, combo and counts
(chapter 6, R117 to R136). -/

namespace Sys2Proof.Machine

/-- The counts of unit and tail settlements (R127). -/
inductive UnitCount where
  | apex | solid | fair | thin | lapse | held | dropped
deriving DecidableEq, Repr

/-- A settlement handed over by the Lane Judge or the fetcher (chapter 6, Taking settlements). -/
inductive Settlement where
  | unit (index : Nat) (count : UnitCount) (fraction : Nat) (delta : Int) (action : ComboAction)
  | void (index : Nat)
  | struck (delta : Int)
  | avoided
deriving DecidableEq, Repr

/-- The sum of the five grade counts, HELD, DROPPED and units voided (R128). -/
def Score.settledTotal (c : Score) : Nat :=
  c.apex + c.solid + c.fair + c.thin + c.lapse + c.held + c.dropped + c.voided

/-- R127: the count of one unit or tail settlement. -/
def Score.bump (c : Score) : UnitCount → Score
  | .apex => { c with apex := satAdd Config.top16 c.apex }
  | .solid => { c with solid := satAdd Config.top16 c.solid }
  | .fair => { c with fair := satAdd Config.top16 c.fair }
  | .thin => { c with thin := satAdd Config.top16 c.thin }
  | .lapse => { c with lapse := satAdd Config.top16 c.lapse }
  | .held => { c with held := satAdd Config.top16 c.held }
  | .dropped => { c with dropped := satAdd Config.top16 c.dropped }

/-- R128: a unit settlement is counted unless the settled total has reached units assigned, when UNIT_OVERRUN is set
instead. -/
def Score.countUnit (c : Score) (k : UnitCount) : Score :=
  if c.settledTotal = c.assigned then c.setFlag flagUnitOverrun else c.bump k

/-- R122, R128: the count of a VOID settlement. -/
def Score.countVoid (c : Score) : Score :=
  if c.settledTotal = c.assigned then c.setFlag flagUnitOverrun
  else { c with voided := satAdd Config.top16 c.voided }

/-- R121: a unit settlement of an index at or above N sets UNIT_OVERRUN. -/
def Score.overrun (c : Score) (index : Nat) : Score :=
  if c.n ≤ index then c.setFlag flagUnitOverrun else c

/-- The worth of unit `index` at full fraction (R118). -/
def Score.worth (c : Score) (index : Nat) : Nat := c.unitValue + (if index < c.remainder then 1 else 0)

/-- R120: the points of a unit settlement. -/
def Score.addPoints (c : Score) (index fraction : Nat) : Score :=
  if index < c.n then { c with score := c.score + c.worth index * fraction / Config.fullFraction } else c

/-- R123: the delta is added and the sum clamped, unless the outcome is already FAILED (R124). -/
def Score.addLife (c : Score) (delta : Int) : Score :=
  if c.outcome = .failed then c else { c with life := clampInt 0 Config.fullLife (c.life + delta) }

/-- The combo after a combo action (R126). -/
def comboAfter (combo : Nat) : ComboAction → Nat
  | .add => satAdd Config.top16 combo
  | .keep => combo
  | .break => 0

/-- R126. -/
def Score.addCombo (c : Score) (a : ComboAction) : Score :=
  { c with combo := comboAfter c.combo a, maxCombo := max c.maxCombo (comboAfter c.combo a) }

/-- Step 5 of R119: life at 0 fails the player (R124) or, with no-fail on, sets LIFE_FLOOR (R125). -/
def Score.checkLife (c : Score) : Score :=
  if c.life ≠ 0 then c
  else if c.noFail then c.setFlag flagLifeFloor
  else if c.outcome = .none then { c with outcome := .failed }
  else c

/-- R119: one settlement, applied whole: count, points, life, combo, failure. -/
def Score.apply (c : Score) : Settlement → Score
  | .unit index count fraction delta action =>
    ((((((c.countUnit count).overrun index).addPoints index fraction).addLife delta).addCombo action).checkLife)
  | .void index => c.countVoid.overrun index
  | .struck delta => (({ c with struck := satAdd Config.top16 c.struck }).addLife delta).checkLife
  | .avoided => (({ c with avoided := satAdd Config.top16 c.avoided }).addLife 0).checkLife

/-- R129: an offset joins the offset sum and the offset count. -/
def Score.takeOffset (c : Score) (d : Int) : Score :=
  { c with
    offsetSum := clampInt (-2147483648) 2147483647 (c.offsetSum + d),
    offsetCount := satAdd Config.top16 c.offsetCount }

/-- R84, R130. -/
def Score.freeStep (c : Score) : Score := { c with freeSteps := satAdd Config.top16 c.freeSteps }

/-- R54, R60, R130: a record fault is counted and RECORD_FAULT set. -/
def Score.recordFault (c : Score) : Score :=
  { (c.setFlag flagRecordFault) with recordFaults := satAdd Config.top16 c.recordFaults }

/-- R57, R128: the fetcher's unit counter has increased. -/
def Score.assign (c : Score) : Score := { c with assigned := satAdd Config.top16 c.assigned }

/-- R130: a result write has ended. -/
def Score.finalize (c : Score) : Score := { c with finalized := satAdd Config.top32 c.finalized }

/-- R117, R118: the Score Unit of a stage that begins. -/
def Score.start (n : Nat) (noFail : Bool) (startLife : Int) : Score :=
  { Score.clear .none with
    n, noFail, startLife, life := startLife, unitValue := Config.fullScore / n,
    remainder := Config.fullScore - Config.fullScore / n * n }

/-- The first cause names the outcome (R132). -/
def Score.conclude (c : Score) (o : StageOutcome) : Score :=
  if c.outcome = .none then { c with outcome := o } else c

/-! ### On the state -/

/-- A change of one Score Unit. -/
def State.onScore (s : State) (pl : Player) (f : Score → Score) : State := s.setScore pl (f (s.scoreUnit pl))

/-- The player's Score Unit takes a settlement (R119). -/
def State.settle (s : State) (pl : Player) (x : Settlement) : State := s.onScore pl (fun c => c.apply x)

end Sys2Proof.Machine
end

