-- ==== Sys2Proof/Machine/Lamps.lean ====
section
/-! DEFINITION. The Lamp Driver: base light, flashes, outputs and the PWM period (chapter 9, R176 to R185). -/

namespace Sys2Proof.Machine

/-- The output that lights a panel (R176). -/
def lampOf (a : Assign) (pad : PadId) (p : PanelId) : Fin 12 :=
  match a, pad with
  | .normal, .pad0 | .swapped, .pad1 => ⟨p.val, by omega⟩
  | .normal, .pad1 | .swapped, .pad0 => ⟨6 + p.val, by omega⟩

def Lamps.panel (l : Lamps) (pad : PadId) (p : PanelId) : LampPanel := (l.panels.get pad).get p

def Lamps.setPanel (l : Lamps) (pad : PadId) (p : PanelId) (x : LampPanel) : Lamps :=
  { l with panels := l.panels.set pad ((l.panels.get pad).set p x) }

/-- R180: the output level of a panel's lamp is formed afresh. -/
def Lamps.form (l : Lamps) (pad : PadId) (p : PanelId) : Lamps :=
  { l with output := l.output.set (lampOf l.assign pad p) (max (l.panel pad p).base (l.panel pad p).level) }

/-- R179: the base value of a panel. -/
def baseLight (f : LampField) : PanelState → Nat
  | .down | .falling => match f.mode with | .dark => 0 | .steady | .press => f.level
  | .up | .rising | .dead => match f.mode with | .steady => f.level | .dark | .press => 0
  | .off => 0

/-- R181: a trigger acts on one panel: the greater level is kept and the flash restarts at full length. -/
def Lamps.strike (l : Lamps) (pad : PadId) (p : PanelId) (level : Nat) : Lamps :=
  (l.setPanel pad p
    { l.panel pad p with
      level := max (l.panel pad p).level level, remaining := (l.fields.get pad).flashLength }).form pad p

/-- R183, R184: the flash of a panel is cancelled. -/
def Lamps.cancel (l : Lamps) (pad : PadId) (p : PanelId) : Lamps :=
  (l.setPanel pad p { l.panel pad p with level := 0, remaining := 0 }).form pad p

/-- R182: a flash that has come to its end. -/
def Lamps.endFlash (l : Lamps) (pad : PadId) (p : PanelId) : Lamps :=
  (l.setPanel pad p { l.panel pad p with level := 0 }).form pad p

/-- R182: the countdown step of one panel. -/
def Lamps.countDown (l : Lamps) (pad : PadId) (p : PanelId) : Lamps :=
  let x := l.panel pad p
  if x.remaining = 0 then l
  else
    let l := (l.setPanel pad p { x with remaining := x.remaining - 1 }).form pad p
    if x.remaining - 1 = 0 then l.endFlash pad p else l

/-- Every panel of both pads. -/
def allPanels : List (PadId × PanelId) := padIds.flatMap (fun i => panelIds.map (fun p => (i, p)))

/-- R182: the countdown step on every panel. -/
def Lamps.countDownAll (l : Lamps) : Lamps := allPanels.foldl (fun l x => l.countDown x.1 x.2) l

/-- The lamp fields a pad makes available at a round end (R40, R178). -/
def Pad.lampFields (pad : Pad) : LampFields :=
  if pad.state = .unconfigured then LampFields.unconfigured else pad.profile.lamps

/-- R176, R179, R180: at a round end the assignment and the lamp fields are read, each base value is formed and then
each output level. DESIGN CHOICE, log entry 37: the panel states are those after the round's evaluation (R179), so a panel
that D_on = 0 confirms in the first round after a load or a standby exit lights its PRESS lamp (R183, R184). -/
def Lamps.roundEnd (l : Lamps) (assign : Assign) (pads : PerPad Pad) : Lamps :=
  let fields : PerPad LampFields := ⟨pads.pad0.lampFields, pads.pad1.lampFields⟩
  let base (i : PadId) : Tab 6 LampPanel := (l.panels.get i).mapIdx (fun p x =>
    { x with base := baseLight ((fields.get i).panels.get p) ((pads.get i).panels.get p).state })
  let l := { l with assign, fields, panels := ⟨base .pad0, base .pad1⟩, enabled := true }
  allPanels.foldl (fun l x => l.form x.1 x.2) l

/-- R177: a PWM period starts; each output takes the level it holds, or stays inactive until the first round end after
standby. DESIGN CHOICE, log entry 34: the periods of the twelve outputs start together. -/
def Lamps.periodStart (l : Lamps) : Lamps :=
  { l with active := if l.enabled then l.output else Tab.fill 12 0 }

/-- R184: everything dark; the assignment and the fields last read stay. -/
def Lamps.dark (l : Lamps) : Lamps := { Lamps.reset with assign := l.assign, fields := l.fields }

/-- Whether lamp output `i` is active in cycle `cycle` (0..254) of the running PWM period (R177). -/
def State.lampPin (s : State) (i : Fin 12) (cycle : Nat) : Bool := cycle < s.lamps.active.get i

/-- The kinds of trigger (R181). -/
inductive Trigger where
  | beat | grade | strike
deriving DecidableEq, Repr

def LampField.takes (f : LampField) : Trigger → Bool
  | .beat => f.beat
  | .grade => f.grade
  | .strike => f.strike

/-- R181: a trigger of a player reaches one target panel: it acts if the player owns the pad, the panel is not OFF and
the panel takes that kind. DESIGN CHOICE, log entry 42: OFF is tested on the panel's present state. -/
def State.trigger (s : State) (pl : Player) (k : Trigger) (level : Nat) (pad : PadId) (p : PanelId) : State :=
  if s.owner pad = some pl ∧ ((s.pad pad).panels.get p).state ≠ .off
      ∧ ((s.lamps.fields.get pad).panels.get p).takes k
  then s.setLamps (s.lamps.strike pad p level)
  else s

/-- R74, R181: a BEAT trigger reaches every panel of every pad the player owns. -/
def State.triggerBeat (s : State) (pl : Player) (level : Nat) : State :=
  allPanels.foldl (fun s x => s.trigger pl .beat level x.1 x.2) s

end Sys2Proof.Machine
end

