-- ==== Sys2Proof/Machine/Ops.lean ====
section
/-! DEFINITION. Operations every block shares: asking the request client for a transfer, completing a request, making a
slot ready (R192 to R195), ending the transfer in flight (R200), and reading the player that owns what. -/

namespace Sys2Proof.Machine

/-! ### Run state -/

/-- The part is out of standby and not being reset: strobes, pulses and the events of the blocks are taken (R1, R187). -/
abbrev State.Operating (s : State) : Prop := s.run = .operating

/-- `f s` while the part is OPERATING, nothing otherwise. -/
def State.whenOperating (s : State) (f : State → State) : State := if s.Operating then f s else s

/-! ### The window (R188, R200) -/

/-- The first and the last of `len` bytes at `addr` lie in the window (R200). -/
def Window.holds (w : Window) (addr len : Nat) : Bool := w.low ≤ addr ∧ addr + len - 1 ≤ w.high

/-! ### The request client's work list (R195) -/

/-- A transfer joins the back of the work list. -/
def State.ask (s : State) (w : Work) : State := s.setWork (s.work ++ [w])

/-! ### Completions (R194) -/

/-- A completion is handed to the request client and counts as unwritten for its slot. -/
def State.complete (s : State) (slot : SlotId) (tag : BitVec 16) (status : Status) (result : Word) : State :=
  (s.setSlot slot { s.slot slot with unwritten := (s.slot slot).unwritten + 1 }).ask (.completion slot status tag result)

/-- The request executing on a slot completes; its executing ends. -/
def State.finishExecuting (s : State) (slot : SlotId) (status : Status) (result : Word) : State :=
  match (s.slot slot).executing with
  | none => s
  | some r => (s.setSlot slot { s.slot slot with executing := none }).complete slot r.tag status result

/-- A request is taken and executes until it completes. -/
def State.execute (s : State) (slot : SlotId) (r : Request) : State :=
  s.setSlot slot { s.slot slot with executing := some r }

/-! ### Slots that are ready to be read (R192) -/

/-- R192: attention pending, no read in flight, no executing request, no unwritten completion. On slot 0 the held
request of the Song Clock counts as executing; a waiting song request does not (R10). -/
def State.slotReady (s : State) (slot : SlotId) : Bool :=
  let x := s.slot slot
  x.attention && !x.readInFlight && x.executing.isNone && x.unwritten == 0
    && (slot != .slot0 || s.clock.held.isNone)

/-- A slot that has become ready: its read joins the back of the work list. -/
def State.readIfReady (s : State) (slot : SlotId) : State :=
  if s.slotReady slot then (s.setSlot slot { s.slot slot with readInFlight := true }).ask (.slotRead slot) else s

/-- R192: slots made ready together are read in the order slot 0, slot 1, slot 2. -/
def State.readReadySlots (s : State) : State :=
  ((s.readIfReady .slot0).readIfReady .slot1).readIfReady .slot2

/-! ### Ending a transfer (R200) -/

/-- The bus is free for the next grant. -/
def State.freeBus (s : State) : State := s.setBus { s.bus with inFlight := none }

/-- The ending of a transfer of the kind `is` tells: the bus is freed, and unless the ending is reported to no block
(R189, R190) the block concerned deals with it as `deal` says. With no such transfer in flight nothing ends. -/
def State.endTransfer (s : State) (is : Xfer → Bool) (deal : Xfer → State → State) : State :=
  match s.bus.inFlight with
  | none => s
  | some t =>
    if is t.what then
      if t.silent then s.freeBus else deal t.what s.freeBus
    else s

/-! ### Pads and lanes of a player -/

/-- A change of one panel. -/
def State.onPanel (s : State) (pad : PadId) (p : PanelId) (f : Panel → Panel) : State :=
  s.setPad pad { s.pad pad with panels := (s.pad pad).panels.modify p f }

/-- The pad and panel of a lane of the player's session (R73). -/
def State.laneTargetOf (s : State) (pl : Player) (lane : Nat) : Option (PadId × PanelId) :=
  if h : lane < 12 then laneTarget ((s.session pl).laneMap.get ⟨lane, h⟩) else none

/-- The lane of the player's session that names a panel (R73). -/
def State.laneOf (s : State) (pl : Player) (pad : PadId) (p : PanelId) : Option Nat :=
  (List.range (s.session pl).laneCount).find? (fun l => s.laneTargetOf pl l = some (pad, p))

/-- D_on of a lane's pad (R73). -/
def State.laneDOn (s : State) (pl : Player) (lane : Nat) : Nat :=
  match s.laneTargetOf pl lane with
  | none => 0
  | some t => (s.pad t.1).profile.dOn

/-- D_off of a lane's pad (R73). -/
def State.laneDOff (s : State) (pl : Player) (lane : Nat) : Nat :=
  match s.laneTargetOf pl lane with
  | none => 0
  | some t => (s.pad t.1).profile.dOff

/-- A panel that counts as pressed: DOWN or FALLING (R25). -/
def PanelState.pressed : PanelState → Bool
  | .down | .falling => true
  | _ => false

/-- Pad Sense clears the hold-active indications of a pad (R31). -/
def Pad.clearHolds (pad : Pad) : Pad :=
  { pad with panels := pad.panels.mapIdx (fun _ x => { x with holdActive := false }) }

/-- The Lane Judge sets or clears the hold-active indication of a lane's panel (R31). -/
def State.markHold (s : State) (pl : Player) (lane : Nat) (on : Bool) : State :=
  match s.laneTargetOf pl lane with
  | none => s
  | some t => s.onPanel t.1 t.2 (fun x => { x with holdActive := on })

/-- Both players in the order given. -/
def State.eachPlayer (s : State) (first : Player) (f : Player → State → State) : State := f first.other (f first s)

end Sys2Proof.Machine
end

