-- ==== Sys2Proof/Machine/Judge.lean ====
section
/-! DEFINITION. The Lane Judge's entries: what ends, grades and settles one of them (chapters 4 and 5), without the
closing of a player. -/

namespace Sys2Proof.Machine

/-! ### Reading and changing the blocks of one player -/

def State.onJudge (s : State) (pl : Player) (f : Judge → Judge) : State := s.setJudge pl (f (s.judge pl))
def State.onFetcher (s : State) (pl : Player) (f : Fetcher → Fetcher) : State := s.setFetcher pl (f (s.fetcher pl))
def State.onWriter (s : State) (pl : Player) (f : Writer → Writer) : State := s.setWriter pl (f (s.writer pl))
def State.onSession (s : State) (pl : Player) (f : Session → Session) : State := s.setSession pl (f (s.session pl))

/-- Entry `i` of the pool. -/
def Judge.entry (j : Judge) (i : Nat) : Entry := j.pool.getD i Entry.blank

def State.entry (s : State) (pl : Player) (i : Nat) : Entry := (s.judge pl).entry i

def Judge.onEntry (j : Judge) (i : Nat) (f : Entry → Entry) : Judge := { j with pool := j.pool.modify i f }

def State.onEntry (s : State) (pl : Player) (i : Nat) (f : Entry → Entry) : State :=
  s.onJudge pl (fun j => j.onEntry i f)

def State.params (s : State) (pl : Player) : Params := (s.judge pl).params

/-! ### Leaving lists, becoming FINAL, reporting room -/

/-- TAP, HOLD and AVOID records name a lane (chapter 3). -/
def RecordKind.laneBound : RecordKind → Bool
  | .tap | .hold | .avoid => true
  | _ => false

/-- R56, R72: the judge reports to the fetcher that an entry has left lane `lane` (or, with `none`, that the beat list
or the chord table has room). A fetcher in STALLED whose record the report concerns has a retry to make. -/
def State.reportRoom (s : State) (pl : Player) (lane : Option Nat) : State :=
  s.onFetcher pl (fun f =>
    match f.state, f.inHand with
    | .stalled, some r =>
      if lane = none ∨ (r.kind.laneBound ∧ lane = some r.lane) then { f with roomReport := true } else f
    | _, _ => f)

/-- R71, R159: an entry becomes FINAL and its result item joins the back of the player's write queue. -/
def State.makeFinal (s : State) (pl : Player) (i : Nat) : State :=
  (s.onEntry pl i (fun e => { e with state := .final })).onWriter pl (fun w =>
    { w with queue := w.queue ++ [.result i] })

/-- The lane lists without entry `i` in lane `lane`. -/
def Judge.dropFromLane (j : Judge) (lane i : Nat) : Judge :=
  if h : lane < 12 then { j with lanes := j.lanes.modify ⟨lane, h⟩ (fun l => l.erase i) } else j

/-- R72: an entry leaves its lane list, and the leaving is reported. -/
def State.leaveLane (s : State) (pl : Player) (i : Nat) : State :=
  let lane := (s.entry pl i).record.lane
  (s.onJudge pl (fun j => j.dropFromLane lane i)).reportRoom pl (some lane)

/-- R74: an entry leaves the beat list, and the leaving is reported. -/
def State.leaveBeats (s : State) (pl : Player) (i : Nat) : State :=
  (s.onJudge pl (fun j => { j with beats := j.beats.erase i })).reportRoom pl none

/-! ### Effective times and dues (R77, Due times at a glance) -/

/-- The effective time t' = t + o. -/
def Judge.effective (j : Judge) (e : Entry) : Int := e.record.time + j.params.offset

/-- The effective end E' = t + length + o of a hold (R95). -/
def Judge.holdEnd (j : Judge) (e : Entry) : Int := e.record.time + e.record.length + j.params.offset

def lapseDueAt (params : Params) (time : Int) (dOn : Nat) : Int :=
  capTime (time + params.offset + params.thin.late + dOn + 1)

def avoidDueAt (params : Params) (time : Int) (dOn : Nat) : Int :=
  capTime (time + params.offset + params.avoidWindow + dOn + 1)

/-- R88. -/
def State.lapseDue (s : State) (pl : Player) (e : Entry) : Int :=
  lapseDueAt (s.params pl) e.record.time (s.laneDOn pl e.record.lane)

/-- R104, R74. -/
def State.effectiveDue (s : State) (pl : Player) (e : Entry) : Int := capTime ((s.judge pl).effective e)

/-- R107. -/
def State.avoidSettleDue (s : State) (pl : Player) (e : Entry) : Int :=
  avoidDueAt (s.params pl) e.record.time (s.laneDOn pl e.record.lane)

/-- R100. -/
def State.settleDue (s : State) (pl : Player) (e : Entry) : Int :=
  capTime ((s.judge pl).holdEnd e + s.laneDOff pl e.record.lane + 1)

/-- R99: the grace due of a hold slipping since `q`. -/
def State.graceDue (s : State) (pl : Player) (e : Entry) (q : Int) : Int :=
  capTime (q + (s.params pl).grace + s.laneDOn pl e.record.lane + 1)

/-- R99, R100: the grace of a slip at `q` reaches the hold's end. -/
def State.graceReachesEnd (s : State) (pl : Player) (e : Entry) (q : Int) : Bool :=
  (s.judge pl).holdEnd e ≤ q + (s.params pl).grace

/-- The one due time of an entry that will change something: lapse, beat, crossing then avoid settle, and for a hold
its settle due, or its grace due when its slip runs out before its end (R99 to R101). -/
def State.nextDueOf (s : State) (pl : Player) (e : Entry) : Option Int :=
  match e.state with
  | .waiting => some (s.lapseDue pl e)
  | .scheduled => some (s.effectiveDue pl e)
  | .watching => some (if e.crossed then s.avoidSettleDue pl e else s.effectiveDue pl e)
  | .held => some (s.settleDue pl e)
  | .slipping =>
    match e.slip with
    | none => none
    | some q => some (if s.graceReachesEnd pl e q then s.settleDue pl e else s.graceDue pl e q)
  | _ => none

/-! ### Grades and chords (R81, R109 to R111) -/

/-- The grade row of a grade given by a press. -/
def Params.row (p : Params) : Grade → Option (UnitCount × GradeRow)
  | .apex => some (.apex, p.apex)
  | .solid => some (.solid, p.solid)
  | .fair => some (.fair, p.fair)
  | .thin => some (.thin, p.thin)
  | _ => none

/-- The settlement of a unit with its grade (R75, R82, R88, R111): APEX..THIN with the grade's row, LAPSE with fraction
0 and BREAK, VOID as such. -/
def Params.settlement (p : Params) (unit : Nat) (g : Grade) : Settlement :=
  match p.row g with
  | some (count, row) => .unit unit count row.fraction row.delta row.action
  | none => if g = .lapse then .unit unit .lapse 0 p.lapseDelta .break else .void unit

/-- R110: APEX, SOLID, FAIR, THIN, LAPSE, VOID, best first. -/
def Grade.rank : Grade → Nat
  | .apex => 0 | .solid => 1 | .fair => 2 | .thin => 3 | .lapse => 4 | _ => 5

/-- R110: the worst grade after one more report. -/
def worseGrade (worst : Option Grade) (g : Grade) : Grade :=
  match worst with
  | none => g
  | some w => if w.rank < g.rank then g else w

def Judge.chord (j : Judge) (k : Fin 8) : Option Chord := j.chords.get k

def State.chord (s : State) (pl : Player) (k : Fin 8) : Option Chord := (s.judge pl).chord k

def State.setChord (s : State) (pl : Player) (k : Fin 8) (c : Option Chord) : State :=
  s.onJudge pl (fun j => { j with chords := j.chords.set k c })

/-- A member that is JUDGED becomes FINAL (R111, step 3). -/
def State.finishMember (s : State) (pl : Player) (i : Nat) : State :=
  if (s.entry pl i).state = .judged then s.makeFinal pl i else s

/-- R111: a chord settles with its worst grade. -/
def State.settleChord (s : State) (pl : Player) (k : Fin 8) : State :=
  match s.chord pl k with
  | none => s
  | some c =>
    let g := c.worst.getD .void
    let s := s.settle pl ((s.params pl).settlement c.unit g)
    let s := c.members.foldl (fun s i => s.onEntry pl i (fun e => { e with unitGrade := g })) s
    let s := c.members.foldl (fun s i => s.finishMember pl i) s
    let s := c.members.foldl (fun s i => s.onEntry pl i (fun e => { e with chord := none })) s
    (s.setChord pl k none).reportRoom pl none

/-- R110, R60: the chord settles when every member has reported. -/
def State.settleChordIfComplete (s : State) (pl : Player) (k : Fin 8) : State :=
  match s.chord pl k with
  | none => s
  | some c => if c.judged = c.expected then s.settleChord pl k else s

/-- R110: a member reports its own grade to its chord. -/
def State.reportGrade (s : State) (pl : Player) (k : Fin 8) (g : Grade) : State :=
  match s.chord pl k with
  | none => s
  | some c =>
    (s.setChord pl k (some { c with judged := c.judged + 1, worst := some (worseGrade c.worst g) })).settleChordIfComplete
      pl k

/-- The settlement of a record's own unit index, when it has one. -/
def State.settleUnitOf (s : State) (pl : Player) (unit : Option Nat) (g : Grade) : State :=
  match unit with
  | none => s
  | some u => s.settle pl ((s.params pl).settlement u g)

/-- R82: a TAP whose own grade has been given. -/
def State.finishTap (s : State) (pl : Player) (i : Nat) : State :=
  let s := s.leaveLane pl i
  let e := s.entry pl i
  match e.chord with
  | none =>
    ((s.onEntry pl i (fun e => { e with unitGrade := e.own })).makeFinal pl i).settleUnitOf pl e.unit e.own
  | some k => (s.onEntry pl i (fun e => { e with state := .judged })).reportGrade pl k e.own

/-- The head unit of a hold is settled, or its grade reported to its chord (R83, R88). -/
def State.settleHead (s : State) (pl : Player) (i : Nat) : State :=
  let e := s.entry pl i
  match e.chord with
  | none => (s.onEntry pl i (fun e => { e with unitGrade := e.own })).settleUnitOf pl e.unit e.own
  | some k => s.reportGrade pl k e.own

/-- A tail settlement (R102, R103). -/
def State.settleTail (s : State) (pl : Player) (tailUnit : Option Nat) (held : Bool) (delta : Int) : State :=
  match tailUnit with
  | none => s
  | some u =>
    s.settle pl (if held then .unit u .held Config.fullFraction delta .add else .unit u .dropped 0 delta .break)

/-- R102, step 4: FINAL when it stands alone or its chord has settled, else JUDGED. -/
def State.finalOrJudged (s : State) (pl : Player) (i : Nat) : State :=
  if (s.entry pl i).chord = none then s.makeFinal pl i else s.onEntry pl i (fun e => { e with state := .judged })

/-- R102: a hold's tail completes. DESIGN CHOICE, log entry 36: the panel's hold-active indication is cleared (R102, step 3) also
while another hold of the lane is HELD or SLIPPING (R31). -/
def State.completeTail (s : State) (pl : Player) (i : Nat) (held : Bool) : State :=
  let e := s.entry pl i
  let s := s.onEntry pl i (fun e => { e with tail := if held then .held else .dropped })
  let s := s.settleTail pl e.tailUnit held (if held then (s.params pl).heldDelta else (s.params pl).droppedDelta)
  let s := (s.markHold pl e.record.lane false).leaveLane pl i
  s.finalOrJudged pl i

/-- R95: a hold enters HELD; a settle due already reached completes it at once. -/
def State.enterHeld (s : State) (pl : Player) (i : Nat) : State :=
  let s := s.onEntry pl i (fun e => { e with state := .held, slip := none })
  let e := s.entry pl i
  let s := s.markHold pl e.record.lane true
  if s.settleDue pl e ≤ (s.judge pl).judged then s.completeTail pl i true else s

/-- R99, R100: the due time that ends a slipping hold is served. -/
def State.endSlip (s : State) (pl : Player) (i : Nat) (q : Int) : State :=
  s.completeTail pl i (s.graceReachesEnd pl (s.entry pl i) q)

/-- A hold slips at `q` (R92, R96). -/
def State.slipAt (s : State) (pl : Player) (i : Nat) (q : Int) (forced : Bool) : State :=
  s.onEntry pl i (fun e =>
    { e with
      state := .slipping, slip := some q,
      flags := if forced then { e.flags with forced := true } else e.flags })

/-- R96: a release slips a HELD hold; a due already reached is served at once. -/
def State.slipHold (s : State) (pl : Player) (i : Nat) (q : Int) (forced : Bool) : State :=
  let s := s.slipAt pl i q forced
  match s.nextDueOf pl (s.entry pl i) with
  | none => s
  | some due => if due ≤ (s.judge pl).judged then s.endSlip pl i q else s

/-- R81: whether a grade's window contains the offset. -/
def GradeRow.contains (g : GradeRow) (d : Int) : Bool := -(g.early : Int) ≤ d ∧ d ≤ g.late

/-- R81: the narrowest grade whose window contains the offset. -/
def Params.gradeOf (p : Params) (d : Int) : Grade :=
  if p.apex.contains d then .apex
  else if p.solid.contains d then .solid
  else if p.fair.contains d then .fair
  else .thin

/-- The GRADE or STRIKE trigger of a lane's panel (R181). -/
def State.triggerLane (s : State) (pl : Player) (k : Trigger) (level : Nat) (lane : Nat) : State :=
  match s.laneTargetOf pl lane with
  | none => s
  | some t => s.trigger pl k level t.1 t.2

/-- R81 to R83: the chosen entry is graded by a press at offset `d`. -/
def State.gradeEntry (s : State) (pl : Player) (i : Nat) (d : Int) : State :=
  let g := (s.params pl).gradeOf d
  let s := s.onEntry pl i (fun e => { e with own := g, offset := d })
  let e := s.entry pl i
  let s := s.onScore pl (fun c => c.takeOffset d)
  let s := s.triggerLane pl .grade e.record.cue e.record.lane
  if e.record.kind = .hold then
    ((s.onEntry pl i (fun e => { e with state := .held })).settleHead pl i).enterHeld pl i
  else s.finishTap pl i

/-- R88, R103: a WAITING entry lapses. -/
def State.lapseEntry (s : State) (pl : Player) (i : Nat) : State :=
  let s := s.onEntry pl i (fun e => { e with own := .lapse, offset := 0 })
  let e := s.entry pl i
  if e.record.kind = .hold then
    let s := (s.leaveLane pl i).settleHead pl i
    let s := s.onEntry pl i (fun e => { e with tail := .dropped })
    (s.settleTail pl e.tailUnit false 0).finalOrJudged pl i
  else s.finishTap pl i

/-- R106: a WATCHING entry is struck at offset `d`. -/
def State.strikeEntry (s : State) (pl : Player) (i : Nat) (d : Int) : State :=
  let e := s.entry pl i
  let s := s.onEntry pl i (fun e => { e with own := .struck, unitGrade := .struck, tail := .none, offset := d })
  let s := (s.leaveLane pl i).makeFinal pl i
  let s := s.settle pl (.struck (s.params pl).struckDelta)
  s.triggerLane pl .strike 255 e.record.lane

/-- R107: a WATCHING entry is settled AVOIDED. -/
def State.avoidEntry (s : State) (pl : Player) (i : Nat) : State :=
  let s := s.onEntry pl i (fun e => { e with own := .avoided, unitGrade := .avoided, tail := .none, offset := 0 })
  ((s.leaveLane pl i).makeFinal pl i).settle pl .avoided

/-- R104: the crossing of a WATCHING entry, with the state its panel had at the most recently completed round. -/
def State.crossEntry (s : State) (pl : Player) (i : Nat) (panel : PanelState) : State :=
  if panel.pressed then s.strikeEntry pl i 0 else s.onEntry pl i (fun e => { e with crossed := true })

/-- R74: a beat entry is passed. -/
def State.passBeat (s : State) (pl : Player) (i : Nat) : State :=
  let e := s.entry pl i
  let s := s.onEntry pl i (fun e =>
    { e with own := .passed, unitGrade := .passed, tail := .none, offset := 0, flags := ResultFlags.clear })
  ((s.makeFinal pl i).leaveBeats pl i).triggerBeat pl e.record.cue

end Sys2Proof.Machine
end

