-- ==== Sys2Proof/Machine/Closing.lean ====
section
/-! DEFINITION. The end of a stage: stopping the fetcher (R68), finishing the judge's entries (R113 to R116), entering
CLOSING (R152), asking for the final scoreboard (R154) and the clearing check (R133). -/

namespace Sys2Proof.Machine

/-- An entry returns to the pool (R48, R70). -/
def State.freeEntry (s : State) (pl : Player) (i : Nat) : State := s.onEntry pl i (fun _ => Entry.blank)

/-- The fetcher's reserved entry, if any, returns to the pool. -/
def State.returnReserved (s : State) (pl : Player) : State :=
  match (s.fetcher pl).reserved with
  | none => s
  | some i => (s.freeEntry pl i).onFetcher pl (fun f => { f with reserved := none })

/-- R68: the fetcher of a player that enters CLOSING. -/
def Fetcher.stop (f : Fetcher) : Fetcher :=
  { f with
    state := match f.state with | .ended => .ended | .halted => .halted | _ => .idle,
    inHand := none, assembly := none, roomReport := false,
    read := f.read.map (fun r => { r with discard := true }) }

def State.stopFetcher (s : State) (pl : Player) : State := (s.returnReserved pl).onFetcher pl Fetcher.stop

/-- The occupied chord table entries in increasing order of unit index (R114). -/
def Judge.chordOrder (j : Judge) : List (Fin 8) :=
  ((List.finRange 8).filter (fun k => (j.chord k).isSome)).insertionSort (fun a b =>
    ((j.chord a).map Chord.unit).getD 0 ≤ ((j.chord b).map Chord.unit).getD 0)

/-- R114: one chord is settled VOID; its members keep their chord field until R115 has finished them. -/
def State.voidChord (s : State) (pl : Player) (k : Fin 8) : State :=
  match s.chord pl k with
  | none => s
  | some c =>
    let s := s.settle pl (.void c.unit)
    let s := c.members.foldl (fun s i => s.onEntry pl i (fun e => { e with unitGrade := .void })) s
    s.setChord pl k none

/-- The states of an entry that R115 finishes. -/
def EntryState.unfinished : EntryState → Bool
  | .final | .free | .reserved => false
  | _ => true

/-- The unfinished pool entries in chart order (R89, R115). -/
def Judge.unfinishedOrder (j : Judge) : List Nat :=
  ((List.range j.pool.length).filter (fun i => (j.entry i).state.unfinished)).insertionSort (fun a b =>
    (j.entry a).chartNo ≤ (j.entry b).chartNo)

/-- A VOID settlement of a unit index that the record carries. -/
def State.voidUnit (s : State) (pl : Player) (unit : Option Nat) : State :=
  match unit with
  | none => s
  | some u => s.settle pl (.void u)

/-- R115: one entry is finished by its state, leaves its list and becomes FINAL. -/
def State.finishEntry (s : State) (pl : Player) (i : Nat) : State :=
  let e := s.entry pl i
  let clean (s : State) : State :=
    ((s.onEntry pl i (fun e => { e with chord := none })).onJudge pl (fun j =>
      { j.dropFromLane e.record.lane i with beats := j.beats.erase i })).makeFinal pl i
  match e.state with
  | .waiting =>
    let s := s.onEntry pl i (fun e => { e with own := .void, offset := 0 })
    let s := if e.chord = none then (s.onEntry pl i (fun e => { e with unitGrade := .void })).voidUnit pl e.unit else s
    let s :=
      if e.record.kind = .hold then (s.onEntry pl i (fun e => { e with tail := .cut })).voidUnit pl e.tailUnit else s
    clean s
  | .watching =>
    clean (s.onEntry pl i (fun e => { e with own := .void, unitGrade := .void, tail := .none, offset := 0 }))
  | .scheduled =>
    clean (s.onEntry pl i (fun e => { e with own := .passed, unitGrade := .passed, tail := .none, offset := 0 }))
  | .held | .slipping =>
    let s := (s.onEntry pl i (fun e => { e with tail := .cut })).voidUnit pl e.tailUnit
    clean (s.markHold pl e.record.lane false)
  | .judged => clean s
  | _ => s

/-- R114, then R115. -/
def State.finishEntries (s : State) (pl : Player) : State :=
  let s := (s.judge pl).chordOrder.foldl (fun s k => s.voidChord pl k) s
  (s.judge pl).unfinishedOrder.foldl (fun s i => s.finishEntry pl i) s

/-- R154, first stage: a CLOSING player with an empty write queue, no write of it in flight and no fetch read in flight
asks for its final scoreboard, once. -/
def State.askFinal (s : State) (pl : Player) : State :=
  if (s.session pl).state = .closing ∧ ¬ (s.session pl).finalAsked ∧ (s.writer pl).queue = []
      ∧ (s.writer pl).inFlight = none ∧ (s.fetcher pl).read = none
  then
    (s.onSession pl (fun x => { x with finalAsked := true })).setRefresh
      { s.refresh with
        jobs := s.refresh.jobs ++ [{ kind := .final pl, todo := [.finalBoard pl], started := false }] }
  else s

/-- R152: the player enters CLOSING with the outcome its cause names, in the order of the rule's steps. -/
def State.enterClosing (s : State) (pl : Player) (o : StageOutcome) : State :=
  let s := s.onScore pl (fun c => c.conclude o)
  let s := s.onSession pl (fun x => { x with state := .closing, finalAsked := false })
  ((s.stopFetcher pl).finishEntries pl).askFinal pl

/-- R113, R124: a step of the judge ends; a player whose outcome it made FAILED enters CLOSING. -/
def State.endJudgeStep (s : State) (pl : Player) : State :=
  if (s.session pl).state = .playing ∧ (s.scoreUnit pl).outcome = .failed then s.enterClosing pl .failed else s

/-- An entry is in use (R70). -/
def Entry.inUse (e : Entry) : Bool := e.state != .free

/-- R133: the clearing check. -/
def State.clearingCheck (s : State) (pl : Player) : State :=
  match (s.scoreUnit pl).endTime with
  | none => s
  | some t =>
    if (s.session pl).state = .playing ∧ (s.scoreUnit pl).outcome = .none
        ∧ (s.judge pl).pool.all (fun e => !e.inUse) ∧ t ≤ (s.judge pl).judged
    then s.enterClosing pl .cleared
    else s

end Sys2Proof.Machine
end

