-- ==== Sys2Proof/Machine/Matching.lean ====
section
/-! DEFINITION. What the Lane Judge does with presses, releases, new song times and resumes (R73 to R108), each as a
whole step that ends with R113. -/

namespace Sys2Proof.Machine

/-! ### Presses (R78 to R84) -/

/-- The entries of a lane list, in order. -/
def Judge.lane (j : Judge) (l : Nat) : List Nat := if h : l < 12 then j.lanes.get ⟨l, h⟩ else []

/-- The lane's entry in state `st` that stands first, if any. -/
def Judge.firstIn (j : Judge) (l : Nat) (st : EntryState) : Option Nat :=
  (j.lane l).find? (fun i => (j.entry i).state = st)

/-- R97: a press at `p` rescues a hold slipping since `q`. -/
def Judge.rescues (j : Judge) (e : Entry) (p : Int) : Bool :=
  match e.slip with
  | none => false
  | some q => p ≤ q + j.params.grace

/-- R80: the first WAITING entry of the lane whose THIN window contains the press. -/
def Judge.matchPress (j : Judge) (l : Nat) (p : Int) : Option Nat :=
  (j.lane l).find? (fun i =>
    (j.entry i).state = .waiting ∧ j.params.thin.contains (p - j.effective (j.entry i)))

/-- R105: one avoid entry tests the press. -/
def State.testAvoid (s : State) (pl : Player) (p : Int) (i : Nat) : State :=
  let e := s.entry pl i
  let d := p - (s.judge pl).effective e
  if e.state = .watching ∧ -((s.params pl).avoidWindow : Int) ≤ d ∧ d ≤ (s.params pl).avoidWindow
  then s.strikeEntry pl i d
  else s

/-- Steps 2 to 4 of R79. -/
def State.matchOrFree (s : State) (pl : Player) (l : Nat) (p : Int) : State :=
  let s := ((s.judge pl).lane l).foldl (fun s i => s.testAvoid pl p i) s
  match (s.judge pl).matchPress l p with
  | some i => s.gradeEntry pl i (p - (s.judge pl).effective (s.entry pl i))
  | none => s.onScore pl Score.freeStep

/-- R79: the press is used: a rescue uses it up, else it goes on to the avoid notes and the match. DESIGN CHOICE, log entry 41: of
two SLIPPING holds of the lane the press is offered to the one that stands first in the lane list. -/
def State.usePress (s : State) (pl : Player) (l : Nat) (p : Int) : State :=
  match (s.judge pl).firstIn l .slipping with
  | some i => if (s.judge pl).rescues (s.entry pl i) p then s.enterHeld pl i else s.matchOrFree pl l p
  | none => s.matchOrFree pl l p

/-- R78: a press of a lane, by the player's and the clock's state. -/
def State.judgePress (s : State) (pl : Player) (pad : PadId) (p : PanelId) (stamp : Int) : State :=
  match s.laneOf pl pad p with
  | none => s
  | some l =>
    if (s.session pl).state = .playing then
      match s.clock.state with
      | .running => (s.usePress pl l stamp).endJudgeStep pl
      | .paused => s.onScore pl Score.freeStep
      | _ => s
    else s

/-- R85, R96: a release of a lane reaches its HELD hold. DESIGN CHOICE, log entry 41: of two HELD holds of the lane it reaches the
one that stands first in the lane list. -/
def State.judgeRelease (s : State) (pl : Player) (pad : PadId) (p : PanelId) (stamp : Int) (forced : Bool) : State :=
  match s.laneOf pl pad p with
  | none => s
  | some l =>
    if (s.session pl).state = .playing ∧ s.clock.state = .running then
      match (s.judge pl).firstIn l .held with
      | none => s
      | some i => (s.slipHold pl i stamp forced).endJudgeStep pl
    else s

/-! ### Due times (R87 to R89) -/

/-- The state of a lane's panel among the pads given. -/
def State.lanePanelIn (s : State) (pads : PerPad Pad) (pl : Player) (lane : Nat) : PanelState :=
  match s.laneTargetOf pl lane with
  | none => .off
  | some t => ((pads.get t.1).panels.get t.2).state

/-- One due time is served. `seen` are the pads as of the most recently completed round (R104). -/
def State.serveDue (s : State) (seen : PerPad Pad) (pl : Player) (i : Nat) : State :=
  let e := s.entry pl i
  match e.state with
  | .waiting => s.lapseEntry pl i
  | .scheduled => s.passBeat pl i
  | .watching =>
    if e.crossed then s.avoidEntry pl i else s.crossEntry pl i (s.lanePanelIn seen pl e.record.lane)
  | .held => s.completeTail pl i true
  | .slipping =>
    match e.slip with
    | none => s
    | some q => s.endSlip pl i q
  | _ => s

/-- R89: of two reached due times the lower comes first, and of equal ones the one earlier in chart order. -/
def dueBefore (a b : Int × Nat) : Bool := a.1 < b.1 ∨ (a.1 = b.1 ∧ a.2 < b.2)

/-- The entry among `l` whose due time at or below `v` comes first. -/
def State.firstDue (s : State) (pl : Player) (v : Int) : List Nat → Option (Nat × (Int × Nat))
  | [] => none
  | i :: l =>
    let rest := s.firstDue pl v l
    match s.nextDueOf pl (s.entry pl i) with
    | none => rest
    | some due =>
      if due ≤ v then
        match rest with
        | none => some (i, (due, (s.entry pl i).chartNo))
        | some r => if dueBefore r.2 (due, (s.entry pl i).chartNo) then some r else some (i, (due, (s.entry pl i).chartNo))
      else rest

/-- R87, R89: every due time at or below `v` is served, each as a judge's step, while the player is PLAYING. DESIGN CHOICE, log
entry 40: a STALLED record whose room one of them frees is placed after the last of them. -/
def State.serveDues (s : State) (seen : PerPad Pad) (pl : Player) (v : Int) : Nat → State
  | 0 => s
  | fuel + 1 =>
    if (s.session pl).state = .playing ∧ s.clock.state = .running then
      match s.firstDue pl v (List.range (s.judge pl).pool.length) with
      | none => s
      | some (i, _) => ((s.serveDue seen pl i).endJudgeStep pl).serveDues seen pl v fuel
    else s

/-- Each entry has at most two due times to serve (crossing and avoid settle). -/
def Judge.dueFuel (j : Judge) : Nat := 2 * j.pool.length + 1

/-- The judged song time's due times are being served, or no longer (R87). -/
def State.markServing (s : State) (pl : Player) (on : Bool) : State := s.onJudge pl (fun j => { j with serving := on })

/-- R87: the judge takes a new song time, and its due times are to be served. -/
def State.takeTime (s : State) (pl : Player) (v : Int) : State :=
  s.onJudge pl (fun j => { j with judged := v, serving := true })

/-- R87: a new song time is handed to a judge; then the clearing check (R133). -/
def State.handOver (s : State) (seen : PerPad Pad) (pl : Player) (v : Int) : State :=
  let s := s.takeTime pl v
  ((s.serveDues seen pl v (s.judge pl).dueFuel).markServing pl false).clearingCheck pl

/-- The clock's new song time is handed to both judges (R4). -/
def State.handToBoth (s : State) (first : Player) : State :=
  s.eachPlayer first (fun pl s => s.handOver s.pads pl s.clock.songTime)

/-- R12, R145, R87: a player becomes PLAYING. -/
def State.becomePlaying (s : State) (pl : Player) : State :=
  let s := s.onSession pl (fun x => { x with state := .playing })
  (s.serveDues s.pads pl (s.judge pl).judged (s.judge pl).dueFuel).clearingCheck pl

/-! ### The pause reconcile (R92) -/

/-- One HELD or SLIPPING hold is compared with its panel. -/
def State.reconcileEntry (s : State) (pl : Player) (i : Nat) : State :=
  let e := s.entry pl i
  let down := (s.lanePanelIn s.pads pl e.record.lane).pressed
  match e.state with
  | .held => if down then s else s.slipAt pl i s.clock.songTime false
  | .slipping => if down then s.enterHeld pl i else s
  | _ => s

/-- R92: a PLAYING judge goes through its HELD and SLIPPING entries in chart order. -/
def State.reconcile (s : State) (pl : Player) : State :=
  if (s.session pl).state = .playing then
    (((s.judge pl).unfinishedOrder).foldl (fun s i => s.reconcileEntry pl i) s).endJudgeStep pl
  else s

end Sys2Proof.Machine
end

