-- ==== Sys2Proof/Machine/Pads.lean ====
section
/-! DEFINITION. Pad Sense: health, baselines, loads, the panel state machine, profiles, calibration and dumps
(chapter 2, R18 to R44). -/

namespace Sys2Proof.Machine

/-! ### Sensors of a pad -/

def Pad.sensor (pad : Pad) (p : PanelId) (c : SensorId) : Sensor := pad.sensors.get (channel p c)

def Pad.panel (pad : Pad) (p : PanelId) : Panel := pad.panels.get p

def Profile.enabled (f : Profile) (p : PanelId) (c : SensorId) : Bool := f.enables.getLsbD (channel p c).val

/-- The enabled sensors of a panel; E is their number (R23). -/
def Pad.enabledOf (pad : Pad) (p : PanelId) : List SensorId := sensorIds.filter (fun c => pad.profile.enabled p c)

/-- The enabled sensors of a panel that are HEALTHY; H is their number (R23). -/
def Pad.healthyOf (pad : Pad) (p : PanelId) : List SensorId :=
  (pad.enabledOf p).filter (fun c => (pad.sensor p c).healthy)

/-- The load of a sensor (R23). -/
def Sensor.load (x : Sensor) : Nat := x.raw - x.baseline / 16

/-- The load of a panel (R23); 0 when it has no believable sensor. -/
def Pad.panelLoad (pad : Pad) (p : PanelId) : Nat :=
  ((pad.healthyOf p).map (fun c => (pad.sensor p c).load)).sum * (pad.enabledOf p).length / (pad.healthyOf p).length

/-- R20: enabled, within the panel count, and the pad ACTIVE or CALIBRATING. -/
def Pad.tracked (pad : Pad) (p : PanelId) (c : SensorId) : Bool :=
  pad.profile.enabled p c && decide (p.val < pad.profile.panelCount) && decide (pad.state ≠ .unconfigured)

/-- The step of R22: the difference over 2^k, truncated toward zero, but at least 1 in size when not 0. -/
def baselineStep (d : Int) (k : Nat) : Int :=
  if Int.tdiv d (2 ^ k) = 0 then (if d > 0 then 1 else if d < 0 then -1 else 0) else Int.tdiv d (2 ^ k)

/-- R22: the baseline moves toward the round's raw value. -/
def Sensor.track (x : Sensor) (k : Nat) : Sensor :=
  { x with baseline := ((x.baseline : Int) + baselineStep (16 * (x.raw : Int) - x.baseline) k).toNat }

/-- R30: the standing load is absorbed. -/
def Sensor.absorb (x : Sensor) : Sensor := { x with baseline := 16 * x.raw }

/-- A change of the healthy enabled sensors of a panel (R22, R30). -/
def Pad.onHealthy (pad : Pad) (p : PanelId) (f : Sensor → Sensor) : Pad :=
  { pad with
    sensors := (pad.healthyOf p).foldl (fun t c => t.modify (channel p c) f) pad.sensors }

def Pad.setPanel (pad : Pad) (p : PanelId) (x : Panel) : Pad := { pad with panels := pad.panels.set p x }

/-! ### The scan and sensor health (R18 to R21) -/

/-- The connector's inputs that serve a pad (R18). -/
def readingsOf (r : Readings) (a : Assign) : PadId → Tab 24 (BitVec 12)
  | .pad0 => match a with | .normal => r.a | .swapped => r.b
  | .pad1 => match a with | .normal => r.b | .swapped => r.a

/-- R18: every channel of a pad is converted. -/
def Pad.convert (pad : Pad) (r : Tab 24 (BitVec 12)) : Pad :=
  { pad with sensors := pad.sensors.mapIdx (fun i x => { x with raw := (r.get i).toNat }) }

/-- R18: all 48 channels. -/
def State.convertAll (s : State) (r : Readings) : State :=
  (s.setPad .pad0 ((s.pad .pad0).convert (readingsOf r s.scan.assign .pad0))).setPad .pad1
    ((s.pad .pad1).convert (readingsOf r s.scan.assign .pad1))

def State.onSensor (s : State) (c : SensorName) (f : Sensor → Sensor) : State :=
  s.setPad c.pad { s.pad c.pad with sensors := (s.pad c.pad).sensors.modify (channel c.panel c.sensor) f }

def State.sensorOf (s : State) (c : SensorName) : Sensor := (s.pad c.pad).sensor c.panel c.sensor

/-- R20: a sensor becomes FAILED. -/
def State.failSensor (s : State) (c : SensorName) : State :=
  let s := s.onSensor c (fun x => { x with healthy := false, failRun := 0, recoverRun := 0 })
  let s := (s.raise noticeSensor).flagOwner c.pad flagSensorChange
  s.logFault .sensorFail (s.owner c.pad) (padNumber c.pad) (channel c.panel c.sensor).val

/-- R21: a sensor becomes HEALTHY. -/
def State.recoverSensor (s : State) (c : SensorName) : State :=
  let s := s.onSensor c (fun x => { x with healthy := true, failRun := 0, recoverRun := 0 })
  (s.raise noticeSensor).flagOwner c.pad flagSensorChange

/-- A raw value at an end of the conversion range (R20). -/
def Sensor.extreme (x : Sensor) : Bool := x.raw = 0 ∨ x.raw = 4095

/-- R20, R21: the runs of a tracked sensor after its new raw value. -/
def Sensor.countRun (x : Sensor) : Sensor :=
  if x.healthy then { x with failRun := if x.extreme then x.failRun + 1 else 0 }
  else { x with recoverRun := if x.extreme then 0 else x.recoverRun + 1 }

/-- A tracked sensor's fail run has reached its limit (R20). -/
def State.failReached (s : State) (c : SensorName) : Bool :=
  (s.pad c.pad).tracked c.panel c.sensor && (s.sensorOf c).healthy
    && decide (Config.failLimit ≤ (s.sensorOf c).failRun)

/-- A FAILED tracked sensor's recover run has reached its limit (R21). -/
def State.recoverReached (s : State) (c : SensorName) : Bool :=
  (s.pad c.pad).tracked c.panel c.sensor && !(s.sensorOf c).healthy
    && decide (Config.recoverLimit ≤ (s.sensorOf c).recoverRun)

/-- R20, R21: one sensor's health in a round. -/
def State.healthStep (s : State) (c : SensorName) : State :=
  if (s.pad c.pad).tracked c.panel c.sensor then
    let s := s.onSensor c Sensor.countRun
    if s.failReached c then s.failSensor c
    else if s.recoverReached c then s.recoverSensor c
    else s
  else s

def allSensors : List SensorName :=
  padIds.flatMap (fun i => panelIds.flatMap (fun p => sensorIds.map (fun c => ⟨i, p, c⟩)))

/-! ### Events (R26) -/

inductive PadEvent where
  | press (stamp : Int)
  | release (stamp : Int) (forced : Bool)
deriving DecidableEq, Repr

/-- R26, R139: an event goes to the Lane Judge of the pad's owner; a forced release sets FORCED_RELEASE (R27, R30). -/
def State.emit (s : State) (pad : PadId) (p : PanelId) : PadEvent → State
  | .press stamp =>
    match s.owner pad with
    | none => s
    | some pl => s.judgePress pl pad p stamp
  | .release stamp forced =>
    let s := if forced then s.flagOwner pad flagForcedRelease else s
    match s.owner pad with
    | none => s
    | some pl => s.judgeRelease pl pad p stamp forced

/-- The event of a panel, if it has one this round. -/
def State.emitAll (s : State) (pad : PadId) (p : PanelId) : Option PadEvent → State
  | none => s
  | some e => s.emit pad p e

/-! ### The panel state machine (R24 to R30) -/

/-- R24: a confirmed press. -/
def Panel.confirmPress (x : Panel) : Panel :=
  { x with state := .down, lastPress := x.riseStamp, confirm := 0, stuck := 0 }

/-- R25: a confirmed release. -/
def Panel.confirmRelease (x : Panel) : Panel :=
  { x with state := .up, lastRelease := x.fallStamp, confirm := 0, stuck := 0 }

/-- R30: a stuck panel is forced UP. -/
def Panel.forceUp (x : Panel) (stamp : Int) : Panel :=
  { x with state := .up, lastRelease := stamp, confirm := 0, stuck := 0, load := 0 }

/-- R27: a panel without a believable sensor. -/
def Panel.die (x : Panel) (stamp : Int) : Panel :=
  { x with
    state := .dead, confirm := 0, stuck := 0, load := 0,
    lastRelease := if x.state.pressed then stamp else x.lastRelease }

/-- R28: a DEAD panel with a sensor to believe again. -/
def Panel.revive (x : Panel) : Panel := { x with state := .up, confirm := 0 }

/-- R24, UP and RISING: the load against T_on; a rise in progress counts its rounds. -/
def Panel.rise (x : Panel) (tOn : Nat) (stamp : Int) : Panel :=
  if x.load < tOn then { x with state := .up, confirm := 0 }
  else if x.state = .up then { x with state := .rising, riseStamp := stamp, confirm := 1 }
  else { x with confirm := x.confirm + 1 }

/-- R25, DOWN and FALLING: the load against T_off. -/
def Panel.fall (x : Panel) (tOff : Nat) (stamp : Int) : Panel :=
  if tOff ≤ x.load then { x with state := .down, confirm := 0 }
  else if x.state = .down then { x with state := .falling, fallStamp := stamp, confirm := 1 }
  else { x with confirm := x.confirm + 1 }

/-- R24: the press condition has held for D_on + 1 rounds. -/
def Panel.pressReached (x : Panel) (dOn : Nat) : Bool := x.state = .rising ∧ dOn + 1 ≤ x.confirm

/-- R25: the release condition has held for D_off + 1 rounds. -/
def Panel.releaseReached (x : Panel) (dOff : Nat) : Bool := x.state = .falling ∧ dOff + 1 ≤ x.confirm

/-- R29: the stuck timer of a pressed panel. -/
def Panel.countStuck (x : Panel) : Panel :=
  { x with stuck := if x.holdActive then 0 else satAdd Config.stuckTop x.stuck }

/-- R29: the stuck timer has reached the limit of the pad. -/
def Panel.stuckReached (x : Panel) (limit : Nat) : Bool :=
  x.state.pressed && limit != 0 && decide (Config.stuckUnit * limit ≤ x.stuck)

/-- What a round leaves of a panel: the panel, its event, and what becomes of its baselines (R19, R22, R30). -/
structure PanelRound where
  panel : Panel
  event : Option PadEvent
  tracks : Bool
  absorbs : Bool
deriving DecidableEq, Repr

/-- R24: the round that confirms a press. -/
def Panel.pressRound (x : Panel) : PanelRound := ⟨x.confirmPress, some (.press x.riseStamp), false, false⟩

/-- R25: the round that confirms a release; the panel is UP after it, so its baselines move (R22). -/
def Panel.releaseRound (x : Panel) : PanelRound := ⟨x.confirmRelease, some (.release x.fallStamp false), true, false⟩

/-- R30: the round of a stuck release. -/
def Panel.stuckRound (x : Panel) (stamp : Int) : PanelRound :=
  ⟨x.forceUp stamp, some (.release stamp true), false, true⟩

/-- R24, with load formed. -/
def Panel.roundUp (x : Panel) (f : Profile) (stamp : Int) : PanelRound :=
  let x := x.rise f.tOn stamp
  if x.pressReached f.dOn then x.pressRound else ⟨x, none, x.state = .up, false⟩

/-- R25, R29, R30, with load formed. -/
def Panel.roundDown (x : Panel) (f : Profile) (stamp : Int) : PanelRound :=
  let x := x.fall f.tOff stamp
  if x.releaseReached f.dOff then x.releaseRound
  else
    let x := x.countStuck
    if x.stuckReached f.stuckLimit then x.stuckRound stamp else ⟨x, none, false, false⟩

/-- One panel of an ACTIVE pad in a round (R24 to R30): `healthy` is H, `load` the panel load. DEDUCED, log entry 31: a
DEAD panel with H nonzero revives in whatever round finds it so (R28). -/
def Panel.round (x : Panel) (f : Profile) (healthy load : Nat) (stamp : Int) : PanelRound :=
  if x.state = .off then ⟨x, none, false, false⟩
  else if healthy = 0 then
    ⟨x.die stamp, if x.state.pressed then some (.release stamp true) else none, false, false⟩
  else
    let y := { x with load := load }
    match x.state with
    | .dead => ⟨y.revive, none, false, false⟩
    | .up | .rising => y.roundUp f stamp
    | _ => y.roundDown f stamp

/-- The pad after the round of one of its panels (R19, steps 3 to 5). -/
def Pad.afterPanel (pad : Pad) (p : PanelId) (r : PanelRound) : Pad :=
  let pad := pad.setPanel p r.panel
  if r.tracks then pad.onHealthy p (fun x => x.track pad.profile.shift)
  else if r.absorbs then pad.onHealthy p Sensor.absorb
  else pad

/-- What a round leaves of a panel is taken over and its event handed on (R19, R26). -/
def State.applyRound (s : State) (pad : PadId) (p : PanelId) (r : PanelRound) : State :=
  (s.setPad pad ((s.pad pad).afterPanel p r)).emitAll pad p r.event

/-- What a round makes of one panel of a pad, its sensors converted and their health updated. -/
def Pad.roundOf (pad : Pad) (p : PanelId) (stamp : Int) : PanelRound :=
  (pad.panel p).round pad.profile (pad.healthyOf p).length (pad.panelLoad p) stamp

/-- R19, steps 3 to 5, for one panel within the panel count. -/
def State.roundPanel (s : State) (pad : PadId) (p : PanelId) (stamp : Int) : State :=
  if p.val < (s.pad pad).profile.panelCount then s.applyRound pad p ((s.pad pad).roundOf p stamp) else s

/-- The round confirms a press (R24). -/
def PanelRound.presses (r : PanelRound) : Bool :=
  match r.event with
  | some (.press _) => true
  | _ => false

/-- The panels a hand-over in a round sees (R104, R108): as the round before left them in `before`, and DOWN where this
round, its sensors converted in `now`, confirms a press, which reaches the judge together with the hand-over
(log entry 33). -/
def Pad.seenInRound (before now : Pad) (stamp : Int) : Pad :=
  if before.state = .active then
    { before with
      panels := before.panels.mapIdx (fun p x =>
        if p.val < now.profile.panelCount ∧ (now.roundOf p stamp).presses then { x with state := .down } else x) }
  else before

/-- R27: after a sensor has failed, a panel left without a believable one dies. -/
def State.killIfDead (s : State) (pad : PadId) (p : PanelId) (stamp : Int) : State :=
  let x := s.pad pad
  if p.val < x.profile.panelCount ∧ (x.panel p).state ≠ .off ∧ (x.panel p).state ≠ .dead ∧ (x.healthyOf p).length = 0
  then
    (s.setPad pad (x.setPanel p ((x.panel p).die stamp))).emitAll pad p
      (if (x.panel p).state.pressed then some (.release stamp true) else none)
  else s

/-- R28: after a sensor has recovered, a DEAD panel of an ACTIVE pad revives. -/
def State.reviveIfAlive (s : State) (pad : PadId) (p : PanelId) : State :=
  let x := s.pad pad
  if x.state = .active ∧ p.val < x.profile.panelCount ∧ (x.panel p).state = .dead ∧ (x.healthyOf p).length ≠ 0
  then s.setPad pad (x.setPanel p (x.panel p).revive)
  else s

/-! ### Profiles (R32, R33) -/

/-- The state a profile or the end of a calibration gives a panel. -/
def Pad.settledState (pad : Pad) (p : PanelId) : PanelState :=
  if p.val < pad.profile.panelCount then (if (pad.healthyOf p).length = 0 then .dead else .up) else .off

/-- R33: a profile is applied to its pad. -/
def Pad.applyProfile (pad : Pad) (f : Profile) (addr : Nat) : Pad :=
  let pad := { pad with
    profile := f, profileAddr := addr, state := .active, cal := none,
    sensors := pad.sensors.mapIdx (fun i x => { x with baseline := 16 * f.table.get i, failRun := 0, recoverRun := 0 }) }
  { pad with
    panels := pad.panels.mapIdx (fun p x =>
      { x with
        state := pad.settledState p, confirm := 0, stuck := 0, load := 0, lastPress := Config.noEdge,
        lastRelease := Config.noEdge }) }

/-- R33, R183: the profile is applied and the pad's flashes are cancelled. -/
def State.applyProfile (s : State) (pad : PadId) (f : Profile) (addr : Nat) : State :=
  let s := s.setPad pad ((s.pad pad).applyProfile f addr)
  s.setLamps (panelIds.foldl (fun l p => l.cancel pad p) s.lamps)

/-! ### Calibration (R34 to R38) -/

/-- R34: a pad becomes CALIBRATING. -/
def Pad.startCalibration (pad : Pad) (wanted : Nat) : Pad :=
  { pad with
    state := .calibrating,
    panels := pad.panels.mapIdx (fun _ x =>
      match x.state with
      | .rising | .down | .falling => { x with state := .up, confirm := 0, stuck := 0 }
      | _ => x),
    cal := some
      { wanted, taken := 0, sums := Tab.fill 24 0,
        included := Tab.ofFn (fun i =>
          pad.profile.enables.getLsbD i.val && decide (i.val / 4 < pad.profile.panelCount)
            && (pad.sensors.get i).healthy) } }

/-- R35, steps 2 to 4. -/
def Calibration.addRound (c : Calibration) (sensors : Tab 24 Sensor) : Calibration :=
  let included := c.included.mapIdx (fun i x => x && (sensors.get i).healthy)
  { c with
    included, taken := c.taken + 1,
    sums := c.sums.mapIdx (fun i x => if included.get i then x + (sensors.get i).raw else x) }

/-- R23, R27, R35, R36: the panels of a CALIBRATING pad in a round: loads, DEAD where no sensor is believed, and the
load of a DEAD panel 0. R28 revives no panel here. -/
def Pad.calibrationPanels (pad : Pad) (stamp : Int) : Pad :=
  { pad with
    panels := pad.panels.mapIdx (fun p x =>
      if p.val < pad.profile.panelCount then
        if x.state = .dead then { x with load := 0 }
        else if (pad.healthyOf p).length = 0 then x.die stamp
        else { x with load := pad.panelLoad p }
      else x) }

/-- R36: a panel with a believable sensor is loaded to T_on. DEDUCED, log entry 32: a DEAD panel, whose load R23 makes
0, disturbs nothing, though a sensor of it may have recovered. -/
def Pad.disturbed (pad : Pad) : Bool :=
  panelIds.any (fun p => p.val < pad.profile.panelCount ∧ (pad.panel p).state ≠ .dead ∧ (pad.healthyOf p).length ≠ 0
    ∧ pad.profile.tOn ≤ pad.panelLoad p)

/-- R36, R37: the pad is ACTIVE again, its panels UP or DEAD. -/
def Pad.endCalibration (pad : Pad) : Pad :=
  { pad with
    state := .active, cal := none,
    panels := pad.panels.mapIdx (fun p x =>
      if p.val < pad.profile.panelCount then { x with state := pad.settledState p, confirm := 0, stuck := 0 } else x) }

/-- R37, step 1: the measured baselines. -/
def Pad.measure (pad : Pad) (c : Calibration) : Pad :=
  { pad with
    sensors := pad.sensors.mapIdx (fun i x =>
      if c.included.get i then { x with baseline := 16 * c.sums.get i / c.wanted } else x) }

/-- The number of calibrated sensors (R37). -/
def Calibration.measured (c : Calibration) : Nat := (c.included.cells.filter (fun x => x)).length

/-- R37: a calibration completes and its baseline table write is asked for. -/
def State.completeCalibration (s : State) (pad : PadId) (c : Calibration) : State :=
  let x := ((s.pad pad).measure c).endCalibration
  (s.setPad pad x).ask (.table (x.profileAddr + 0x10) (tableBytes x) (BitVec.ofNat 32 c.measured))

/-- R36: a disturbed calibration ends with nothing changed. -/
def State.disturbCalibration (s : State) (pad : PadId) (c : Calibration) : State :=
  (s.setPad pad (s.pad pad).endCalibration).finishExecuting .slot0 .disturbed (BitVec.ofNat 32 c.taken)

/-- R35 to R37: a round of a CALIBRATING pad, its sensors converted and their health updated. -/
def State.calibrationRound (s : State) (pad : PadId) (stamp : Int) : State :=
  match (s.pad pad).cal with
  | none => s
  | some c =>
    let c := c.addRound (s.pad pad).sensors
    let s := s.setPad pad { (s.pad pad).calibrationPanels stamp with cal := some c }
    if (s.pad pad).disturbed then s.disturbCalibration pad c
    else if c.wanted ≤ c.taken then s.completeCalibration pad c
    else s

/-! ### Sensor dumps (R39) -/

/-- R39: the capture, and its write. The stamp is the song time of the round that ended. -/
def State.captureDump (s : State) (addr : Nat) : State :=
  let serial := (s.scan.dumpSerial + 1) % 2 ^ 32
  (s.setScan { s.scan with dumpSerial := serial, dump := none }).ask
    (.dump addr (dumpBytes s.clock.songTime serial s.pads) (BitVec.ofNat 32 serial))

/-- The round ends for a waiting SENSOR_DUMP (R39). -/
def State.dumpRoundEnd (s : State) : State :=
  match s.scan.dump with
  | none => s
  | some d => s.setScan { s.scan with dump := some { d with due := true } }

/-- R39: a capture that is due is made. -/
def State.captureIfDue (s : State) : State :=
  match s.scan.dump with
  | none => s
  | some d => if d.due then s.captureDump d.addr else s

/-! ### Standby (R41, R42) -/

/-- R38, R41. -/
def Pad.standby (pad : Pad) : Pad :=
  { pad with
    state := match pad.state with | .calibrating => .active | st => st,
    cal := none,
    panels := pad.panels.mapIdx (fun _ x =>
      { x with
        state := match x.state with | .rising | .down | .falling => .up | st => st,
        confirm := 0, stuck := 0, load := 0, holdActive := false }) }

/-- R42. -/
def Pad.standbyExit (pad : Pad) : Pad :=
  { pad with sensors := pad.sensors.mapIdx (fun _ x => { x with failRun := 0, recoverRun := 0 }) }

end Sys2Proof.Machine
end

