-- ==== Sys2Proof/Machine/Fetcher.lean ====
section
/-! DEFINITION. The Chart Fetcher: pages, records, units, chords, late records, polling and structural faults
(chapter 3, R45 to R69). -/

namespace Sys2Proof.Machine

/-! ### Asking for reads (R46, R48, R50, R51) -/

/-- R45. -/
def Fetcher.start (page seq : Nat) : Fetcher := { Fetcher.reset with state := .pageWait, page, seq }

def Fetcher.askFor (f : Fetcher) (kind : FetchKind) (addr : Nat) : Fetcher :=
  { f with read := some { kind, addr, discard := false } }

/-- The bytes each fetcher read takes (R202). -/
def FetchKind.bytes : FetchKind → Nat
  | .link => 4
  | _ => 16

/-- R46: in PAGE_WAIT with a free tracker entry, the header read is asked for. -/
def State.askHeader (s : State) (pl : Player) : State :=
  let f := s.fetcher pl
  if f.state = .pageWait ∧ f.read = none ∧ f.tracker.length < Config.trackerSize
  then s.onFetcher pl (fun f => f.askFor .header f.page) else s

/-- The free pool entry that is reserved next (log entry 15). -/
def Judge.freePlace (j : Judge) : Option Nat := j.pool.findIdx? (fun e => !e.inUse)

/-- The shared address of a record slot (R202). -/
def recordAddr (page index : Nat) : Nat := page + 0x10 + 16 * index

/-- R48: in FETCHING with a record to read, an entry is reserved and the read asked for; without a free entry the
fetcher waits. -/
def State.reserveNext (s : State) (pl : Player) : State :=
  let f := s.fetcher pl
  if f.state = .fetching ∧ f.index < f.fill ∧ f.read = none ∧ f.reserved = none then
    match (s.judge pl).freePlace with
    | none => s
    | some i =>
      (s.onEntry pl i (fun _ => { Entry.blank with state := .reserved })).onFetcher pl (fun f =>
        { f.askFor .record (recordAddr f.page f.index) with reserved := some i })
  else s

/-- R50, R51: a poll count of 8 asks for the re-read of the header or the link. -/
def State.askPoll (s : State) (pl : Player) : State :=
  let f := s.fetcher pl
  if Config.pollLimit ≤ f.poll ∧ f.read = none then
    match f.state with
    | .fillPoll => s.onFetcher pl (fun f => f.askFor .reread f.page)
    | .linkPoll => s.onFetcher pl (fun f => f.askFor .link (f.page + 4))
    | _ => s
  else s

/-- R50, R51: one round of the poll count. -/
def State.pollRound (s : State) (pl : Player) : State :=
  let f := s.fetcher pl
  if (f.state = .fillPoll ∨ f.state = .linkPoll) ∧ f.read = none ∧ f.poll < Config.pollLimit
  then (s.onFetcher pl (fun f => { f with poll := f.poll + 1 })).askPoll pl else s

/-! ### Structural faults (R52) -/

def State.structuralFault (s : State) (pl : Player) (kind : FaultKind) (seq index : Nat) : State :=
  let s := (s.returnReserved pl).onFetcher pl (fun f => { f with state := .halted, read := none })
  (s.logFault kind (some pl) seq index).enterClosing pl .faulted

/-- R47: the first check a header fails. -/
def headerFault (expected known : Nat) (h : PageHeader) : Option FaultKind :=
  if h.tag ≠ Config.pageTag then some .pageTag
  else if h.seq ≠ expected then some .pageSeq
  else if Config.slotsPerPage < h.fill then some .pageFill
  else if h.fill < known then some .pageFill
  else none

/-! ### Taking a record (R49) -/

/-- The index moves on and the page's tracker entry counts the record. -/
def Fetcher.take (f : Fetcher) : Fetcher :=
  { f with
    index := f.index + 1, reserved := none, inHand := none, roomReport := false, recordsTaken := f.recordsTaken + 1,
    tracker := f.tracker.map (fun t =>
      if t.seq = f.seq then
        { t with taken := t.taken + 1, full := t.full || decide (f.index + 1 = Config.slotsPerPage) }
      else t) }

/-- R49: where the fetcher goes on after a record has been taken. -/
def State.continueFetch (s : State) (pl : Player) : State :=
  let f := s.fetcher pl
  if f.state = .fetching ∨ f.state = .stalled then
    if f.index < f.fill then (s.onFetcher pl (fun f => { f with state := .fetching })).reserveNext pl
    else if f.index < Config.slotsPerPage then s.onFetcher pl (fun f => { f with state := .fillPoll, poll := 0 })
    else s.onFetcher pl (fun f => ({ f with state := .linkPoll, poll := 0 }).askFor .link (f.page + 4))
  else s

/-- The record is taken, the judge's step ends, and the fetcher goes on if it still walks. -/
def State.takeRecord (s : State) (pl : Player) : State :=
  ((s.onFetcher pl Fetcher.take).endJudgeStep pl).continueFetch pl

/-! ### Checking and repairing a record (R53 to R55) -/

/-- A per-lane time, none for a lane the table does not have. -/
def laneTime (t : Tab 12 (Option Int)) (lane : Nat) : Option Int := if h : lane < 12 then t.get ⟨lane, h⟩ else none

def setLaneTime (t : Tab 12 (Option Int)) (lane : Nat) (x : Int) : Tab 12 (Option Int) :=
  if h : lane < 12 then t.set ⟨lane, h⟩ (some x) else t

/-- R53, check 4. -/
def Fetcher.overlaps (f : Fetcher) (r : NoteRecord) : Bool :=
  laneTime f.laneLast r.lane = some r.time ∨ (laneTime f.holdBusy r.lane).any (fun b => r.time ≤ b)

/-- R53: the first check a record fails. -/
def Fetcher.recordFault (f : Fetcher) (laneCount : Nat) (r : NoteRecord) : Option FaultKind :=
  if r.kind = .unknown then some .recordKind
  else if r.kind.laneBound ∧ laneCount ≤ r.lane then some .laneRange
  else if f.lastTime.any (fun t => r.time < t) then some .order
  else if r.kind.laneBound ∧ f.overlaps r then some .overlap
  else if (r.kind = .tap ∨ r.kind = .hold) ∧ 4 < r.chord then some .chordSize
  else none

/-- R55: the length of a hold, clamped to the end of song time. -/
def clampLength (r : NoteRecord) : Nat :=
  if Config.songMax < r.time + r.length then (Config.songMax - r.time).toNat else r.length

/-- R55: the record as repaired and the result flags the repairs set. -/
def repairRecord (r : NoteRecord) : NoteRecord × ResultFlags :=
  let chord := if r.chord = 0 then 1 else r.chord
  match r.kind with
  | .tap => ({ r with chord }, ResultFlags.clear)
  | .hold =>
    let clamped := decide (Config.songMax < r.time + r.length)
    let short := decide (clampLength r < Config.shortestHold)
    ({ r with chord, length := clampLength r, kind := if short then .tap else .hold },
      { ResultFlags.clear with lengthClamped := clamped, shortHold := short })
  | _ => (r, ResultFlags.clear)

/-- R55: the running times after an accepted record. -/
def Fetcher.runTimes (f : Fetcher) (r : NoteRecord) : Fetcher :=
  { f with
    lastTime := some r.time,
    laneLast := if r.kind.laneBound then setLaneTime f.laneLast r.lane r.time else f.laneLast,
    holdBusy := if r.kind = .hold then setLaneTime f.holdBusy r.lane (r.time + r.length) else f.holdBusy }

/-- R54: a record that fails its check is VOID at once. -/
def State.voidRecord (s : State) (pl : Player) (i : Nat) (k : FaultKind) : State :=
  let f := s.fetcher pl
  let s := s.onEntry pl i (fun e =>
    { e with own := .void, unitGrade := .void, tail := .none, offset := 0, flags := ResultFlags.clear,
             chartNo := f.recordsTaken })
  let s := (s.makeFinal pl i).logFault k (some pl) f.seq f.index
  (s.onScore pl Score.recordFault).takeRecord pl

/-! ### Chords (R58 to R60) -/

/-- R60: the record belongs to the open chord. -/
def Assembly.admits (a : Assembly) (r : NoteRecord) : Bool :=
  (r.kind = .tap ∨ r.kind = .hold) ∧ r.chord = a.size ∧ r.time = a.time ∧ r.lane ∉ a.lanes

/-- R60: an entry is marked CHORD_SHORT if it has been placed; a late member never is (R63, R71), and carries LATE_FETCH. -/
def Entry.markShort (e : Entry) : Entry :=
  if e.flags.lateFetch then e else { e with flags := { e.flags with chordShort := true } }

/-- R60: the open chord is closed short. -/
def State.closeShort (s : State) (pl : Player) (a : Assembly) : State :=
  let f := s.fetcher pl
  match s.chord pl a.chord with
  | none => s
  | some c =>
    let s := s.setChord pl a.chord (some { c with expected := a.found })
    let s := c.members.foldl (fun s i => s.onEntry pl i Entry.markShort) s
    let s := (s.logFault .chordShort (some pl) f.seq f.index).onScore pl Score.recordFault
    (s.onFetcher pl (fun f => { f with assembly := none })).settleChordIfComplete pl a.chord

/-- R56, step 1, and R60: the assembly test, for a TAP, a HOLD or an END. -/
def State.assemblyTest (s : State) (pl : Player) (r : NoteRecord) : State :=
  match (s.fetcher pl).assembly with
  | none => s
  | some a =>
    if (r.kind = .tap ∨ r.kind = .hold ∨ r.kind = .chartEnd) ∧ ¬ a.admits r then s.closeShort pl a else s

/-- The chord table entry a new chord takes (log entry 15). -/
def Judge.freeChord (j : Judge) : Option (Fin 8) := (List.finRange 8).find? (fun k => (j.chord k).isNone)

/-! ### Lateness and room (R56, R61, R65) -/

/-- R61, R65: the record is late at the song time of this moment; an ARMED player's never is. -/
def State.isLate (s : State) (pl : Player) (r : NoteRecord) : Bool :=
  decide ((s.session pl).state = .playing) &&
    match r.kind with
    | .tap | .hold => decide (lapseDueAt (s.params pl) r.time (s.laneDOn pl r.lane) ≤ s.clock.songTime)
    | .avoid => decide (avoidDueAt (s.params pl) r.time (s.laneDOn pl r.lane) ≤ s.clock.songTime)
    | .beat => decide (r.time + (s.params pl).offset + Config.beatLateness < s.clock.songTime)
    | .chartEnd | .unknown => false

/-- R56, step 4: the record needs a room that is missing. -/
def State.lacksRoom (s : State) (pl : Player) (r : NoteRecord) (late : Bool) : Bool :=
  let opensChord := (r.kind = .tap ∨ r.kind = .hold) ∧ 2 ≤ r.chord ∧ (s.fetcher pl).assembly = none
  (opensChord ∧ (s.judge pl).freeChord = none)
    ∨ (r.kind.laneBound ∧ ¬ late ∧ (s.params pl).depth ≤ ((s.judge pl).lane r.lane).length)
    ∨ (r.kind = .beat ∧ ¬ late ∧ Config.beatListSize ≤ (s.judge pl).beats.length)

/-! ### Units (R57) -/

/-- R57: the counter's value has been given out; each increase counts as a unit assigned. -/
def State.bumpUnit (s : State) (pl : Player) : State :=
  if (s.fetcher pl).unitCounter < Config.top16 then
    (s.onFetcher pl (fun f => { f with unitCounter := f.unitCounter + 1 })).onScore pl Score.assign
  else s

/-- R57 to R59: the unit index of a TAP or HOLD, and the chord it opens or joins. -/
def State.numberHead (s : State) (pl : Player) (i : Nat) (r : NoteRecord) : State :=
  let counter := (s.fetcher pl).unitCounter
  if r.chord ≤ 1 then (s.onEntry pl i (fun e => { e with unit := some counter })).bumpUnit pl
  else
    match (s.fetcher pl).assembly with
    | none =>
      match (s.judge pl).freeChord with
      | none => s
      | some k =>
        let s := s.setChord pl k
          (some { unit := counter, expected := r.chord, judged := 0, worst := none, members := [i] })
        let s := s.onFetcher pl (fun f =>
          { f with assembly := some { chord := k, size := r.chord, time := r.time, lanes := [r.lane], found := 1 } })
        (s.onEntry pl i (fun e => { e with unit := some counter, chord := some k })).bumpUnit pl
    | some a =>
      match s.chord pl a.chord with
      | none => s
      | some c =>
        let s := s.setChord pl a.chord (some { c with members := c.members ++ [i] })
        let s := s.onFetcher pl (fun f =>
          { f with
            assembly :=
              if a.found + 1 = a.size then none else some { a with lanes := a.lanes ++ [r.lane], found := a.found + 1 } })
        s.onEntry pl i (fun e => { e with unit := some c.unit, chord := some a.chord })

/-- R57: a HOLD then takes its tail unit index. -/
def State.numberTail (s : State) (pl : Player) (i : Nat) (r : NoteRecord) : State :=
  if r.kind = .hold then
    (s.onEntry pl i (fun e => { e with tailUnit := some (s.fetcher pl).unitCounter })).bumpUnit pl
  else s

/-! ### Placing a record or making it final (R62 to R66) -/

/-- The entry joins the back of its lane list. -/
def Judge.joinLane (j : Judge) (lane i : Nat) : Judge :=
  if h : lane < 12 then { j with lanes := j.lanes.modify ⟨lane, h⟩ (fun l => l ++ [i]) } else j

/-- R62: a TAP, HOLD or AVOID is placed in its lane. -/
def State.place (s : State) (pl : Player) (i : Nat) (st : EntryState) : State :=
  let lane := (s.entry pl i).record.lane
  (s.onEntry pl i (fun e => { e with state := st })).onJudge pl (fun j => j.joinLane lane i)

/-- R63, R64: STARVED, and its fault once in a stage. -/
def State.starve (s : State) (pl : Player) : State :=
  let f := s.fetcher pl
  let s := s.flag pl flagStarved
  if f.starvedLogged then s
  else (s.logFault .starved (some pl) f.seq f.index).onFetcher pl (fun f => { f with starvedLogged := true })

/-- R63: a late TAP or HOLD, numbered and joined, is taken as VOID. -/
def State.voidLateNote (s : State) (pl : Player) (i : Nat) : State :=
  let s := s.onEntry pl i (fun e => { e with own := .void, offset := 0, flags := { e.flags with lateFetch := true } })
  let e := s.entry pl i
  let s :=
    match e.chord with
    | none => ((s.onEntry pl i (fun e => { e with unitGrade := .void })).makeFinal pl i).voidUnit pl e.unit
    | some k => (s.onEntry pl i (fun e => { e with state := .judged })).reportGrade pl k .void
  (s.voidUnit pl e.tailUnit).starve pl

/-- R56, step 5, for a TAP or HOLD. -/
def State.takeNote (s : State) (pl : Player) (i : Nat) (r : NoteRecord) (late : Bool) : State :=
  let s := (s.numberHead pl i r).numberTail pl i r
  if late then s.voidLateNote pl i else s.place pl i .waiting

/-- R64. -/
def State.voidLateAvoid (s : State) (pl : Player) (i : Nat) : State :=
  let s := s.onEntry pl i (fun e =>
    { e with own := .void, unitGrade := .void, tail := .none, offset := 0,
             flags := { e.flags with lateFetch := true } })
  (s.makeFinal pl i).starve pl

/-- R65: a late BEAT is PASSED without a flash. -/
def State.passLateBeat (s : State) (pl : Player) (i : Nat) : State :=
  (s.onEntry pl i (fun e =>
    { e with own := .passed, unitGrade := .passed, tail := .none, offset := 0,
             flags := { e.flags with lateFetch := true } })).makeFinal pl i

/-- R65: a BEAT in time joins the beat list. -/
def State.placeBeat (s : State) (pl : Player) (i : Nat) : State :=
  (s.onEntry pl i (fun e => { e with state := .scheduled })).onJudge pl (fun j => { j with beats := j.beats ++ [i] })

/-- R66: the END record. -/
def State.takeEnd (s : State) (pl : Player) (i : Nat) (r : NoteRecord) : State :=
  let s := s.onEntry pl i (fun e =>
    { e with own := .passed, unitGrade := .passed, tail := .none, offset := 0, flags := ResultFlags.clear })
  let s := s.makeFinal pl i
  let t := clampInt Config.songMin Config.songMax (r.time + (s.params pl).offset)
  let s := s.onScore pl (fun c => { c with endTime := some t })
  let s := s.onFetcher pl (fun f => { f.take with state := .ended })
  (s.endJudgeStep pl).clearingCheck pl

/-- R56, step 5. -/
def State.takeAccepted (s : State) (pl : Player) (i : Nat) (r : NoteRecord) (late : Bool) : State :=
  let s := s.onEntry pl i (fun e => { e with chartNo := (s.fetcher pl).recordsTaken })
  match r.kind with
  | .tap | .hold => (s.takeNote pl i r late).takeRecord pl
  | .avoid => (if late then s.voidLateAvoid pl i else s.place pl i .watching).takeRecord pl
  | .beat => (if late then s.passLateBeat pl i else s.placeBeat pl i).takeRecord pl
  | .chartEnd => s.takeEnd pl i r
  | .unknown => s

/-- R56: without room the record is in hand and the fetcher STALLED. -/
def State.stall (s : State) (pl : Player) (r : NoteRecord) : State :=
  (s.onFetcher pl (fun f => { f with state := .stalled, inHand := some r, roomReport := false })).endJudgeStep pl

/-- R56, steps 2 to 5, for the record in the reserved entry. -/
def State.dealRecord (s : State) (pl : Player) (i : Nat) : State :=
  let r := (s.entry pl i).record
  let late := s.isLate pl r
  if s.lacksRoom pl r late then s.stall pl r else s.takeAccepted pl i r late

/-- R53 to R56: a record read is checked, and made VOID or repaired and dealt with. -/
def State.acceptRecord (s : State) (pl : Player) (i : Nat) (r : NoteRecord) : State :=
  let f := s.fetcher pl
  let s := s.onEntry pl i (fun _ =>
    { Entry.blank with
      state := .reserved, record := r, addr := recordAddr f.page f.index, tracker := f.seq, slot := f.index })
  match f.recordFault (s.session pl).laneCount r with
  | some k => s.voidRecord pl i k
  | none =>
    let fixed := repairRecord r
    let s := s.onEntry pl i (fun e => { e with record := fixed.1, flags := fixed.2 })
    let s := s.onFetcher pl (fun f => f.runTimes fixed.1)
    (s.assemblyTest pl fixed.1).dealRecord pl i

/-! ### The ends of the fetcher's reads -/

/-- The fetcher's read has ended; a stopped fetcher discards its result (R68), and a CLOSING player may then ask for
its final scoreboard (R154). -/
def State.endRead (s : State) (pl : Player) (deal : State → State) : State :=
  match (s.fetcher pl).read with
  | none => s
  | some r =>
    let s := s.onFetcher pl (fun f => { f with read := none })
    if r.discard then s.askFinal pl else deal s

/-- R46, R47: the first header read of a page ends. -/
def State.headerRead (s : State) (pl : Player) (reply : Option (BitVec 128)) : State :=
  let f := s.fetcher pl
  match reply with
  | none => s.structuralFault pl .busRead f.seq 0
  | some d =>
    let h := parseHeader d
    match headerFault f.seq 0 h with
    | some k => s.structuralFault pl k f.seq 0
    | none =>
      (s.onFetcher pl (fun f =>
        { f with
          tracker := f.tracker ++ [{ addr := f.page, seq := f.seq, taken := 0, written := 0, full := false }],
          index := 0, fill := h.fill, poll := 0, state := if h.fill = 0 then .fillPoll else .fetching })).reserveNext pl

/-- R50: a header re-read ends. -/
def State.rereadHeader (s : State) (pl : Player) (reply : Option (BitVec 128)) : State :=
  let f := s.fetcher pl
  match reply with
  | none => s.structuralFault pl .busRead f.seq f.index
  | some d =>
    let h := parseHeader d
    match headerFault f.seq f.fill h with
    | some k => s.structuralFault pl k f.seq f.index
    | none =>
      if h.fill = f.fill then s.onFetcher pl (fun f => { f with poll := 0 })
      else (s.onFetcher pl (fun f => { f with poll := 0, fill := h.fill, state := .fetching })).reserveNext pl

/-- R51: a link that may be followed. -/
def Window.goodLink (w : Window) (link : Nat) : Bool := link % 16 = 0 ∧ w.holds link Config.pageBytes

/-- R51: a link read ends. -/
def State.linkRead (s : State) (pl : Player) (reply : Option (BitVec 32)) : State :=
  let f := s.fetcher pl
  match reply with
  | none => s.structuralFault pl .busRead f.seq 31
  | some d =>
    let link := fieldAt d 0 4
    if link = 0 then s.onFetcher pl (fun f => { f with poll := 0 })
    else if s.window.goodLink link then
      (s.onFetcher pl (fun f =>
        { f with page := link, seq := (f.seq + 1) % 65536, index := 0, fill := 0, poll := 0,
                 state := .pageWait })).askHeader pl
    else s.structuralFault pl .pageLink f.seq 31

/-- R48, R53: a record read ends. -/
def State.recordRead (s : State) (pl : Player) (reply : Option (BitVec 128)) : State :=
  let f := s.fetcher pl
  match reply with
  | none => s.structuralFault pl .busRead f.seq f.index
  | some d =>
    match f.reserved with
    | none => s
    | some i => s.acceptRecord pl i (parseRecord d)

/-- R56: the fetcher repeats lateness, room and take for the record in hand after a report. -/
def State.retryStalled (s : State) (pl : Player) : State :=
  let f := s.fetcher pl
  match f.reserved with
  | none => s
  | some i =>
    if f.state = .stalled ∧ f.roomReport then
      (s.onFetcher pl (fun f => { f with roomReport := false })).dealRecord pl i
    else s

end Sys2Proof.Machine
end

