-- ==== Sys2Proof/Machine/WriteBack.lean ====
section
/-! DEFINITION. The Write-back Unit: result writes, page retirement and what their ends do (chapter 8, R159 to R165). -/

namespace Sys2Proof.Machine

/-- The records of a retired page (R163). -/
def fullPage : Nat := Config.slotsPerPage

/-- R161, step 2: the page's tracker entry counts the record as written. -/
def Fetcher.countWritten (f : Fetcher) (seq : Nat) : Fetcher :=
  { f with tracker := f.tracker.map (fun t => if t.seq = seq then { t with written := t.written + 1 } else t) }

/-- R163: a page that is fully taken and fully written. -/
def Track.ready (t : Track) : Bool := t.full && t.written == fullPage

/-- R163: the retirement check. -/
def State.retirementCheck (s : State) (pl : Player) : State :=
  match (s.fetcher pl).tracker with
  | [] => s
  | t :: _ =>
    if (s.writer pl).retirePending = false ∧ t.ready then
      s.onWriter pl (fun w => { w with queue := w.queue ++ [.retire t.addr t.seq], retirePending := true })
    else s

/-- The unit has no item in flight. -/
def State.writerFree (s : State) (pl : Player) : State := s.onWriter pl (fun w => { w with inFlight := none })

/-- A write of a player is lost: WRITE_LOST and a BUS_WRITE fault (R162, R164, R172). -/
def State.writeLost (s : State) (pl : Player) (seq index : Nat) : State :=
  (s.logFault .busWrite (some pl) seq index).flag pl flagWriteLost

/-- R161: a result write of entry `i` has completed; then the clearing check of R133 and the end of a closing
(R154). -/
def State.resultWritten (s : State) (pl : Player) (i : Nat) : State :=
  let seq := (s.entry pl i).tracker
  let s := ((s.writerFree pl).freeEntry pl i).onFetcher pl (fun f => f.countWritten seq)
  (((s.onScore pl Score.finalize).retirementCheck pl).clearingCheck pl).askFinal pl

/-- R162: a result write of entry `i` has ended in a bus error. -/
def State.resultLost (s : State) (pl : Player) (i : Nat) : State :=
  (s.writeLost pl (s.entry pl i).tracker (s.entry pl i).slot).resultWritten pl i

/-- R164: a retirement write has ended. -/
def State.pageRetired (s : State) (pl : Player) (seq : Nat) : State :=
  let s := s.onFetcher pl (fun f => { f with tracker := f.tracker.tail })
  let s := s.onWriter pl (fun w => { w with inFlight := none, retiredThrough := seq, retirePending := false })
  (s.retirementCheck pl).askFinal pl

/-- R164: a retirement write has ended in a bus error. -/
def State.retirementLost (s : State) (pl : Player) (seq : Nat) : State :=
  (s.writeLost pl seq fullPage).pageRetired pl seq

/-! ### The ends of the writes -/

def Xfer.isResult (pl : Player) : Xfer → Bool
  | .result p _ => p = pl
  | _ => false

def Xfer.isRetire (pl : Player) : Xfer → Bool
  | .retire p _ => p = pl
  | _ => false

def State.endResult (s : State) (pl : Player) (ok : Bool) : Xfer → State
  | .result _ i => if ok then s.resultWritten pl i else s.resultLost pl i
  | _ => s

def State.endRetire (s : State) (pl : Player) (ok : Bool) : Xfer → State
  | .retire _ seq => if ok then s.pageRetired pl seq else s.retirementLost pl seq
  | _ => s

/-! ### The commands -/

/-- RESULT_WRITE_DONE (R161). -/
def execResultWriteDone (pl : Player) (s : State) : Host.Outcome State Fault Refusal :=
  .next (s.endTransfer (Xfer.isResult pl) (fun x s => s.endResult pl true x))

/-- RESULT_WRITE_ERROR (R162). -/
def execResultWriteError (pl : Player) (s : State) : Host.Outcome State Fault Refusal :=
  .next (s.endTransfer (Xfer.isResult pl) (fun x s => s.endResult pl false x))

/-- RETIREMENT_WRITE_DONE (R164). -/
def execRetirementWriteDone (pl : Player) (ok : Bool) (s : State) : Host.Outcome State Fault Refusal :=
  .next (s.endTransfer (Xfer.isRetire pl) (fun x s => s.endRetire pl ok x))

end Sys2Proof.Machine
end

