-- ==== Sys2Proof/Machine/Refresh.lean ====
section
/-! DEFINITION. The Refresh Unit: its period, its jobs, the scoreboards and mirrors, and the end of a stage
(chapter 8, R166 to R175; R154). -/

namespace Sys2Proof.Machine

/-! ### The job list (R166, R167) -/

def JobKind.isFinal : JobKind → Bool
  | .final _ => true
  | _ => false

def State.addJob (s : State) (kind : JobKind) (todo : List RefreshXfer) : State :=
  s.setRefresh { s.refresh with jobs := s.refresh.jobs ++ [{ kind, todo, started := false }] }

/-- R167: the job whose transfer comes next. -/
def pickJob (jobs : List Job) : Option Job :=
  match jobs.find? (fun j => j.kind.isFinal) with
  | some j => some j
  | none =>
    match jobs.find? (fun j => j.started && !j.todo.isEmpty) with
    | some j => some j
    | none => jobs.head?

/-- The PERIODIC or NOW job in progress. -/
def jobInProgress (jobs : List Job) : Option Job := jobs.find? (fun j => j.started && !j.kind.isFinal)

/-- The first job of a kind, changed. -/
def changeJob (kind : JobKind) (f : Job → Job) : List Job → List Job
  | [] => []
  | j :: rest => if j.kind = kind then f j :: rest else j :: changeJob kind f rest

def State.changeJob (s : State) (kind : JobKind) (f : Job → Job) : State :=
  s.setRefresh { s.refresh with jobs := Sys2Proof.Machine.changeJob kind f s.refresh.jobs }

/-- The first job of a kind leaves the list. -/
def State.dropJob (s : State) (kind : JobKind) : State :=
  s.setRefresh { s.refresh with jobs := s.refresh.jobs.eraseP (fun j => j.kind = kind) }

/-- R166: the period falls due. -/
def State.periodDue (s : State) : State :=
  let s := s.setRefresh { s.refresh with timer := 0 }
  if s.refresh.jobs.any (fun j => j.kind = .periodic) then s else s.addJob .periodic [.holds]

/-- R166: the timer stands at the period. -/
def Refresh.due (r : Refresh) : Bool := 8 * r.period ≤ r.timer

/-- R166: one round of the refresh timer. -/
def State.timerRound (s : State) : State :=
  let s := s.setRefresh { s.refresh with timer := s.refresh.timer + 1 }
  if s.refresh.due then s.periodDue else s

/-! ### Building a scoreboard (R169, R170) -/

/-- The bytes of the player's next scoreboard, showing the state given. -/
def State.boardOf (s : State) (pl : Player) (serial : Nat) (state : PlayerState) : List Byte :=
  boardBytes serial s.clock.songTime state (s.scoreUnit pl) (s.writer pl).retiredThrough

/-- R169: the serial of the player's next scoreboard. -/
def State.nextSerial (s : State) (pl : Player) : Nat := (s.refresh.serial.get pl + 1) % 2 ^ 32

/-- R169, R170: the serial is used and the flags are carried. -/
def State.carryFlags (s : State) (pl : Player) : State :=
  let r := s.refresh
  (s.setRefresh
    { r with
      serial := r.serial.set pl (s.nextSerial pl), carried := r.carried.set pl (s.scoreUnit pl).flags }).onScore pl
    (fun c => { c with flags := 0 })

/-- R170, success: the carried flags are discarded. -/
def State.dropCarried (s : State) (pl : Player) : State :=
  s.setRefresh { s.refresh with carried := s.refresh.carried.set pl 0 }

/-- R170, R172: the carried flags are returned, with WRITE_LOST, and the fault is logged. -/
def State.returnCarried (s : State) (pl : Player) : State :=
  ((s.flag pl (s.refresh.carried.get pl)).dropCarried pl).writeLost pl 0 0

/-- The carried flags after a scoreboard write. -/
def State.boardEnded (s : State) (pl : Player) (ok : Bool) : State :=
  if ok then s.dropCarried pl else s.returnCarried pl

/-! ### The end of a stage (R154) -/

/-- A pad ceases to be owned by the player (R138, R31). -/
def State.releasePad (s : State) (pl : Player) (pad : PadId) : State :=
  if s.owner pad = some pl then (s.setOwners (s.owners.set pad none)).setPad pad (s.pad pad).clearHolds else s

/-- R70: a pool of 64 free entries for each player. -/
def State.returnPools (s : State) (pl : Player) : State :=
  let own (j : Judge) : Judge := { j with pool := List.replicate Config.poolSize Entry.blank }
  (s.onJudge pl own).onJudge pl.other own

/-- R154, R68. -/
def Fetcher.finish (f : Fetcher) : Fetcher :=
  { f with
    tracker := [], state := match f.state with | .ended | .halted => .idle | st => st }

/-- R151: a waiting ABANDON completes with the code of the final outcome. -/
def State.finishAbandon (s : State) (pl : Player) : State :=
  match (s.session pl).waitingAbandon with
  | none => s
  | some _ =>
    (s.onSession pl (fun x => { x with waitingAbandon := none })).finishExecuting (slotOf pl) .ok
      (BitVec.ofNat 32 (s.scoreUnit pl).outcome.code)

/-- R154, second stage: the player becomes DONE. -/
def State.becomeDone (s : State) (pl : Player) : State :=
  let s := (s.onSession pl (fun x => { x with state := .done })).raise noticeStage
  let s := (s.releasePad pl .pad0).releasePad pl .pad1
  let s := if (s.session pl).padSet = some .double then s.returnPools pl else s
  (s.onFetcher pl Fetcher.finish).finishAbandon pl

/-! ### The ends of the transfers -/

/-- R168: what a PERIODIC job has still to write after its hold read, the holds being set or clear as given. -/
def periodicTodo (held0 held1 : Bool) : List RefreshXfer :=
  (if held0 then [] else [.board .p0]) ++ (if held1 then [] else [.board .p1]) ++ [.mirrors]

/-- R168, step 1. -/
def State.endHolds (s : State) : Option (BitVec 64) → State
  | none => (s.logFault .busRead none 0 0).changeJob .periodic (fun j => { j with todo := periodicTodo true true })
  | some d =>
    s.changeJob .periodic (fun j =>
      { j with todo := periodicTodo (fieldAt d 0 4 != 0) (fieldAt d 4 4 != 0) })

/-- R173: the job ends and the request completes. -/
def State.endNow (s : State) (pl : Player) (status : Status) (result : Word) : State :=
  (s.dropJob (.now pl)).finishExecuting (slotOf pl) status result

/-- R173, the hold read. -/
def State.endNowHold (s : State) (pl : Player) : Option (BitVec 32) → State
  | none => (s.logFault .busRead (some pl) 0 0).endNow pl .busFault 0
  | some d =>
    if fieldAt d 0 4 ≠ 0 then s.endNow pl .busy 0
    else s.changeJob (.now pl) (fun j => { j with todo := [.board pl] })

/-- R168, R170, R172, R173: a periodic or NOW scoreboard write has ended. -/
def State.endBoard (s : State) (pl : Player) (serial : Nat) (ok : Bool) : State :=
  let s := s.boardEnded pl ok
  match jobInProgress s.refresh.jobs with
  | some j =>
    if j.kind = .now pl then s.endNow pl (if ok then .ok else .busFault) (BitVec.ofNat 32 serial) else s
  | none => s

/-- R154, R172, R174: the final scoreboard write has ended. -/
def State.endFinalBoard (s : State) (pl : Player) (ok : Bool) : State :=
  ((s.boardEnded pl ok).dropJob (.final pl)).becomeDone pl

/-- R168, R171: the mirrors write has ended, and with it the PERIODIC job. -/
def State.endMirrors (s : State) (ok : Bool) : State :=
  let s := if ok then s else s.logFault .busWrite none 0 0
  (s.dropJob .periodic).raise noticeRefresh

/-! ### Standby and reset (R175) -/

def Refresh.stop (r : Refresh) : Refresh := { r with jobs := [], carried := ⟨0, 0⟩ }

/-! ### The commands -/

def Xfer.isHolds : Xfer → Bool
  | .holds => true
  | _ => false

def Xfer.isNowHold (pl : Player) : Xfer → Bool
  | .nowHold p => p = pl
  | _ => false

def Xfer.isBoard (pl : Player) : Xfer → Bool
  | .board p _ => p = pl
  | _ => false

def Xfer.isFinalBoard (pl : Player) : Xfer → Bool
  | .finalBoard p _ => p = pl
  | _ => false

def Xfer.isMirrors : Xfer → Bool
  | .mirrors => true
  | _ => false

/-- The serial a scoreboard write carries. -/
def Xfer.serial : Xfer → Nat
  | .board _ n | .finalBoard _ n => n
  | _ => 0

/-- REFRESH_PERIOD_DUE (R166): the timer stands at the period (log entry 3). -/
def execRefreshPeriodDue (s : State) : Host.Outcome State Fault Refusal :=
  .next (s.whenOperating (fun s => if s.refresh.due then s.periodDue else s))

/-- HOLD_READ_DONE (R168). -/
def execHoldReadDone (reply : Option (BitVec 64)) (s : State) : Host.Outcome State Fault Refusal :=
  .next (s.endTransfer Xfer.isHolds (fun _ s => s.endHolds reply))

/-- NOW_HOLD_READ_DONE (R173). -/
def execNowHoldReadDone (pl : Player) (reply : Option (BitVec 32)) (s : State) : Host.Outcome State Fault Refusal :=
  .next (s.endTransfer (Xfer.isNowHold pl) (fun _ s => s.endNowHold pl reply))

/-- SCOREBOARD_WRITE_DONE (R170, R172, R173). -/
def execScoreboardWriteDone (pl : Player) (ok : Bool) (s : State) : Host.Outcome State Fault Refusal :=
  .next (s.endTransfer (Xfer.isBoard pl) (fun x s => s.endBoard pl x.serial ok))

/-- FINAL_SCOREBOARD_WRITE_DONE (R154, R172, R174). -/
def execFinalScoreboardWriteDone (pl : Player) (ok : Bool) (s : State) : Host.Outcome State Fault Refusal :=
  .next (s.endTransfer (Xfer.isFinalBoard pl) (fun _ s => s.endFinalBoard pl ok))

/-- MIRROR_WRITE_DONE (R168, R171). -/
def execMirrorWriteDone (ok : Bool) (s : State) : Host.Outcome State Fault Refusal :=
  .next (s.endTransfer Xfer.isMirrors (fun _ s => s.endMirrors ok))

/-- FAULT_RECORD_WRITE_DONE (R198): a bus error logs no fault and sets nothing. -/
def execFaultRecordWriteDone (_ok : Bool) (s : State) : Host.Outcome State Fault Refusal :=
  .next (s.endTransfer (fun x => x = .faultRecord) (fun _ s => s))

end Sys2Proof.Machine
end

