-- ==== Sys2Proof/Machine/Sessions.lean ====
section
/-! DEFINITION. Player sessions: ARM with its checks, ABANDON, REFRESH_NOW (chapter 7, R137 to R151; R173). -/

namespace Sys2Proof.Machine

/-! ### The checks of ARM (R141, R142) -/

/-- The panel counts of the pads of a set, added up (R142). -/
def State.panelsAvailable (s : State) (set : PadSet) : Nat := (set.pads.map (fun i => (s.pad i).profile.panelCount)).sum

/-- The panels that the lanes in use name. -/
def Descriptor.targets (d : Descriptor) : List (Option (PadId × PanelId)) :=
  (d.laneMap.cells.take d.laneCount).map laneTarget

/-- R141, check 9, for one entry. -/
def State.goodTarget (s : State) (set : PadSet) : Option (PadId × PanelId) → Bool
  | none => false
  | some t => decide (t.1 ∈ set.pads) && decide (t.2.val < (s.pad t.1).profile.panelCount)

/-- R141, check 12. -/
def Window.goodPage (w : Window) (page : Nat) : Bool := decide (page % 16 = 0) && w.holds page Config.pageBytes

/-- R141, checks 4 to 12 for a known pad set: the first that fails. -/
def State.armChecks (s : State) (pl : Player) (d : Descriptor) (set : PadSet) : Option (Status × Nat) :=
  if set.pads.any (fun i => (s.pad i).state = .unconfigured) then some (.noProfile, 4)
  else if set.pads.any (fun i => (s.pad i).state = .calibrating) then some (.busy, 5)
  else if set.pads.any (fun i => s.owner i = some pl.other) then some (.padBusy, 6)
  else if set = .double ∧ (s.session pl.other).state ≠ .idle ∧ (s.session pl.other).state ≠ .done then some (.padBusy, 7)
  else if d.laneCount = 0 ∨ 12 < d.laneCount ∨ s.panelsAvailable set < d.laneCount then some (.badArg, 8)
  else if d.targets.any (fun t => !s.goodTarget set t) then some (.badArg, 9)
  else if ¬ d.targets.Nodup then some (.badArg, 10)
  else if d.n = 0 then some (.badArg, 11)
  else if s.window.goodPage d.firstPage then none
  else some (.badArg, 12)

/-! ### ARM (R140, R143 to R145) -/

/-- R140: an ARM is taken. -/
def State.takeArm (s : State) (pl : Player) (r : Request) : State :=
  match (s.session pl).state with
  | .idle | .done =>
    let s := s.onSession pl (fun x => { x with returnState := some x.state, state := .arming })
    (s.execute (slotOf pl) r).ask (.descriptor pl r.arg0.toNat)
  | .arming | .armed | .playing | .closing => s.complete (slotOf pl) r.tag .busy 1

/-- R143: the ARM is refused. -/
def State.refuseArm (s : State) (pl : Player) (status : Status) (check : Nat) : State :=
  (s.onSession pl (fun x => { x with state := x.returnState.getD .idle, returnState := none })).finishExecuting
    (slotOf pl) status (BitVec.ofNat 32 check)

/-- R138, R93: the player becomes the owner of a pad, whose hold-active indications are clear. -/
def State.ownPad (s : State) (pl : Player) (pad : PadId) : State :=
  (s.setOwners (s.owners.set pad (some pl))).setPad pad (s.pad pad).clearHolds

/-- R32, R139: a profile read of a pad that becomes owned knows it, whatever becomes of the owner. -/
def Work.claim (pads : List PadId) : Work → Work
  | .profile pad addr claimed => .profile pad addr (claimed || decide (pad ∈ pads))
  | w => w

/-- R138: the player becomes the owner of the pads of the set. -/
def State.ownPads (s : State) (pl : Player) (set : PadSet) : State :=
  set.pads.foldl (fun s i => s.ownPad pl i) (s.setWork (s.work.map (Work.claim set.pads)))

/-- R70, R93: the player's judge starts with an empty pool, which in double play holds both players' entries. -/
def State.startJudge (s : State) (pl : Player) (set : PadSet) (params : Params) : State :=
  if set = .double then
    (s.setJudge pl (Judge.empty (2 * Config.poolSize) params s.clock.songTime)).onJudge pl.other (fun j =>
      { j with pool := [] })
  else s.setJudge pl (Judge.empty Config.poolSize params s.clock.songTime)

/-- R165: the Write-back Unit of a stage that begins. -/
def Writer.start (firstSeq : Nat) : Writer := { Writer.reset with retiredThrough := (firstSeq + 65535) % 65536 }

/-- R145: the state a successful ARM sets, and its result word. -/
def State.enterStage (s : State) (pl : Player) : State × Word :=
  match s.clock.state with
  | .idle | .starting => (s.onSession pl (fun x => { x with state := .armed }), 0)
  | .running | .paused => (s.becomePlaying pl, 1)

/-- R144: the ARM succeeds. -/
def State.armSuccess (s : State) (pl : Player) (d : Descriptor) (set : PadSet) : State :=
  let s := s.onSession pl (fun x =>
    { x with
      padSet := some set, laneCount := d.laneCount, laneMap := d.laneMap, firstPage := d.firstPage,
      firstSeq := d.firstSeq, returnState := none })
  let s := s.ownPads pl set
  let s := s.setScore pl (Score.start d.n d.noFail d.startLife)
  let s := (s.startJudge pl set d.params).setWriter pl (Writer.start d.firstSeq)
  let s := (s.setFetcher pl (Fetcher.start d.firstPage d.firstSeq)).askHeader pl
  let done := s.enterStage pl
  done.1.finishExecuting (slotOf pl) .ok done.2

/-- R141: the descriptor read has ended for an ARMING player. -/
def State.descriptorRead (s : State) (pl : Player) : Option (BitVec 640) → State
  | none => (s.logFault .busRead (some pl) 0 0).refuseArm pl .busFault 2
  | some data =>
    let d := parseDescriptor data
    match d.padSet with
    | none => s.refuseArm pl .badArg 3
    | some set =>
      match s.armChecks pl d set with
      | some fail => s.refuseArm pl fail.1 fail.2
      | none => s.armSuccess pl d set

/-! ### ABANDON (R150, R151) -/

/-- An ABANDON that completes at once with the outcome's code. -/
def State.abandonDone (s : State) (pl : Player) (r : Request) : State :=
  s.complete (slotOf pl) r.tag .ok (BitVec.ofNat 32 (s.scoreUnit pl).outcome.code)

/-- R151: the ABANDON waits for DONE. -/
def State.abandonWait (s : State) (pl : Player) (r : Request) : State :=
  (s.execute (slotOf pl) r).onSession pl (fun x => { x with waitingAbandon := some r.tag })

/-- R150: an ABANDON is taken. -/
def State.takeAbandon (s : State) (pl : Player) (r : Request) : State :=
  match (s.session pl).state with
  | .idle | .done => s.abandonDone pl r
  | .arming => s.complete (slotOf pl) r.tag .busy 0
  | .armed | .playing => (s.abandonWait pl r).enterClosing pl .aborted
  | .closing => s.abandonWait pl r

/-! ### REFRESH_NOW (R173) -/

/-- R173: a REFRESH_NOW is taken. -/
def State.takeRefreshNow (s : State) (pl : Player) (r : Request) : State :=
  (s.execute (slotOf pl) r).addJob (.now pl) [.nowHold pl]

/-! ### Standby and reset (R157, R158) -/

/-- R157. DESIGN CHOICE, log entry 38: the first page address and sequence keep their values. -/
def Session.standby (x : Session) : Session :=
  { x with state := .idle, returnState := none, padSet := none, waitingAbandon := none, finalAsked := false }

/-! ### The commands -/

def Xfer.isDescriptor (pl : Player) : Xfer → Bool
  | .request (.descriptor p _) => p = pl
  | _ => false

/-- DESCRIPTOR_READ_DONE (R141). -/
def execDescriptorReadDone (pl : Player) (reply : Option (BitVec 640)) (s : State) : Host.Outcome State Fault Refusal :=
  .next (s.endTransfer (Xfer.isDescriptor pl) (fun _ s => s.descriptorRead pl reply))

end Sys2Proof.Machine
end

