-- ==== Sys2Proof/Machine/Requests.lean ====
section
/-! DEFINITION. The Request Reader and what it serves on slot 0: song requests (R9 to R15), pad requests (R32 to R39),
the held request (R10), slot reads and completion writes (R193, R194). -/

namespace Sys2Proof.Machine

/-! ### Song requests (R9, R11 to R15) -/

/-- R9: a song request that its state check refuses. -/
def State.refuseSong (s : State) (r : Request) : State := s.complete .slot0 r.tag .busy 0

def State.onClock (s : State) (f : Clock → Clock) : State := s.setClock (f s.clock)

/-- R11: SONG_START. With the clock IDLE no player is PLAYING, so the order of the two judges shows nowhere. -/
def State.songStart (s : State) (r : Request) : State :=
  match s.clock.state with
  | .idle =>
    let v := clampInt Config.songMin Config.songMax r.arg0.toInt
    let s := s.onClock (fun c =>
      { c with start := v, songTime := v, wait := 0, state := .starting, waiting := some r })
    s.handToBoth .p0
  | .starting | .running | .paused => s.refuseSong r

/-- R13: SONG_PAUSE. -/
def State.songPause (s : State) (r : Request) : State :=
  if s.clock.state = .running ∧ s.clock.change = .none then
    s.onClock (fun c => { c with change := .pause, waiting := some r })
  else s.refuseSong r

/-- R14: SONG_RESUME. -/
def State.songResume (s : State) (r : Request) : State :=
  if s.clock.state = .paused ∧ s.clock.change = .none then
    s.onClock (fun c => { c with change := .resume, wait := 0, waiting := some r })
  else s.refuseSong r

/-- R15: the waiting request, if any, is cancelled with BUSY. -/
def State.cancelWaiting (s : State) : State :=
  match s.clock.waiting with
  | none => s
  | some r => (s.onClock (fun c => { c with waiting := none })).complete .slot0 r.tag .busy 0

/-- R15: the clock of a SONG_STOP. -/
def Clock.stop (c : Clock) : Clock := { c with state := .idle, change := .none, mode := .locked }

/-- R15: a PLAYING player enters CLOSING with ABORTED. -/
def State.abortIfPlaying (s : State) (pl : Player) : State :=
  if (s.session pl).state = .playing then s.enterClosing pl .aborted else s

/-- R15: the OK of a SONG_STOP. -/
def State.stopDone (s : State) (r : Request) : State := s.complete .slot0 r.tag .ok (timeWord s.clock.songTime)

/-- R15: SONG_STOP. -/
def State.songStop (s : State) (r : Request) (first : Player) : State :=
  match s.clock.state with
  | .idle => s.stopDone r
  | .starting | .running | .paused =>
    ((s.cancelWaiting.onClock Clock.stop).eachPlayer first (fun pl s => s.abortIfPlaying pl)).stopDone r

/-! ### Pad requests (R32, R34, R39) -/

/-- R32: LOAD_PROFILE. -/
def State.loadProfile (s : State) (r : Request) : State :=
  match padOfNumber r.arg0.toNat with
  | none => s.complete .slot0 r.tag .badArg 0
  | some pad =>
    if (s.owner pad).isSome then s.complete .slot0 r.tag .padBusy 0
    else if (s.pad pad).state = .calibrating then s.complete .slot0 r.tag .busy 0
    else (s.execute .slot0 r).ask (.profile pad r.arg1.toNat false)

/-- R34: CALIBRATE. -/
def State.calibrate (s : State) (r : Request) : State :=
  match padOfNumber r.arg0.toNat with
  | none => s.complete .slot0 r.tag .badArg 0
  | some pad =>
    if (s.pad pad).state ≠ .active then s.complete .slot0 r.tag .noProfile 0
    else if (s.owner pad).isSome then s.complete .slot0 r.tag .padBusy 0
    else (s.execute .slot0 r).setPad pad ((s.pad pad).startCalibration (clampNat 64 65535 r.arg1.toNat))

/-- R39: SENSOR_DUMP. -/
def State.sensorDump (s : State) (r : Request) : State :=
  (s.execute .slot0 r).setScan { s.scan with dump := some { addr := r.arg0.toNat, due := false } }

/-! ### Serving a request (R193) -/

/-- R193: a kind that the slot does not take. -/
def State.unknownKind (s : State) (slot : SlotId) (r : Request) : State :=
  s.complete slot r.tag .unknownKind (r.kind.setWidth 32)

/-- A request is served by the block that takes its kind (R193). -/
def State.serve (s : State) (slot : SlotId) (first : Player) (r : Request) : State :=
  match takenKind slot r.kind, slotPlayer slot with
  | some .songStart, none => s.songStart r
  | some .songPause, none => s.songPause r
  | some .songResume, none => s.songResume r
  | some .songStop, none => s.songStop r first
  | some .loadProfile, none => s.loadProfile r
  | some .calibrate, none => s.calibrate r
  | some .sensorDump, none => s.sensorDump r
  | some .arm, some pl => s.takeArm pl r
  | some .abandon, some pl => s.takeAbandon pl r
  | some .refreshNow, some pl => s.takeRefreshNow pl r
  | _, _ => s.unknownKind slot r

/-- R10: the held request, if any, starts as if it had just been read. -/
def State.startHeld (s : State) (first : Player) : State :=
  match s.clock.held with
  | none => s
  | some r => (s.onClock (fun c => { c with held := none })).serve .slot0 first r

/-- R9, R10: the waiting request completes, and the held request starts. -/
def State.completeWaiting (s : State) (status : Status) (result : Word) (first : Player) : State :=
  match s.clock.waiting with
  | none => s
  | some r =>
    ((s.onClock (fun c => { c with waiting := none })).complete .slot0 r.tag status result).startHeld first

/-! ### The end of a slot read (R193) -/

def SlotWords.request (kind : BitVec 16) (w : SlotWords) : Request :=
  { tag := w.tag, kind, arg0 := w.arg0, arg1 := w.arg1 }

/-- R193, R10: the read is stale. -/
def State.isStale (s : State) (slot : SlotId) (w : SlotWords) : Bool :=
  w.tag == w.doneTag || (slot == .slot0 && s.clock.waiting.any (fun r => r.tag == w.tag))

/-- R10: with a waiting song request, a request other than SONG_STOP is held. -/
def State.isHeldBack (s : State) (slot : SlotId) (r : Request) : Bool :=
  slot == .slot0 && s.clock.waiting.isSome && takenKind .slot0 r.kind != some .songStop

/-- R10: the request is kept as the held request. -/
def State.holdBack (s : State) (r : Request) : State := s.onClock (fun c => { c with held := some r })

/-- R193: what a slot read hands over is dealt with. -/
def State.takeRead (s : State) (slot : SlotId) (kind : BitVec 16) (w : SlotWords) (first : Player) : State :=
  let r := SlotWords.request kind w
  if s.isStale slot w then s
  else if s.isHeldBack slot r then s.holdBack r
  else
    let s := s.serve slot first r
    if takenKind slot kind = some .songStop then s.startHeld first else s

def Xfer.isSlotRead (slot : SlotId) : Xfer → Bool
  | .request (.slotRead x) => x = slot
  | _ => false

/-- The slot has no read in flight any more. -/
def State.slotReadOver (s : State) (slot : SlotId) : State :=
  s.setSlot slot { s.slot slot with readInFlight := false }

/-- R193: a slot read ends without a bus error; the slots ready after it are read (R192). -/
def State.slotRead (s : State) (slot : SlotId) (kind : BitVec 16) (w : SlotWords) (first : Player) : State :=
  s.endTransfer (Xfer.isSlotRead slot) (fun _ s =>
    ((s.slotReadOver slot).takeRead slot kind w first).readReadySlots)

/-- R193: a slot read has ended in a bus error. -/
def State.slotReadFailed (s : State) (slot : SlotId) : State :=
  ((s.slotReadOver slot).logFault .busRead (slotPlayer slot) 0 0).readReadySlots

/-! ### The ends of the pad requests' transfers (R32, R33, R37, R39) -/

/-- R32, R33: the profile read has ended. `claimed` tells that the pad has become owned since the read was asked for. -/
def State.profileRead (s : State) (pad : PadId) (addr : Nat) (claimed : Bool) : Option (BitVec 768) → State
  | none => (s.logFault .busRead none 0 0).finishExecuting .slot0 .busFault 0
  | some d =>
    if claimed || (s.owner pad).isSome then s.finishExecuting .slot0 .padBusy 0
    else
      let f := parseProfile d
      (s.applyProfile pad f addr).finishExecuting .slot0 .ok (BitVec.ofNat 32 f.panelCount)

/-- R37, R39: the write of a baseline table or of a dump has ended. -/
def State.padWriteEnded (s : State) (ok : Bool) (result : Word) : State :=
  if ok then s.finishExecuting .slot0 .ok result
  else (s.logFault .busWrite none 0 0).finishExecuting .slot0 .busFault result

/-! ### The end of a completion write (R194) -/

/-- R194. -/
def State.completionWritten (s : State) (slot : SlotId) (ok : Bool) : State :=
  let s := s.setSlot slot { s.slot slot with unwritten := (s.slot slot).unwritten - 1 }
  (if ok then s.raise (noticeSlot slot) else s.logFault .busWrite (slotPlayer slot) 0 0).readReadySlots

def Xfer.isProfile : Xfer → Bool
  | .request (.profile _ _ _) => true
  | _ => false

def Xfer.isTable : Xfer → Bool
  | .request (.table _ _ _) => true
  | _ => false

def Xfer.isDump : Xfer → Bool
  | .request (.dump _ _ _) => true
  | _ => false

def Xfer.isCompletion (slot : SlotId) : Xfer → Bool
  | .request (.completion x _ _ _) => x = slot
  | _ => false

def State.endProfile (s : State) (reply : Option (BitVec 768)) : Xfer → State
  | .request (.profile pad addr claimed) => s.profileRead pad addr claimed reply
  | _ => s

def State.endPadWrite (s : State) (ok : Bool) : Xfer → State
  | .request (.table _ _ result) => s.padWriteEnded ok result
  | .request (.dump _ _ result) => s.padWriteEnded ok result
  | _ => s

/-! ### The commands -/

/-- SONG_START (R11), read from slot 0. -/
def execSongStart (w : SlotWords) (s : State) : Host.Outcome State Fault Refusal :=
  .next (s.slotRead .slot0 ReqKind.songStart.code w .p0)

/-- SONG_PAUSE (R13). -/
def execSongPause (w : SlotWords) (s : State) : Host.Outcome State Fault Refusal :=
  .next (s.slotRead .slot0 ReqKind.songPause.code w .p0)

/-- SONG_RESUME (R14). -/
def execSongResume (w : SlotWords) (s : State) : Host.Outcome State Fault Refusal :=
  .next (s.slotRead .slot0 ReqKind.songResume.code w .p0)

/-- SONG_STOP (R15). -/
def execSongStop (w : SlotWords) (first : Player) (s : State) : Host.Outcome State Fault Refusal :=
  .next (s.slotRead .slot0 ReqKind.songStop.code w first)

/-- HELD_REQUEST (R10): a slot-0 request of any kind, kept while a song request waits. -/
def execHeldRequest (kind : BitVec 16) (w : SlotWords) (s : State) : Host.Outcome State Fault Refusal :=
  .next (if s.clock.waiting.isSome then s.slotRead .slot0 kind w .p0 else s)

/-- LOAD_PROFILE (R32). -/
def execLoadProfile (w : SlotWords) (s : State) : Host.Outcome State Fault Refusal :=
  .next (s.slotRead .slot0 ReqKind.loadProfile.code w .p0)

/-- PROFILE_READ_DONE (R32, R33). -/
def execProfileReadDone (reply : Option (BitVec 768)) (s : State) : Host.Outcome State Fault Refusal :=
  .next (s.endTransfer Xfer.isProfile (fun x s => s.endProfile reply x))

/-- CALIBRATE (R34). -/
def execCalibrate (w : SlotWords) (s : State) : Host.Outcome State Fault Refusal :=
  .next (s.slotRead .slot0 ReqKind.calibrate.code w .p0)

/-- BASELINE_TABLE_WRITE_DONE (R37). -/
def execBaselineTableWriteDone (ok : Bool) (s : State) : Host.Outcome State Fault Refusal :=
  .next (s.endTransfer Xfer.isTable (fun x s => s.endPadWrite ok x))

/-- SENSOR_DUMP (R39). -/
def execSensorDump (w : SlotWords) (s : State) : Host.Outcome State Fault Refusal :=
  .next (s.slotRead .slot0 ReqKind.sensorDump.code w .p0)

/-- DUMP_WRITE_DONE (R39). -/
def execDumpWriteDone (ok : Bool) (s : State) : Host.Outcome State Fault Refusal :=
  .next (s.endTransfer Xfer.isDump (fun x s => s.endPadWrite ok x))

/-- ARM (R140), read from the player's slot. -/
def execArm (pl : Player) (w : SlotWords) (s : State) : Host.Outcome State Fault Refusal :=
  .next (s.slotRead (slotOf pl) ReqKind.arm.code w .p0)

/-- ABANDON (R150). -/
def execAbandon (pl : Player) (w : SlotWords) (s : State) : Host.Outcome State Fault Refusal :=
  .next (s.slotRead (slotOf pl) ReqKind.abandon.code w .p0)

/-- REFRESH_NOW (R173). -/
def execRefreshNow (pl : Player) (w : SlotWords) (s : State) : Host.Outcome State Fault Refusal :=
  .next (s.slotRead (slotOf pl) ReqKind.refreshNow.code w .p0)

/-- UNKNOWN_KIND (R193): a kind the slot does not take. -/
def execUnknownKind (slot : SlotId) (kind : BitVec 16) (w : SlotWords) (s : State) : Host.Outcome State Fault Refusal :=
  .next (if (takenKind slot kind).isNone then s.slotRead slot kind w .p0 else s)

/-- STALE_REQUEST (R193, R10): a slot read whose tag is the done tag or the waiting request's tag. -/
def execStaleRequest (slot : SlotId) (w : SlotWords) (s : State) : Host.Outcome State Fault Refusal :=
  .next (if s.isStale slot w then s.slotRead slot 0 w .p0 else s)

/-- SLOT_READ_FAULT (R193). -/
def execSlotReadFault (slot : SlotId) (s : State) : Host.Outcome State Fault Refusal :=
  .next (s.endTransfer (Xfer.isSlotRead slot) (fun _ s => s.slotReadFailed slot))

/-- COMPLETION_WRITE_DONE (R194). -/
def execCompletionWriteDone (slot : SlotId) (ok : Bool) (s : State) : Host.Outcome State Fault Refusal :=
  .next (s.endTransfer (Xfer.isCompletion slot) (fun _ s => s.completionWritten slot ok))

end Sys2Proof.Machine
end

