-- ==== Sys2Proof/Machine/Clock.lean ====
section
/-! DEFINITION. The Song Clock: its round, its pulses, loss and return of lock, pauses and resumes taking effect
(chapter 1, R1 to R17). -/

namespace Sys2Proof.Machine

/-! ### Spacing (R5, R6) -/

/-- R6: a run of four anomalies is reported and the run starts again. -/
def State.reportAnomalies (s : State) : State :=
  (s.reportSync flagSyncLost).onClock (fun c => { c with anomalyRun := 0 })

/-- R6: the run has reached its limit. -/
def Clock.runFull (c : Clock) : Bool := Config.anomalyLimit ≤ c.anomalyRun

/-- R5: a phase count at which a pulse is not an anomaly: silence, or 6 to 10 rounds. -/
def spacingGood (phase : Nat) : Bool := phase = Config.phaseLimit ∨ (6 ≤ phase ∧ phase ≤ 10)

/-- R5, R6: the spacing check of a pulse. -/
def State.checkSpacing (s : State) : State :=
  let s :=
    if spacingGood s.clock.phase then s.onClock (fun c => { c with anomalyRun := 0 })
    else
      let s := (s.logFault .syncAnomaly none 0 0).onClock (fun c => { c with anomalyRun := c.anomalyRun + 1 })
      if s.clock.runFull then s.reportAnomalies else s
  s.onClock (fun c => { c with phase := 0 })

/-! ### Entering RUNNING and PAUSED (R12 to R14) -/

/-- R12: an ARMED player becomes PLAYING. -/
def State.playIfArmed (s : State) (pl : Player) : State :=
  if (s.session pl).state = .armed then s.becomePlaying pl else s

/-- R12: the clock enters RUNNING at the start value. -/
def State.startRunning (s : State) (mode : LockMode) (result : Word) (first : Player) : State :=
  let s := s.onClock (fun c =>
    { c with state := .running, mode, songTime := c.start, lastPulse := c.start })
  (s.eachPlayer first (fun pl s => s.playIfArmed pl)).completeWaiting .ok result first

/-- R12: the fallback of STARTING. -/
def State.startFallback (s : State) (first : Player) : State :=
  (s.reportSync flagSyncLost).startRunning .free 1 first

/-- R14: a pending RESUME takes effect; the flag is raised when the lock mode changes. -/
def State.resumeRunning (s : State) (mode : LockMode) (flag : BitVec 16) (result : Word) (first : Player) : State :=
  let s := if s.clock.mode = mode then s else s.reportSync flag
  let s := s.onClock (fun c => { c with state := .running, mode, lastPulse := c.songTime, change := .none })
  (s.eachPlayer first (fun pl s => s.reconcile pl)).completeWaiting .ok result first

/-- R14: the fallback of a pending RESUME. -/
def State.resumeFallback (s : State) (first : Player) : State := s.resumeRunning .free flagSyncLost 1 first

/-- R13: a pending PAUSE takes effect. -/
def State.takePause (s : State) (first : Player) : State :=
  (s.onClock (fun c => { c with state := .paused, change := .none })).completeWaiting .ok (timeWord s.clock.songTime)
    first

/-- R7: lock is lost. -/
def State.loseLock (s : State) : State := (s.onClock (fun c => { c with mode := .free })).reportSync flagSyncLost

/-! ### The round strobe (R1, R3, R4, R7) -/

/-- R5, R188: the phase count of a round, and from this strobe on pulses are taken. -/
def Clock.countPhase (c : Clock) : Clock := { c with phase := min Config.phaseLimit (c.phase + 1), taking := true }

/-- R11, R14: the wait count of a round. -/
def Clock.countWait (c : Clock) : Clock := { c with wait := min Config.waitLimit (c.wait + 1) }

/-- R3: the LOCKED advance of a round. -/
def Clock.advanceLocked (c : Clock) : Clock := { c with songTime := capTime (min (c.songTime + 1) (c.lastPulse + 7)) }

/-- R4: the FREE advance of a round. -/
def Clock.advanceFree (c : Clock) : Clock := { c with songTime := capTime (c.songTime + 1) }

/-- R7: a LOCKED clock has counted 32 rounds without a pulse. -/
def Clock.lockOver (c : Clock) : Bool := c.state = .running ∧ c.mode = .locked ∧ c.phase = Config.phaseLimit

/-- R12: STARTING has waited 32 rounds. -/
def Clock.startOver (c : Clock) : Bool := c.state = .starting ∧ c.wait = Config.waitLimit

/-- R14: a pending RESUME has waited 32 rounds. -/
def Clock.resumeOver (c : Clock) : Bool := c.state = .paused ∧ c.change = .resume ∧ c.wait = Config.waitLimit

/-- What a strobe leaves of the clock: the state, and whether both judges are still to be handed the song time. -/
structure Strobed where
  state : State
  handOver : Bool
deriving DecidableEq, Repr

/-- R3, R7: a strobe of a clock RUNNING and LOCKED. -/
def State.strobeLocked (s : State) : Strobed :=
  let t := s.onClock Clock.advanceLocked
  ⟨if t.clock.lockOver then t.loseLock else t, t.clock.songTime ≠ s.clock.songTime⟩

/-- R4, R13: a strobe of a clock RUNNING and FREE; a pending PAUSE takes effect after the advance, whose new value the
judges have been handed before. -/
def State.strobeFree (s : State) (first : Player) : Strobed :=
  let t := s.onClock Clock.advanceFree
  let moved := t.clock.songTime ≠ s.clock.songTime
  if t.clock.change = .pause then ⟨(if moved then t.handToBoth first else t).takePause first, false⟩
  else ⟨t, moved⟩

/-- R1: the Song Clock takes a round strobe. -/
def State.clockStrobe (s : State) (first : Player) : Strobed :=
  let s := s.onClock Clock.countPhase
  match s.clock.state with
  | .idle => ⟨s, false⟩
  | .starting =>
    let s := s.onClock Clock.countWait
    ⟨if s.clock.startOver then s.startFallback first else s, false⟩
  | .running =>
    match s.clock.mode with
    | .locked => s.strobeLocked
    | .free => s.strobeFree first
  | .paused =>
    if s.clock.change = .resume then
      let s := s.onClock Clock.countWait
      ⟨if s.clock.resumeOver then s.resumeFallback first else s, false⟩
    else ⟨s, false⟩

/-! ### Pulses (R3, R8, R12 to R14) -/

/-- R3: the LOCKED step of a pulse. -/
def Clock.pulseLocked (c : Clock) : Clock :=
  { c with songTime := capTime (c.lastPulse + 8), lastPulse := capTime (c.lastPulse + 8) }

/-- R8: the least value last pulse + 8k at or above the song time, with k at least 0. -/
def reacquired (lastPulse songTime : Int) : Int := lastPulse + 8 * max 0 (-((lastPulse - songTime) / 8))

/-- R8: a pulse reacquires lock. -/
def Clock.reacquire (c : Clock) : Clock :=
  let v := capTime (reacquired c.lastPulse c.songTime)
  { c with songTime := v, lastPulse := v, mode := .locked }

/-- A pulse has moved song time from `before`: the new value is handed over, then a pending PAUSE takes effect. -/
def State.afterPulse (s : State) (before : Int) (first : Player) : State :=
  let s := if s.clock.songTime ≠ before then s.handToBoth first else s
  if s.clock.change = .pause then s.takePause first else s

/-- R3, R8: a pulse in RUNNING. -/
def State.pulseRunning (s : State) (first : Player) : State :=
  match s.clock.mode with
  | .locked => (s.onClock Clock.pulseLocked).afterPulse s.clock.songTime first
  | .free => ((s.onClock Clock.reacquire).reportSync flagSyncBack).afterPulse s.clock.songTime first

/-- What a pulse does beside the spacing check, by the clock's state (R3, R8, R12, R14). -/
def State.actPulse (s : State) (first : Player) : State :=
  match s.clock.state with
  | .idle => s
  | .starting => s.startRunning .locked 0 first
  | .running => s.pulseRunning first
  | .paused => if s.clock.change = .resume then s.resumeRunning .locked flagSyncBack 0 first else s

/-! ### Reset and standby (R16, R17, R188) -/

/-- R17. DESIGN CHOICE, log entry 39: the start value keeps its value, as it does when STARTING ends. -/
def Clock.standby (c : Clock) : Clock :=
  { c with
    state := .idle, lastPulse := c.songTime, mode := .locked, change := .none, phase := Config.phaseLimit, wait := 0,
    anomalyRun := 0, waiting := none, held := none, taking := false }

/-! ### The commands -/

/-- SYNC_PULSE (R2, R3): the spacing check, then the effect on the clock. A pulse before the first round strobe after the
standby exit is not taken (R188). -/
def execSyncPulse (first : Player) (s : State) : Host.Outcome State Fault Refusal :=
  .next (s.whenOperating (fun s => if s.clock.taking then s.checkSpacing.actPulse first else s))

/-- ANOMALY_RUN_REPORT (R6): the run stands at its limit (log entry 3). -/
def execAnomalyRunReport (s : State) : Host.Outcome State Fault Refusal :=
  .next (s.whenOperating (fun s => if s.clock.runFull then s.reportAnomalies else s))

/-- LOCK_LOSS (R7): the phase count stands at 32 with the clock RUNNING and LOCKED (log entry 3). -/
def execLockLoss (s : State) : Host.Outcome State Fault Refusal :=
  .next (s.whenOperating (fun s => if s.clock.lockOver then s.loseLock else s))

/-- START_FALLBACK (R12): the wait count stands at 32 in STARTING (log entry 3). -/
def execStartFallback (first : Player) (s : State) : Host.Outcome State Fault Refusal :=
  .next (s.whenOperating (fun s => if s.clock.startOver then s.startFallback first else s))

/-- RESUME_FALLBACK (R14): the wait count stands at 32 with a RESUME pending (log entry 3). -/
def execResumeFallback (first : Player) (s : State) : Host.Outcome State Fault Refusal :=
  .next (s.whenOperating (fun s => if s.clock.resumeOver then s.resumeFallback first else s))

end Sys2Proof.Machine
end

