-- ==== Sys2Proof/Machine/Power.lean ====
section
/-! DEFINITION. Run states: standby exit with its settings read, standby entry and device resets, for the part as a whole
(chapter 10, R187 to R190, and what each chapter states for standby and reset). -/

namespace Sys2Proof.Machine

/-! ### The transfer in flight -/

/-- R189, R190: the ending of the transfer in flight is reported to no block. -/
def Bus.silence (b : Bus) : Bus := { b with inFlight := b.inFlight.map (fun t => { t with silent := true }) }

/-! ### Standby exit (R188) -/

/-- R188: RUN is written 1 in STANDBY. -/
def State.standbyExit (s : State) : State :=
  if s.run = .standby then (s.setRun .waking).ask .settings else s

/-- R188: the exit fails. -/
def State.settingsFailed (s : State) : State := (s.logFault .settings none 0 0).setRun .standby

/-- R188: the settings that pass the checks. -/
def Settings.good (x : Settings) (root : Word) : Bool :=
  decide (x.window.low < x.window.high) && x.window.holds root.toNat Config.rootBytes

/-- R188, R166, R2, R18, R42: the exit succeeds. -/
def State.takeSettings (s : State) (x : Settings) : State :=
  { s with
    run := .operating, window := x.window,
    refresh := { s.refresh with period := x.period, timer := 0 },
    clock := { s.clock with edge := x.edge, taking := false },
    scan := { s.scan with assign := x.assign },
    pads := ⟨s.pads.pad0.standbyExit, s.pads.pad1.standbyExit⟩ }

/-- R188: the settings read has ended. -/
def State.settingsRead (s : State) : Option (BitVec 512) → State
  | none => s.settingsFailed
  | some d =>
    let x := parseSettings d
    if x.good s.root then s.takeSettings x else s.settingsFailed

/-- R187: RUN is written 0 in WAKING; the settings read is abandoned. -/
def State.wakingAbandon (s : State) : State :=
  if s.run = .waking then { s with run := .standby, work := [], bus := s.bus.silence } else s

/-! ### Standby entry (R189) -/

/-- R136: the outcome a standby leaves. -/
def PlayerState.standbyOutcome : PlayerState → StageOutcome
  | .armed | .playing | .closing => .aborted
  | .idle | .arming | .done => .none

/-- R189, and R17, R38, R39, R41, R69, R94, R136, R157, R165, R175, R184: standby entry, block by block. -/
def State.enterStandby (s : State) : State :=
  let judge : Judge := Judge.empty Config.poolSize Params.zero s.clock.songTime
  { s with
    run := .standby,
    slots := ⟨Slot.clear, Slot.clear, Slot.clear⟩,
    work := [],
    bus := s.bus.silence,
    clock := s.clock.standby,
    pads := ⟨s.pads.pad0.standby, s.pads.pad1.standby⟩,
    owners := ⟨none, none⟩,
    scan := { s.scan with dump := none },
    fetchers := ⟨Fetcher.reset, Fetcher.reset⟩,
    judges := ⟨judge, judge⟩,
    scores :=
      ⟨Score.clear s.sessions.p0.state.standbyOutcome, Score.clear s.sessions.p1.state.standbyOutcome⟩,
    sessions := ⟨s.sessions.p0.standby, s.sessions.p1.standby⟩,
    writers := ⟨Writer.reset, Writer.reset⟩,
    refresh := s.refresh.stop,
    lamps := s.lamps.dark }

/-- R187: RUN is written 0 in OPERATING. -/
def State.standbyEntry (s : State) : State := s.whenOperating State.enterStandby

/-! ### Device reset (R190) -/

/-- R190: every device reset effect of CONTROL.RESET. ROOT, NOTICE_MASK, the Fault Record and the window bounds are
kept. -/
def State.deviceReset (s : State) : State :=
  { State.reset with
    resetHeld := s.resetHeld, root := s.root, mask := s.mask, fault := s.fault, window := s.window,
    pending := s.pending }

/-- R190: with no transfer in flight, the reset that RESETTING waits for is applied. -/
def State.resetComplete (s : State) : State :=
  if s.run = .resetting ∧ s.bus.inFlight = none then s.deviceReset else s

/-- R187, R190: a write with RESET = 1. -/
def State.controlReset (s : State) : State :=
  if s.run = .resetting then s else (({ s with bus := s.bus.silence } : State).setRun .resetting).resetComplete

/-- R190: RESET_N falls. Nothing of the part's state is kept. -/
def State.pinReset (s : State) : State := { State.reset with resetHeld := true, pending := s.pending }

/-- R190: RESET_N rises. -/
def State.pinRise (s : State) : State := { s with resetHeld := false }

/-- `f s` unless RESET_N is held low (log entry 9). -/
def State.whenReleased (s : State) (f : State → State) : State := if s.resetHeld then s else f s

/-! ### The commands -/

/-- STANDBY_EXIT (R187, R188). -/
def execStandbyExit (s : State) : Host.Outcome State Fault Refusal := .next (s.whenReleased State.standbyExit)

def Xfer.isSettings : Xfer → Bool
  | .request .settings => true
  | _ => false

/-- SETTINGS_READ_DONE (R188). -/
def execSettingsReadDone (reply : Option (BitVec 512)) (s : State) : Host.Outcome State Fault Refusal :=
  .next (s.endTransfer Xfer.isSettings (fun _ s => s.settingsRead reply))

/-- WAKING_ABANDON (R187). -/
def execWakingAbandon (s : State) : Host.Outcome State Fault Refusal := .next (s.whenReleased State.wakingAbandon)

/-- STANDBY_ENTRY (R187, R189). -/
def execStandbyEntry (s : State) : Host.Outcome State Fault Refusal := .next (s.whenReleased State.standbyEntry)

/-- CONTROL_RESET (R187, R190): RUN ends 0 whatever value was written to it. -/
def execControlReset (_run : Bool) (s : State) : Host.Outcome State Fault Refusal :=
  .next (s.whenReleased State.controlReset)

/-- RESET_COMPLETE (R190). -/
def execResetComplete (s : State) : Host.Outcome State Fault Refusal := .next (s.whenReleased State.resetComplete)

/-- RESET_N (R190): the pin falls. -/
def execResetN (s : State) : Host.Outcome State Fault Refusal := .next s.pinReset

/-- RESET_N_RISE (R190). -/
def execResetNRise (s : State) : Host.Outcome State Fault Refusal := .next s.pinRise

end Sys2Proof.Machine
end

