-- ==== Sys2Proof/Machine/Registers.lean ====
section
/-! DEFINITION. The register window: ROOT, ATTN, NOTICE, NOTICE_MASK and CONTROL as written and as read (R186, R187,
R191, R192, R196, R198). -/

namespace Sys2Proof.Machine

/-- R191: ROOT takes a write in STANDBY, its low 6 bits cleared. -/
def State.writeRoot (s : State) (v : Word) : State :=
  if s.run = .standby then { s with root := v &&& 0xFFFFFFC0 } else s

/-- R192: attention becomes pending for a slot. -/
def State.attend (s : State) (slot : SlotId) (named : Bool) : State :=
  if named then s.setSlot slot { s.slot slot with attention := true } else s

/-- R192: a write to ATTN. -/
def State.writeAttn (s : State) (v : Word) : State :=
  s.whenOperating (fun s =>
    (((s.attend .slot0 (v.getLsbD 0)).attend .slot1 (v.getLsbD 1)).attend .slot2 (v.getLsbD 2)).readReadySlots)

/-- R198: the Fault Record is re-armed. -/
def State.rearm (s : State) : State := s.setFault FaultRecord.rearmed

/-- R196, R198: a write to NOTICE clears the bits written 1; the FAULT bit also re-arms the Fault Record. -/
def State.writeNotice (s : State) (v : Word) : State :=
  if s.run = .resetting then s
  else
    let s := s.setNotices (s.notice &&& ~~~(v.setWidth 8))
    if v.getLsbD 5 then s.rearm else s

/-- R196: a write to NOTICE_MASK. -/
def State.writeMask (s : State) (v : Word) : State :=
  if s.run = .resetting then s else { s with mask := v.setWidth 8 }

/-- R187: a write to CONTROL. -/
def State.writeControl (s : State) (v : Word) : State :=
  if v.getLsbD 1 then s.controlReset
  else if v.getLsbD 0 then s.standbyExit
  else
    match s.run with
    | .waking => s.wakingAbandon
    | .operating => s.standbyEntry
    | .standby | .resetting => s

/-- R186: a write to the register at an offset; IDENT and every other place ignore it. -/
def State.writeRegister (s : State) (offset : Nat) (v : Word) : State :=
  match offset with
  | 0x04 => s.writeControl v
  | 0x08 => s.writeRoot v
  | 0x0C => s.writeAttn v
  | 0x10 => s.writeNotice v
  | 0x14 => s.writeMask v
  | _ => s

/-- R186, R187: what CONTROL reads. -/
def RunState.control : RunState → Word
  | .standby => 0
  | .waking | .operating => 1
  | .resetting => 2

/-- R186: what a read of the register at an offset answers (log entry 17). -/
def State.readRegister (s : State) (offset : Nat) : Word :=
  match offset with
  | 0x00 => Config.ident
  | 0x04 => s.run.control
  | 0x08 => s.root
  | 0x10 => s.notice.setWidth 32
  | 0x14 => s.mask.setWidth 32
  | _ => 0

/-! ### The commands -/

/-- ROOT (R191). -/
def execRoot (v : Word) (s : State) : Host.Outcome State Fault Refusal := .next (s.whenReleased (fun s => s.writeRoot v))

/-- ATTN (R192). -/
def execAttn (v : Word) (s : State) : Host.Outcome State Fault Refusal := .next (s.whenReleased (fun s => s.writeAttn v))

/-- NOTICE (R196). -/
def execNotice (v : Word) (s : State) : Host.Outcome State Fault Refusal :=
  .next (s.whenReleased (fun s => s.writeNotice v))

/-- FAULT_REARM (R198): a write to NOTICE with the FAULT bit 1 (log entry 24). -/
def execFaultRearm (v : Word) (s : State) : Host.Outcome State Fault Refusal :=
  .next (s.whenReleased (fun s => s.writeNotice (v ||| 0x20)))

/-- NOTICE_MASK (R196). -/
def execNoticeMask (v : Word) (s : State) : Host.Outcome State Fault Refusal :=
  .next (s.whenReleased (fun s => s.writeMask v))

/-- REGISTER_WRITE (R186). -/
def execRegisterWrite (offset : Nat) (v : Word) (s : State) : Host.Outcome State Fault Refusal :=
  .next (s.whenReleased (fun s => s.writeRegister offset v))

end Sys2Proof.Machine
end

