-- ==== Sys2Proof/Machine/BusPort.lean ====
section
/-! DEFINITION. The Bus Port: who asks, the arbiter, the transfer made at a grant, the window check and the timeout
(chapter 10, R195, R198 to R200; the extents of R202). -/

namespace Sys2Proof.Machine

/-! ### Asking and arbitration (R195, R199) -/

/-- R195: a fault record write may be granted. -/
def State.faultWriteDue (s : State) : Bool := s.fault.writePending && decide s.Operating

/-- R199: a client is asking for a grant. -/
def State.asks (s : State) : Client → Bool
  | .request => !s.work.isEmpty || s.faultWriteDue
  | .fetch pl => (s.fetcher pl).read.isSome
  | .write pl => !(s.writer pl).queue.isEmpty && (s.writer pl).inFlight.isNone
  | .refresh =>
    match pickJob s.refresh.jobs with
    | none => false
    | some j => !j.todo.isEmpty

/-- The clients in cyclic order, from the one after the last granted to the last granted itself (R199). -/
def Client.after : Client → List Client
  | .request => [.fetch .p0, .fetch .p1, .write .p0, .write .p1, .refresh, .request]
  | .fetch .p0 => [.fetch .p1, .write .p0, .write .p1, .refresh, .request, .fetch .p0]
  | .fetch .p1 => [.write .p0, .write .p1, .refresh, .request, .fetch .p0, .fetch .p1]
  | .write .p0 => [.write .p1, .refresh, .request, .fetch .p0, .fetch .p1, .write .p0]
  | .write .p1 => [.refresh, .request, .fetch .p0, .fetch .p1, .write .p0, .write .p1]
  | .refresh => [.request, .fetch .p0, .fetch .p1, .write .p0, .write .p1, .refresh]

/-- R199: the client that is granted next. -/
def State.nextClient (s : State) : Option Client := s.bus.last.after.find? (fun c => s.asks c)

/-! ### The transfer a grant makes (R195, R202) -/

/-- A grant as it is made: the state after it and the transfer, not yet checked. -/
structure Grant where
  state : State
  transfer : Transfer
deriving DecidableEq, Repr

def readOf (what : Xfer) (addr len : Nat) : Transfer := { what, addr, len, data := [], silent := false }

def writeOf (what : Xfer) (addr : Nat) (data : List Byte) : Transfer :=
  { what, addr, len := data.length, data, silent := false }

/-- An address in the root block. -/
def State.rootAt (s : State) (offset : Nat) : Nat := s.root.toNat + offset

/-- R202: the extent of a transfer of the work list. -/
def State.workTransfer (s : State) (w : Work) : Transfer :=
  match w with
  | .settings => readOf (.request w) (s.rootAt 0) 64
  | .slotRead slot => readOf (.request w) (s.rootAt (slotOffset slot)) 32
  | .completion slot status tag result =>
    writeOf (.request w) (s.rootAt (slotOffset slot + 0x10)) (completionBytes status tag result)
  | .descriptor _ addr => readOf (.request w) addr 80
  | .profile _ addr _ => readOf (.request w) addr 96
  | .table addr data _ => writeOf (.request w) addr data
  | .dump addr data _ => writeOf (.request w) addr data

/-- R193: at its grant a slot read clears the slot's attention. -/
def State.grantWork (s : State) : Work → State
  | .slotRead slot => s.setSlot slot { s.slot slot with attention := false }
  | _ => s

/-- R195, R198: a grant of the client REQUEST. -/
def State.grantRequest (s : State) : Option Grant :=
  if s.faultWriteDue then
    some ⟨s.setFault { s.fault with writePending := false }, writeOf .faultRecord (s.rootAt 0xA8) (faultBytes s.fault)⟩
  else
    match s.work with
    | [] => none
    | w :: rest => some ⟨(s.setWork rest).grantWork w, s.workTransfer w⟩

/-- R46, R48, R50, R51: a grant of a fetcher. -/
def State.grantFetch (s : State) (pl : Player) : Option Grant :=
  (s.fetcher pl).read.map (fun r => ⟨s, readOf (.fetch pl r.kind) r.addr r.kind.bytes⟩)

/-- R160, R164: the write of an item. -/
def State.itemTransfer (s : State) (pl : Player) : WriteItem → Transfer
  | .result i => writeOf (.result pl i) ((s.entry pl i).addr + 0x0A) (resultBytes (s.entry pl i))
  | .retire addr seq => writeOf (.retire pl seq) (addr + 0x0C) (retireBytes seq)

/-- R159: a grant of a Write-back Unit: the front item leaves the queue. -/
def State.grantWrite (s : State) (pl : Player) : Option Grant :=
  match (s.writer pl).queue with
  | [] => none
  | x :: rest =>
    some ⟨s.onWriter pl (fun w => { w with queue := rest, inFlight := some x }), s.itemTransfer pl x⟩

/-- R168 to R174: a transfer of a refresh job. A scoreboard is built here. -/
def State.refreshTransfer (s : State) : RefreshXfer → Grant
  | .holds => ⟨s, readOf .holds (s.rootAt 0xA0) 8⟩
  | .nowHold pl => ⟨s, readOf (.nowHold pl) (s.rootAt (holdOffset pl)) 4⟩
  | .board pl =>
    ⟨s.carryFlags pl, writeOf (.board pl (s.nextSerial pl)) (s.rootAt (boardOffset pl))
      (s.boardOf pl (s.nextSerial pl) (s.session pl).state)⟩
  | .finalBoard pl =>
    ⟨s.carryFlags pl, writeOf (.finalBoard pl (s.nextSerial pl)) (s.rootAt (boardOffset pl))
      (s.boardOf pl (s.nextSerial pl) .done)⟩
  | .mirrors => ⟨s, writeOf .mirrors (s.rootAt 0x140) (mirrorBytes s.scan.shown.pad0 ++ mirrorBytes s.scan.shown.pad1)⟩

/-- R167: a grant of the Refresh Unit. -/
def State.grantRefresh (s : State) : Option Grant :=
  match pickJob s.refresh.jobs with
  | none => none
  | some j =>
    match j.todo with
    | [] => none
    | x :: rest => some ((s.changeJob j.kind (fun j => { j with todo := rest, started := true })).refreshTransfer x)

/-- The transfer a grant of a client makes. -/
def State.grantOf (s : State) : Client → Option Grant
  | .request => s.grantRequest
  | .fetch pl => s.grantFetch pl
  | .write pl => s.grantWrite pl
  | .refresh => s.grantRefresh

/-! ### Bus errors (R200) -/

/-- A transfer of the work list has ended in a bus error. -/
def State.failWork (s : State) : Work → State
  | .settings => s.settingsFailed
  | .slotRead slot => s.slotReadFailed slot
  | .completion slot _ _ _ => s.completionWritten slot false
  | .descriptor pl _ => s.descriptorRead pl none
  | .profile pad addr claimed => s.profileRead pad addr claimed none
  | .table _ _ result => s.padWriteEnded false result
  | .dump _ _ result => s.padWriteEnded false result

/-- A fetcher's read has ended in a bus error (R52). -/
def State.failFetch (s : State) (pl : Player) (kind : FetchKind) : State :=
  s.endRead pl (fun s =>
    match kind with
    | .header => s.headerRead pl none
    | .reread => s.rereadHeader pl none
    | .record => s.recordRead pl none
    | .link => s.linkRead pl none)

/-- R200: a transfer ends as a bus error for its client. -/
def State.failTransfer (s : State) : Xfer → State
  | .request w => s.failWork w
  | .faultRecord => s
  | .fetch pl kind => s.failFetch pl kind
  | .result pl i => s.resultLost pl i
  | .retire pl seq => s.retirementLost pl seq
  | .holds => s.endHolds none
  | .nowHold pl => s.endNowHold pl none
  | .board pl serial => s.endBoard pl serial false
  | .finalBoard pl _ => s.endFinalBoard pl false
  | .mirrors => s.endMirrors false

/-! ### Grant and timeout -/

/-- R200: the settings read goes out unchecked; every other transfer must lie in the window. -/
def Window.lets (w : Window) (t : Transfer) : Bool := t.what.isSettings || w.holds t.addr t.len

/-- R200: the granted transfer starts, or ends at once as a bus error. -/
def State.startTransfer (s : State) (t : Transfer) : State :=
  if s.window.lets t then s.setBus { s.bus with inFlight := some t } else s.failTransfer t.what

/-- R190: the run states in which the Bus Port makes grants. -/
def RunState.grants : RunState → Bool
  | .waking | .operating => true
  | .standby | .resetting => false

/-- R199: with no transfer in flight, the next asking client is granted. -/
def State.busGrant (s : State) : State :=
  if s.run.grants ∧ s.bus.inFlight = none then
    match s.nextClient with
    | none => s
    | some c =>
      match s.grantOf c with
      | none => s
      | some g => (g.state.setBus { g.state.bus with last := c }).startTransfer g.transfer
  else s

/-- R200: the transfer in flight is abandoned. -/
def State.busTimeout (s : State) : State := s.endTransfer (fun _ => true) (fun x s => s.failTransfer x)

/-! ### The ends of a fetcher's reads -/

def Xfer.isFetch (pl : Player) (kind : FetchKind) : Xfer → Bool
  | .fetch p k => p = pl ∧ k = kind
  | _ => false

def Xfer.isFetchOf (pl : Player) : Xfer → Bool
  | .fetch p _ => p = pl
  | _ => false

/-- The result of the player's read in flight is to be discarded (R68). -/
def State.discards (s : State) (pl : Player) : Bool := (s.fetcher pl).read.any (fun r => r.discard)

/-- The player's fetcher read, silent or not, belongs to nothing the player still waits for (R68, R69). -/
def State.readUnwanted (s : State) (pl : Player) : Bool :=
  s.discards pl || s.bus.inFlight.any (fun t => t.silent)

/-! ### The commands -/

/-- BUS_GRANT (R199, R200). -/
def execBusGrant (s : State) : Host.Outcome State Fault Refusal := .next s.busGrant

/-- BUS_TIMEOUT (R200). -/
def execBusTimeout (s : State) : Host.Outcome State Fault Refusal := .next s.busTimeout

/-- PAGE_WAIT_RESUME (R46). -/
def execPageWaitResume (pl : Player) (s : State) : Host.Outcome State Fault Refusal :=
  .next (s.whenOperating (fun s => s.askHeader pl))

/-- HEADER_READ_DONE (R47). -/
def execHeaderReadDone (pl : Player) (reply : Option (BitVec 128)) (s : State) : Host.Outcome State Fault Refusal :=
  .next (s.endTransfer (Xfer.isFetch pl .header) (fun _ s => s.endRead pl (fun s => s.headerRead pl reply)))

/-- POOL_ENTRY_RESERVE (R48). -/
def execPoolEntryReserve (pl : Player) (s : State) : Host.Outcome State Fault Refusal :=
  .next (s.whenOperating (fun s => s.reserveNext pl))

/-- RECORD_READ_DONE (R53). -/
def execRecordReadDone (pl : Player) (reply : Option (BitVec 128)) (s : State) : Host.Outcome State Fault Refusal :=
  .next (s.endTransfer (Xfer.isFetch pl .record) (fun _ s => s.endRead pl (fun s => s.recordRead pl reply)))

/-- STALLED_RECORD_RETRY (R56). -/
def execStalledRecordRetry (pl : Player) (s : State) : Host.Outcome State Fault Refusal :=
  .next (s.whenOperating (fun s => s.retryStalled pl))

/-- POLL_DUE (R50, R51): the poll count stands at 8 (log entry 3). -/
def execPollDue (pl : Player) (s : State) : Host.Outcome State Fault Refusal :=
  .next (s.whenOperating (fun s => s.askPoll pl))

/-- FILL_REREAD_DONE (R50). -/
def execFillRereadDone (pl : Player) (reply : Option (BitVec 128)) (s : State) : Host.Outcome State Fault Refusal :=
  .next (s.endTransfer (Xfer.isFetch pl .reread) (fun _ s => s.endRead pl (fun s => s.rereadHeader pl reply)))

/-- LINK_READ_DONE (R51). -/
def execLinkReadDone (pl : Player) (reply : Option (BitVec 32)) (s : State) : Host.Outcome State Fault Refusal :=
  .next (s.endTransfer (Xfer.isFetch pl .link) (fun _ s => s.endRead pl (fun s => s.linkRead pl reply)))

/-- FETCH_READ_DISCARDED (R68): success and bus error alike end nothing but the read. -/
def execFetchReadDiscarded (pl : Player) (_ok : Bool) (s : State) : Host.Outcome State Fault Refusal :=
  .next (if s.readUnwanted pl then s.endTransfer (Xfer.isFetchOf pl) (fun _ s => s.endRead pl (fun s => s)) else s)

end Sys2Proof.Machine
end

