-- ==== Sys2Proof/Machine/Round.lean ====
section
/-! DEFINITION. The round: everything a round strobe does (R1, R19, R87, R166, R179 to R182), and the events inside a
round that the table lists as rows of their own (log entry 3). -/

namespace Sys2Proof.Machine

/-! ### The freely ordered parts of a round (log entry 4) -/

/-- The elements in order, each once, leaving out what is in `seen`. -/
def keepFirst {α : Type} [DecidableEq α] (seen : List α) : List α → List α
  | [] => []
  | x :: rest => if x ∈ seen then keepFirst seen rest else x :: keepFirst (x :: seen) rest

/-- What is given first, then the rest of `all`. -/
def inOrder {α : Type} [DecidableEq α] (given all : List α) : List α := keepFirst [] (given ++ all)

/-- Every freely ordered part of a round, in the model's standing order. -/
def allItems : List RoundItem :=
  [.handOver .p0, .handOver .p1] ++ allPanels.map (fun x => .panel x.1 x.2) ++ [.countdown]

/-- One part of the round: `pre` are the pads as the round before left them, `seen` those a hand-over sees, `stamp` the
song time the strobe carries, `handed` whether it is a new value. -/
def State.roundItem (s : State) (pre seen : PerPad Pad) (stamp : Int) (handed : Bool) : RoundItem → State
  | .handOver pl => if handed then s.handOver seen pl stamp else s
  | .panel pad p => if (pre.get pad).state = .active then s.roundPanel pad p stamp else s
  | .countdown => s.setLamps s.lamps.countDownAll

/-- R19, steps 1 and 2, and R35 to R37: conversion, health and calibration. -/
def State.senseRound (s : State) (r : Readings) (sensors : List SensorName) (stamp : Int) : State :=
  let s := (inOrder sensors allSensors).foldl (fun s c => s.healthStep c) (s.convertAll r)
  (s.calibrationRound .pad0 stamp).calibrationRound .pad1 stamp

/-- R40: what the mirrors show until the next round end. -/
def State.showPads (s : State) : State := s.setScan { s.scan with shown := ⟨s.pads.pad0.view, s.pads.pad1.view⟩ }

/-- The end of the round: lamps (R179, R180), mirrors (R40), sensor dump (R39), refresh timer (R166) and polls (R50,
R51). -/
def State.endRound (s : State) : State :=
  let s := (s.setLamps (s.lamps.roundEnd s.scan.assign s.pads)).showPads.dumpRoundEnd.captureIfDue.timerRound
  (s.pollRound .p0).pollRound .p1

/-- R1, R19: a round strobe while the part is OPERATING. DESIGN CHOICE, log entry 40: a record that is STALLED, and whose room (a
place in its lane list or in the beat list, or a chord table entry) a press, a release or a due time of this strobe frees, is
not placed before the strobe is over, and so after every other press, release and due time of it (R56, R86). -/
def State.roundStrobe (s : State) (r : Readings) (order : RoundOrder) : State :=
  let strobed := s.clockStrobe order.first
  let pre := strobed.state.pads
  let stamp := strobed.state.clock.songTime
  let s := strobed.state.senseRound r order.sensors stamp
  let seen : PerPad Pad :=
    ⟨pre.pad0.seenInRound s.pads.pad0 stamp, pre.pad1.seenInRound s.pads.pad1 stamp⟩
  ((inOrder order.items allItems).foldl (fun s x => s.roundItem pre seen stamp strobed.handOver x) s).endRound

/-! ### One due time of one entry (R88, R74, R99, R100, R104, R107) -/

/-- While a value handed over is being served (R87), an entry's due time at or below it is served as a judge's step, if
the entry is as `is` tells. A due time that lay behind the judged song time when its record was placed waits for the
next value (R89). -/
def State.dueEvent (s : State) (pl : Player) (i : Nat) (is : Entry → Bool) : State :=
  if (s.session pl).state = .playing ∧ s.clock.state = .running ∧ (s.judge pl).serving ∧ is (s.entry pl i)
      ∧ (s.nextDueOf pl (s.entry pl i)).any (fun due => due ≤ (s.judge pl).judged)
  then (s.serveDue s.pads pl i).endJudgeStep pl
  else s

/-- R99: a slipping hold whose grace runs out before its end. -/
def State.slipsToDrop (s : State) (pl : Player) (e : Entry) : Bool :=
  e.state == .slipping && e.slip.any (fun q => !s.graceReachesEnd pl e q)

/-- R100: a hold that its settle due completes HELD. -/
def State.settlesHeld (s : State) (pl : Player) (e : Entry) : Bool :=
  e.state == .held || (e.state == .slipping && e.slip.any (fun q => s.graceReachesEnd pl e q))

/-! ### One event of one panel (R24, R25, R30) -/

/-- An event of a panel of an ACTIVE pad that stands at its threshold. -/
def State.panelEvent (s : State) (pad : PadId) (p : PanelId) (is : Panel → Profile → Bool) (r : Panel → PanelRound) :
    State :=
  let x := s.pad pad
  if x.state = .active ∧ p.val < x.profile.panelCount ∧ is (x.panel p) x.profile then
    s.applyRound pad p (r (x.panel p))
  else s

/-! ### The commands -/

/-- ROUND_STROBE (R1, R19). -/
def execRoundStrobe (r : Readings) (order : RoundOrder) (s : State) : Host.Outcome State Fault Refusal :=
  .next (s.whenOperating (fun s => s.roundStrobe r order))

/-- CALIBRATION_COMPLETE (R37): rounds taken stands at rounds wanted. -/
def execCalibrationComplete (pad : PadId) (s : State) : Host.Outcome State Fault Refusal :=
  .next (s.whenOperating (fun s =>
    match (s.pad pad).cal with
    | none => s
    | some c => if c.wanted ≤ c.taken then s.completeCalibration pad c else s))

/-- DUMP_CAPTURE (R39): a capture that is due. -/
def execDumpCapture (s : State) : Host.Outcome State Fault Refusal := .next (s.whenOperating State.captureIfDue)

/-- SENSOR_FAIL (R20, R27): the fail run stands at its limit. -/
def execSensorFail (c : SensorName) (s : State) : Host.Outcome State Fault Refusal :=
  .next (s.whenOperating (fun s =>
    if s.failReached c then (s.failSensor c).killIfDead c.pad c.panel s.clock.songTime else s))

/-- SENSOR_RECOVER (R21, R28): the recover run stands at its limit. -/
def execSensorRecover (c : SensorName) (s : State) : Host.Outcome State Fault Refusal :=
  .next (s.whenOperating (fun s =>
    if s.recoverReached c then (s.recoverSensor c).reviveIfAlive c.pad c.panel else s))

/-- PRESS_CONFIRM (R24). -/
def execPressConfirm (pad : PadId) (p : PanelId) (s : State) : Host.Outcome State Fault Refusal :=
  .next (s.whenOperating (fun s => s.panelEvent pad p (fun x f => x.pressReached f.dOn) Panel.pressRound))

/-- RELEASE_CONFIRM (R25). -/
def execReleaseConfirm (pad : PadId) (p : PanelId) (s : State) : Host.Outcome State Fault Refusal :=
  .next (s.whenOperating (fun s => s.panelEvent pad p (fun x f => x.releaseReached f.dOff) Panel.releaseRound))

/-- STUCK_RELEASE (R30). -/
def execStuckRelease (pad : PadId) (p : PanelId) (s : State) : Host.Outcome State Fault Refusal :=
  .next (s.whenOperating (fun s =>
    s.panelEvent pad p (fun x f => x.stuckReached f.stuckLimit) (fun x => x.stuckRound s.clock.songTime)))

/-- BEAT_DUE (R74). -/
def execBeatDue (pl : Player) (i : Nat) (s : State) : Host.Outcome State Fault Refusal :=
  .next (s.whenOperating (fun s => s.dueEvent pl i (fun e => e.state == .scheduled)))

/-- LAPSE_DUE (R88). -/
def execLapseDue (pl : Player) (i : Nat) (s : State) : Host.Outcome State Fault Refusal :=
  .next (s.whenOperating (fun s => s.dueEvent pl i (fun e => e.state == .waiting)))

/-- CROSSING_DUE (R104). -/
def execCrossingDue (pl : Player) (i : Nat) (s : State) : Host.Outcome State Fault Refusal :=
  .next (s.whenOperating (fun s => s.dueEvent pl i (fun e => e.state == .watching && !e.crossed)))

/-- AVOID_SETTLE_DUE (R107). -/
def execAvoidSettleDue (pl : Player) (i : Nat) (s : State) : Host.Outcome State Fault Refusal :=
  .next (s.whenOperating (fun s => s.dueEvent pl i (fun e => e.state == .watching && e.crossed)))

/-- GRACE_DUE (R99). -/
def execGraceDue (pl : Player) (i : Nat) (s : State) : Host.Outcome State Fault Refusal :=
  .next (s.whenOperating (fun s => s.dueEvent pl i (s.slipsToDrop pl)))

/-- SETTLE_DUE (R100). -/
def execSettleDue (pl : Player) (i : Nat) (s : State) : Host.Outcome State Fault Refusal :=
  .next (s.whenOperating (fun s => s.dueEvent pl i (s.settlesHeld pl)))

/-- FLASH_END (R182): the flash remaining stands at 0. -/
def execFlashEnd (pad : PadId) (p : PanelId) (s : State) : Host.Outcome State Fault Refusal :=
  .next (s.whenOperating (fun s =>
    if (s.lamps.panel pad p).remaining = 0 then s.setLamps (s.lamps.endFlash pad p) else s))

/-- PWM_PERIOD_START (R177). -/
def execPwmPeriodStart (s : State) : Host.Outcome State Fault Refusal := .next (s.setLamps s.lamps.periodStart)

end Sys2Proof.Machine
end

