-- ==== Sys2Proof/Machine/Dispatch.lean ====
section
/-! DEFINITION. One arm for each command: its meaning. -/

namespace Sys2Proof.Machine

/-- The effect of a command on everything but the queue. -/
def exec (i : Instr) (s : State) : Host.Outcome State Fault Refusal :=
  match i with
  | .roundStrobe readings order => Sys2Proof.Machine.execRoundStrobe readings order s
  | .syncPulse first => Sys2Proof.Machine.execSyncPulse first s
  | .anomalyRunReport => Sys2Proof.Machine.execAnomalyRunReport s
  | .lockLoss => Sys2Proof.Machine.execLockLoss s
  | .startFallback first => Sys2Proof.Machine.execStartFallback first s
  | .resumeFallback first => Sys2Proof.Machine.execResumeFallback first s
  | .songStart w => Sys2Proof.Machine.execSongStart w s
  | .songPause w => Sys2Proof.Machine.execSongPause w s
  | .songResume w => Sys2Proof.Machine.execSongResume w s
  | .songStop w first => Sys2Proof.Machine.execSongStop w first s
  | .heldRequest kind w => Sys2Proof.Machine.execHeldRequest kind w s
  | .loadProfile w => Sys2Proof.Machine.execLoadProfile w s
  | .profileReadDone reply => Sys2Proof.Machine.execProfileReadDone reply s
  | .calibrate w => Sys2Proof.Machine.execCalibrate w s
  | .calibrationComplete pad => Sys2Proof.Machine.execCalibrationComplete pad s
  | .baselineTableWriteDone ok => Sys2Proof.Machine.execBaselineTableWriteDone ok s
  | .sensorDump w => Sys2Proof.Machine.execSensorDump w s
  | .dumpCapture => Sys2Proof.Machine.execDumpCapture s
  | .dumpWriteDone ok => Sys2Proof.Machine.execDumpWriteDone ok s
  | .sensorFail c => Sys2Proof.Machine.execSensorFail c s
  | .sensorRecover c => Sys2Proof.Machine.execSensorRecover c s
  | .pressConfirm pad p => Sys2Proof.Machine.execPressConfirm pad p s
  | .releaseConfirm pad p => Sys2Proof.Machine.execReleaseConfirm pad p s
  | .stuckRelease pad p => Sys2Proof.Machine.execStuckRelease pad p s
  | .beatDue pl entry => Sys2Proof.Machine.execBeatDue pl entry s
  | .lapseDue pl entry => Sys2Proof.Machine.execLapseDue pl entry s
  | .crossingDue pl entry => Sys2Proof.Machine.execCrossingDue pl entry s
  | .avoidSettleDue pl entry => Sys2Proof.Machine.execAvoidSettleDue pl entry s
  | .graceDue pl entry => Sys2Proof.Machine.execGraceDue pl entry s
  | .settleDue pl entry => Sys2Proof.Machine.execSettleDue pl entry s
  | .arm pl w => Sys2Proof.Machine.execArm pl w s
  | .descriptorReadDone pl reply => Sys2Proof.Machine.execDescriptorReadDone pl reply s
  | .abandon pl w => Sys2Proof.Machine.execAbandon pl w s
  | .refreshNow pl w => Sys2Proof.Machine.execRefreshNow pl w s
  | .unknownKind slot kind w => Sys2Proof.Machine.execUnknownKind slot kind w s
  | .staleRequest slot w => Sys2Proof.Machine.execStaleRequest slot w s
  | .slotReadFault slot => Sys2Proof.Machine.execSlotReadFault slot s
  | .completionWriteDone slot ok => Sys2Proof.Machine.execCompletionWriteDone slot ok s
  | .pageWaitResume pl => Sys2Proof.Machine.execPageWaitResume pl s
  | .headerReadDone pl reply => Sys2Proof.Machine.execHeaderReadDone pl reply s
  | .poolEntryReserve pl => Sys2Proof.Machine.execPoolEntryReserve pl s
  | .recordReadDone pl reply => Sys2Proof.Machine.execRecordReadDone pl reply s
  | .stalledRecordRetry pl => Sys2Proof.Machine.execStalledRecordRetry pl s
  | .pollDue pl => Sys2Proof.Machine.execPollDue pl s
  | .fillRereadDone pl reply => Sys2Proof.Machine.execFillRereadDone pl reply s
  | .linkReadDone pl reply => Sys2Proof.Machine.execLinkReadDone pl reply s
  | .fetchReadDiscarded pl ok => Sys2Proof.Machine.execFetchReadDiscarded pl ok s
  | .busGrant => Sys2Proof.Machine.execBusGrant s
  | .busTimeout => Sys2Proof.Machine.execBusTimeout s
  | .resultWriteDone pl => Sys2Proof.Machine.execResultWriteDone pl s
  | .resultWriteError pl => Sys2Proof.Machine.execResultWriteError pl s
  | .retirementWriteDone pl ok => Sys2Proof.Machine.execRetirementWriteDone pl ok s
  | .refreshPeriodDue => Sys2Proof.Machine.execRefreshPeriodDue s
  | .holdReadDone reply => Sys2Proof.Machine.execHoldReadDone reply s
  | .nowHoldReadDone pl reply => Sys2Proof.Machine.execNowHoldReadDone pl reply s
  | .scoreboardWriteDone pl ok => Sys2Proof.Machine.execScoreboardWriteDone pl ok s
  | .finalScoreboardWriteDone pl ok => Sys2Proof.Machine.execFinalScoreboardWriteDone pl ok s
  | .mirrorWriteDone ok => Sys2Proof.Machine.execMirrorWriteDone ok s
  | .faultRecordWriteDone ok => Sys2Proof.Machine.execFaultRecordWriteDone ok s
  | .flashEnd pad p => Sys2Proof.Machine.execFlashEnd pad p s
  | .pwmPeriodStart => Sys2Proof.Machine.execPwmPeriodStart s
  | .standbyExit => Sys2Proof.Machine.execStandbyExit s
  | .settingsReadDone reply => Sys2Proof.Machine.execSettingsReadDone reply s
  | .wakingAbandon => Sys2Proof.Machine.execWakingAbandon s
  | .standbyEntry => Sys2Proof.Machine.execStandbyEntry s
  | .controlReset run => Sys2Proof.Machine.execControlReset run s
  | .resetComplete => Sys2Proof.Machine.execResetComplete s
  | .resetN => Sys2Proof.Machine.execResetN s
  | .resetNRise => Sys2Proof.Machine.execResetNRise s
  | .root value => Sys2Proof.Machine.execRoot value s
  | .attn value => Sys2Proof.Machine.execAttn value s
  | .notice value => Sys2Proof.Machine.execNotice value s
  | .faultRearm value => Sys2Proof.Machine.execFaultRearm value s
  | .noticeMask value => Sys2Proof.Machine.execNoticeMask value s
  | .registerWrite offset value => Sys2Proof.Machine.execRegisterWrite offset value s

end Sys2Proof.Machine
end

