-- ==== Sys2Proof/Safety.lean ====
section
/-! DEFINITION. The terms in which statements about the part are written: its pieces of state, what a command leaves
unchanged, and the laws the spec states for every state. -/

namespace Sys2Proof

open Machine

/-- The step neither faults nor refuses. -/
def Safe (s : State) : Prop := ∃ t, step s = .next t

/-- The command runs to a next state. -/
def Completes (i : Instr) (s : State) : Prop := ∃ t, exec i s = .next t

/-! ### Pieces of state -/

/-- The pieces that State is made of, the queue apart. -/
inductive Part where
  | run | resetHeld | root | notice | mask | fault | window | work | bus | clock | scan | refresh | lamps
  | slot (slot : SlotId)
  | pad (pad : PadId)
  | owner (pad : PadId)
  | fetcher (pl : Player)
  | judge (pl : Player)
  | score (pl : Player)
  | session (pl : Player)
  | writer (pl : Player)
deriving DecidableEq, Repr

/-- A piece is the same in both states. -/
def Part.same (s t : State) : Part → Prop
  | .run => t.run = s.run
  | .resetHeld => t.resetHeld = s.resetHeld
  | .root => t.root = s.root
  | .notice => t.notice = s.notice
  | .mask => t.mask = s.mask
  | .fault => t.fault = s.fault
  | .window => t.window = s.window
  | .work => t.work = s.work
  | .bus => t.bus = s.bus
  | .clock => t.clock = s.clock
  | .scan => t.scan = s.scan
  | .refresh => t.refresh = s.refresh
  | .lamps => t.lamps = s.lamps
  | .slot x => t.slot x = s.slot x
  | .pad i => t.pad i = s.pad i
  | .owner i => t.owner i = s.owner i
  | .fetcher pl => t.fetcher pl = s.fetcher pl
  | .judge pl => t.judge pl = s.judge pl
  | .score pl => t.scoreUnit pl = s.scoreUnit pl
  | .session pl => t.session pl = s.session pl
  | .writer pl => t.writer pl = s.writer pl

/-- Every piece but those named is unchanged, and so is the queue. -/
def Keeps (but : List Part) (s t : State) : Prop := t.pending = s.pending ∧ ∀ p, p ∉ but → Part.same s t p

/-- The pieces that the Request Reader touches when a slot has been read: the bus, its work list and the slots. -/
def readerParts : List Part := [.bus, .work, .slot .slot0, .slot .slot1, .slot .slot2]

/-! ### Transfers and requests -/

/-- The transfer in flight is `x`, and its ending will be reported. -/
def Carrying (s : State) (x : Xfer) : Prop := ∃ t, s.bus.inFlight = some t ∧ t.what = x ∧ t.silent = false

/-- The bus with no transfer in flight. -/
def Freed (b : Bus) : Bus := { b with inFlight := none }

/-- A fresh request is read from a slot: the slot's read is in flight and its tag is not the done tag (R193). -/
def FreshRead (s : State) (slot : SlotId) (w : SlotWords) : Prop :=
  Carrying s (.request (.slotRead slot)) ∧ w.tag ≠ w.doneTag

/-- A fresh request is read from slot 0 while no song request waits (R10). -/
def FreshSong (s : State) (w : SlotWords) : Prop := FreshRead s .slot0 w ∧ s.clock.waiting = none

/-- Nothing but slot reads. -/
def OnlySlotReads (l : List Work) : Prop := ∀ w ∈ l, ∃ x, w = Work.slotRead x

/-- The transfer `w` joins the back of the work list; slot reads may follow it (R192, R195). -/
def Asked (s t : State) (w : Work) : Prop := ∃ reads, t.work = s.work ++ w :: reads ∧ OnlySlotReads reads

/-- No transfer joins the work list but slot reads. -/
def AskedNothing (s t : State) : Prop := ∃ reads, t.work = s.work ++ reads ∧ OnlySlotReads reads

/-- A completion is handed to the request client and counts as unwritten for its slot (R194). -/
def Completed (s t : State) (slot : SlotId) (tag : BitVec 16) (status : Status) (result : Word) : Prop :=
  Asked s t (.completion slot status tag result) ∧ (t.slot slot).unwritten = (s.slot slot).unwritten + 1

/-- The request executing on a slot completes: its executing ends (R194). -/
def CompletedExecuting (s t : State) (slot : SlotId) (status : Status) (result : Word) : Prop :=
  ∃ r, (s.slot slot).executing = some r ∧ Completed s t slot r.tag status result ∧ (t.slot slot).executing = none

/-- A fault of this kind reaches the Fault Record, and the FAULT notice is set beside `notices` (R197). -/
def Logged (s t : State) (kind : FaultKind) (player : Option Player) (seq index : Nat) (time : Int)
    (notices : BitVec 8) : Prop :=
  t.fault = s.fault.take kind player seq index time ∧ t.notice = s.notice ||| notices ||| 0x20

/-- The little-endian field of `size` bytes at offset `off` of what the part writes is `v` (R201). -/
def Spells (d : List Byte) (off size v : Nat) : Prop := ∀ k < size, d[off + k]? = some (BitVec.ofNat 8 (v / 256 ^ k))

/-- A signed field of what the part writes, in two's complement (R201). -/
def SpellsSigned (d : List Byte) (off size : Nat) (v : Int) : Prop := Spells d off size (v % 2 ^ (8 * size)).toNat

/-- Entering RUNNING finds nothing for an ARMED player's judge to do: no END taken, and no due time reached. -/
def Quiet (s : State) : Prop :=
  ∀ pl, (s.session pl).state = .armed → (s.scoreUnit pl).endTime = none
    ∧ ∀ i < (s.judge pl).pool.length, ∀ due, s.nextDueOf pl (s.entry pl i) = some due → (s.judge pl).judged < due

/-- R49: a record has been taken by a fetcher that was FETCHING or STALLED: the index and the page's tracker entry count
it, and the fetcher goes on by the index and the known fill. -/
def TookRecord (f g : Fetcher) : Prop :=
  g.index = f.index + 1 ∧ g.recordsTaken = f.recordsTaken + 1 ∧ g.inHand = none ∧ g.roomReport = false
    ∧ g.page = f.page ∧ g.seq = f.seq ∧ g.fill = f.fill
    ∧ g.tracker = f.tracker.map (fun t =>
        if t.seq = f.seq then { t with taken := t.taken + 1, full := t.full || decide (f.index + 1 = 31) } else t)
    ∧ (f.index + 1 < f.fill → g.state = .fetching)
    ∧ (f.fill ≤ f.index + 1 → g.reserved = none)
    ∧ (f.fill ≤ f.index + 1 → f.index + 1 < 31 → g.state = .fillPoll ∧ g.poll = 0)
    ∧ (f.fill ≤ f.index + 1 → 31 ≤ f.index + 1 →
        g.state = .linkPoll ∧ g.poll = 0 ∧ g.read = some ⟨.link, f.page + 4, false⟩)

/-- The grades of a unit, best first (R110). -/
def gradeOrder : List Grade := [.apex, .solid, .fair, .thin, .lapse, .void]

/-- `worst` is the worst grade after one more report of `g` (R110). -/
def WorstOf (old : Option Grade) (g worst : Grade) : Prop :=
  match old with
  | none => worst = g
  | some w => (worst = w ∨ worst = g) ∧ gradeOrder.idxOf w ≤ gradeOrder.idxOf worst
      ∧ gradeOrder.idxOf g ≤ gradeOrder.idxOf worst

/-- The settlement of a unit with its unit grade (R75, R82, R88, R111). -/
def UnitSettlement (q : Params) (unit : Nat) : Grade → Settlement
  | .apex => .unit unit .apex q.apex.fraction q.apex.delta q.apex.action
  | .solid => .unit unit .solid q.solid.fraction q.solid.delta q.solid.action
  | .fair => .unit unit .fair q.fair.fraction q.fair.delta q.fair.action
  | .thin => .unit unit .thin q.thin.fraction q.thin.delta q.thin.action
  | .lapse => .unit unit .lapse 0 q.lapseDelta .break
  | _ => .void unit

/-! ### Laws for every state -/

/-- Song times are within their range (spec/00_scope.md). -/
def InSong (t : Int) : Prop := -8388608 ≤ t ∧ t ≤ 8388607

/-- The clock is within its ranges; STARTING holds the start value (R4), and LOCKED bounds song time (R3). -/
def ClockLegal (c : Clock) : Prop :=
  InSong c.songTime ∧ InSong c.lastPulse ∧ InSong c.start ∧ c.phase ≤ 32 ∧ c.anomalyRun ≤ 3 ∧ c.wait ≤ 32
    ∧ (c.state = .starting → c.songTime = c.start)
    ∧ (c.state = .running → c.mode = .locked → c.lastPulse ≤ c.songTime ∧ c.songTime ≤ c.lastPulse + 7)

/-- The laws of life, combo and counts (R124, R126, R128). -/
def ScoreLegal (c : Score) : Prop :=
  0 ≤ c.life ∧ c.life ≤ 1000 ∧ (c.outcome = .failed → c.life = 0) ∧ c.combo ≤ c.maxCombo ∧ c.maxCombo ≤ 65535
    ∧ c.apex + c.solid + c.fair + c.thin + c.lapse + c.held + c.dropped + c.voided ≤ c.assigned
    ∧ c.assigned ≤ 65535

/-- The law of the pools (R70). -/
def PoolLegal (s : State) (pl : Player) : Prop :=
  (s.judge pl).pool.length ≤ 128 ∧ ((s.session pl).padSet ≠ some .double → (s.judge pl).pool.length ≤ 64)

/-- What is on the bus was let through by the window check (R200), or belongs to nothing any more (R189, R190). -/
def BusInWindow (s : State) : Prop :=
  ∀ t, s.bus.inFlight = some t →
    t.what = .request .settings ∨ t.silent = true ∨ (s.window.low ≤ t.addr ∧ t.addr + t.len - 1 ≤ s.window.high)

/-- How often the request client has this transfer waiting or in flight (R195). -/
def Outstanding (s : State) (w : Work) : Nat :=
  s.work.count w + if s.bus.inFlight.any (fun t => t.what = .request w && !t.silent) then 1 else 0

/-- The laws of the slot protocol: no slot stands ready without its read (R192); in OPERATING a slot has as many reads
outstanding as its read in flight tells, and none while a request is held for slot 0 (R10); in STANDBY and WAKING the slots are
clear (R189, R190); the settings read is outstanding in WAKING and at no other time (R188); and in RESETTING nothing in flight
is reported (R190). -/
def SlotLegal (s : State) : Prop :=
  (∀ x, s.slotReady x = false)
    ∧ (s.run = .operating → (∀ x, Outstanding s (.slotRead x) = if (s.slot x).readInFlight then 1 else 0)
      ∧ (s.clock.held ≠ none → (s.slot .slot0).readInFlight = false))
    ∧ (s.run = .standby ∨ s.run = .waking →
      s.clock.held = none ∧ ∀ x, s.slot x = Slot.clear ∧ Outstanding s (.slotRead x) = 0)
    ∧ (s.run ≠ .resetting → Outstanding s .settings = if s.run = .waking then 1 else 0)
    ∧ (s.run = .resetting → ∀ t, s.bus.inFlight = some t → t.silent = true)

/-- Between commands no judge is serving a value handed over: each is served whole within the command that hands it over
(R87, R89). -/
def JudgesAtRest (s : State) : Prop := ∀ pl, (s.judge pl).serving = false

/-- A player is PLAYING only while the clock is RUNNING or PAUSED (R15, R78, R145). -/
def PlayingWithSong (s : State) : Prop :=
  ∀ pl, (s.session pl).state = .playing → s.clock.state = .running ∨ s.clock.state = .paused

/-- The state to which a refused ARM returns a player is IDLE or DONE (R140, R143). -/
def ReturnsToRest (s : State) : Prop := ∀ pl, (s.session pl).returnState ∈ [none, some .idle, some .done]

/-- The commands that reset the part: RESET_N, RESET_COMPLETE, and a write of CONTROL with RESET = 1 (R190). -/
def Instr.resets : Instr → Bool
  | .controlReset _ | .resetComplete | .resetN => true
  | .registerWrite offset v => offset == 0x04 && v.getLsbD 1
  | _ => false

end Sys2Proof
end

