-- ==== Sys2Proof/Certificates/Slice0/Obligations.lean ====
section
/-! DEFINITION. The statements about the model. Each docstring names the rules of spec/ that its statement formalises;
where it rests on a choice of the model, it names the log entry. -/

open Sys2Proof Sys2Proof.Machine

/-! ### Steps and invariants -/

/-- The command at the front of the queue is run on the state with the queue's rest; with no command waiting the part
idles (log entry 1). -/
def Obligations.StepRunsFrontCommand : Prop :=
  ∀ (s : State) (c : Instr) (q : List Instr),
    step (s.withPending (c :: q)) = exec c (s.withPending q)
      ∧ step (s.withPending []) = .next (s.withPending [])

/-- No command stops the part (R197: a fault does not stop the part), none touches the queue, and none leaves a judge serving a
value handed over that it did not find so (R87, R89). -/
def Obligations.EveryCommandGoesOnAndLeavesQueue : Prop :=
  ∀ (c : Instr) (s : State), ∃ t, exec c s = .next t ∧ t.pending = s.pending ∧ (JudgesAtRest s → JudgesAtRest t)

/-- The values right after power-on reset (R16, R44, R69, R94, R136, R158, R165, R166, R175, R185, R186, R190, R199). That a FREE
pool entry is blank is the model's choice (log entry 10). -/
def Obligations.PowerOnResetValues : Prop :=
  let s := State.reset
  (s.run = .standby ∧ s.root = 0 ∧ s.notice = 0 ∧ s.mask = 0 ∧ s.alert = false
    ∧ s.fault = ⟨false, .none, none, 0, 0, 0, 0, false⟩ ∧ s.work = [] ∧ s.bus.inFlight = none ∧ s.bus.last = .refresh
    ∧ ∀ x, s.slot x = ⟨false, false, none, 0⟩)
  ∧ (s.clock.state = .idle ∧ s.clock.songTime = 0 ∧ s.clock.lastPulse = 0 ∧ s.clock.mode = .locked
    ∧ s.clock.change = .none ∧ s.clock.phase = 32 ∧ s.clock.wait = 0 ∧ s.clock.anomalyRun = 0 ∧ s.clock.start = 0
    ∧ s.clock.edge = .rising ∧ s.clock.waiting = none ∧ s.clock.held = none ∧ s.clock.taking = false)
  ∧ (∀ i, (s.pad i).state = .unconfigured ∧ s.owner i = none ∧ (s.pad i).cal = none
    ∧ (∀ c, (s.pad i).sensors.get c = ⟨0, 0, true, 0, 0⟩)
    ∧ ∀ p, ((s.pad i).panels.get p).state = .off ∧ ((s.pad i).panels.get p).load = 0
      ∧ ((s.pad i).panels.get p).confirm = 0 ∧ ((s.pad i).panels.get p).stuck = 0
      ∧ ((s.pad i).panels.get p).holdActive = false
      ∧ ((s.pad i).panels.get p).lastPress = -8388608 ∧ ((s.pad i).panels.get p).lastRelease = -8388608)
  ∧ (∀ pl, (s.session pl).state = .idle ∧ (s.session pl).padSet = none ∧ (s.session pl).waitingAbandon = none
    ∧ (s.fetcher pl).state = .idle ∧ (s.fetcher pl).read = none ∧ (s.fetcher pl).tracker = []
    ∧ (s.fetcher pl).unitCounter = 0 ∧ (s.judge pl).pool = List.replicate 64 Entry.blank ∧ (s.judge pl).beats = []
    ∧ (s.judge pl).judged = 0 ∧ s.scoreUnit pl = Score.clear .none
    ∧ s.writer pl = ⟨[], none, false, 0⟩ ∧ s.refresh.serial.get pl = 0 ∧ s.refresh.carried.get pl = 0)
  ∧ s.refresh.jobs = [] ∧ s.refresh.timer = 0 ∧ s.scan.dumpSerial = 0 ∧ s.scan.dump = none ∧ s.scan.assign = .normal
  ∧ (∀ i, s.lamps.output.get i = 0 ∧ s.lamps.active.get i = 0)
  ∧ (∀ i p, s.lamps.panel i p = ⟨0, 0, 0⟩)

/-- The song clock keeps its ranges, STARTING holds the start value, and LOCKED bounds song time by the last pulse
(R3, R4, R5, R6, R11). -/
def Obligations.ClockStaysLegal : Prop :=
  ∀ s t : State, ClockLegal s.clock → step s = .next t → ClockLegal t.clock

/-- While the song clock is not IDLE, song time never decreases, a device reset apart (R3, R4, R8); the slot protocol's laws
are a premise, since they rule out a SONG_STOP that starts a held SONG_START. -/
def Obligations.SongTimeNeverDecreases : Prop :=
  ∀ (c : Instr) (s t : State), ClockLegal s.clock → SlotLegal s → exec c s = .next t → c.resets = false →
    s.clock.state ≠ .idle → s.clock.songTime ≤ t.clock.songTime

/-- The laws of life, combo and counts hold in every Score Unit (R124, R126, R128). -/
def Obligations.ScoreLawsKept : Prop :=
  ∀ s t : State, (∀ pl, ScoreLegal (s.scoreUnit pl)) → step s = .next t → ∀ pl, ScoreLegal (t.scoreUnit pl)

/-- A player owns at most 64 pool entries, or 128 in double play (R70). -/
def Obligations.PoolsStayBounded : Prop :=
  ∀ s t : State, (∀ pl, PoolLegal s pl) → step s = .next t → ∀ pl, PoolLegal t pl

/-- Whatever is on the bus passed the window check, the settings read and a transfer that belongs to nothing any more
apart (R188, R189, R190, R200). -/
def Obligations.BusStaysInWindow : Prop :=
  ∀ s t : State, BusInWindow s → step s = .next t → BusInWindow t

/-- A player is PLAYING only while the clock is RUNNING or PAUSED, and a refused ARM returns it to IDLE or DONE, never to
PLAYING (R12, R15, R17, R140, R143, R145). -/
def Obligations.PlayingOnlyWithSong : Prop :=
  ∀ s t : State, PlayingWithSong s → ReturnsToRest s → step s = .next t → PlayingWithSong t ∧ ReturnsToRest t

/-- The laws of the slot protocol: no slot stands ready without its read, a slot has at most one read outstanding, slot 0 none
while a request is held, and the settings are read in WAKING alone (R10, R188, R189, R190, R192, R195). -/
def Obligations.SlotProtocolKept : Prop :=
  ∀ s t : State, SlotLegal s → step s = .next t → SlotLegal t

/-- Every invariant stated here holds after power-on reset. -/
def Obligations.ResetMeetsInvariants : Prop :=
  ClockLegal State.reset.clock ∧ (∀ pl, ScoreLegal (State.reset.scoreUnit pl)) ∧ (∀ pl, PoolLegal State.reset pl)
    ∧ BusInWindow State.reset ∧ PlayingWithSong State.reset ∧ ReturnsToRest State.reset ∧ SlotLegal State.reset
    ∧ JudgesAtRest State.reset

/-! ### Register window (R186, R187, R191, R192, R196, R198) -/

/-- ROOT takes a write in STANDBY, with its low 6 bits cleared, and at no other time; a read returns the address
held, and what the part reads or writes in the root block stands at a fixed offset from it (R191, the offsets of
R202). -/
def Obligations.RootTakesStandbyWritesOnly : Prop :=
  (∀ (s : State) (v : Word), s.resetHeld = false →
    (s.run = .standby → ∃ t, exec (.root v) s = .next t ∧ t.root = v &&& 0xFFFFFFC0 ∧ t.root.toNat % 64 = 0
      ∧ t.readRegister 0x08 = t.root ∧ Keeps [.root] s t)
    ∧ (s.run ≠ .standby → exec (.root v) s = .next s))
  ∧ (∀ s : State, (s.workTransfer .settings).addr = s.root.toNat
    ∧ (s.workTransfer (.slotRead .slot0)).addr = s.root.toNat + 0x40
    ∧ (s.workTransfer (.slotRead .slot1)).addr = s.root.toNat + 0x60
    ∧ (s.workTransfer (.slotRead .slot2)).addr = s.root.toNat + 0x80
    ∧ (s.refreshTransfer .holds).transfer.addr = s.root.toNat + 0xA0
    ∧ (s.refreshTransfer (.board .p0)).transfer.addr = s.root.toNat + 0xC0
    ∧ (s.refreshTransfer (.board .p1)).transfer.addr = s.root.toNat + 0x100
    ∧ (s.refreshTransfer .mirrors).transfer.addr = s.root.toNat + 0x140
    ∧ (∀ x status tag result,
      (s.workTransfer (.completion x status tag result)).addr = (s.workTransfer (.slotRead x)).addr + 0x10)
    ∧ (∀ pl, (s.refreshTransfer (.finalBoard pl)).transfer.addr = (s.refreshTransfer (.board pl)).transfer.addr)
    ∧ (s.refreshTransfer (.nowHold .p0)).transfer.addr = s.root.toNat + 0xA0
    ∧ (s.refreshTransfer (.nowHold .p1)).transfer.addr = s.root.toNat + 0xA4
    ∧ (s.run = .operating → s.fault.writePending = true →
      ∃ g, s.grantRequest = some g ∧ g.transfer.addr = s.root.toNat + 0xA8))

/-- A write to NOTICE clears the bits written 1 and leaves the others; with the FAULT bit 1 it re-arms the Fault
Record, whether or not FAULT was set (R196, R198). FAULT_REARM is such a write; that a word of it whose FAULT bit is 0 is
taken with the bit 1 is the model's choice (log entry 24). In RESETTING it is ignored (R187). A write to NOTICE_MASK sets all
eight enables and clears no notice; ALERT follows NOTICE and NOTICE_MASK at once (R196). In RESETTING the write is
ignored (R187). A write to ATTN in OPERATING sets the attention of every slot whose bit is 1, and each slot it makes
ready is read, in the order slot 0, slot 1, slot 2; in any other run state it is ignored (R192, R10). -/
def Obligations.NoticeMaskAndAttnWrites : Prop :=
  (∀ (s : State) (v : Word), s.resetHeld = false →
    (s.run ≠ .resetting → ∃ t, exec (.notice v) s = .next t ∧ Keeps [.notice, .fault] s t
      ∧ (∀ b : Nat, b < 8 → t.notice.getLsbD b = (s.notice.getLsbD b && !v.getLsbD b))
      ∧ t.fault = if v.getLsbD 5 then ⟨false, .none, none, 0, 0, 0, 0, true⟩ else s.fault)
    ∧ (s.run ≠ .resetting → ∃ t, exec (.faultRearm v) s = .next t ∧ Keeps [.notice, .fault] s t
      ∧ (∀ b : Nat, b < 8 → t.notice.getLsbD b = (s.notice.getLsbD b && !(v.getLsbD b || b == 5)))
      ∧ t.fault = ⟨false, .none, none, 0, 0, 0, 0, true⟩)
    ∧ (s.run = .resetting → exec (.notice v) s = .next s ∧ exec (.faultRearm v) s = .next s))
  ∧ ((∀ (s : State) (v : Word), s.resetHeld = false →
    (s.run ≠ .resetting → ∃ t, exec (.noticeMask v) s = .next t ∧ Keeps [.mask] s t
      ∧ ∀ b : Nat, b < 8 → t.mask.getLsbD b = v.getLsbD b)
    ∧ (s.run = .resetting → exec (.noticeMask v) s = .next s))
  ∧ ∀ s : State, s.alert = true ↔ ∃ b : Nat, b < 8 ∧ s.notice.getLsbD b = true ∧ s.mask.getLsbD b = true)
  ∧ (∀ (s : State) (v : Word), s.resetHeld = false →
    (s.run = .operating →
      let named (x : SlotId) : Bool := v.getLsbD (match x with | .slot0 => 0 | .slot1 => 1 | .slot2 => 2)
      let ready (x : SlotId) : Bool :=
        ((s.slot x).attention || named x) && !(s.slot x).readInFlight && (s.slot x).executing.isNone
          && decide ((s.slot x).unwritten = 0) && (decide (x ≠ .slot0) || s.clock.held.isNone)
      ∃ t, exec (.attn v) s = .next t
        ∧ (∀ x, t.slot x = { s.slot x with
            attention := (s.slot x).attention || named x, readInFlight := (s.slot x).readInFlight || ready x })
        ∧ t.work = s.work ++ (([SlotId.slot0, .slot1, .slot2].filter ready).map Work.slotRead)
        ∧ Keeps [.work, .slot .slot0, .slot .slot1, .slot .slot2] s t)
    ∧ (s.run ≠ .operating → exec (.attn v) s = .next s))

/-- The rows of R187's table for a write to CONTROL in STANDBY and WAKING: RUN = 1 in STANDBY asks for the settings read,
and RUN = 0 in WAKING returns to STANDBY and abandons that read (RUN = 0 in OPERATING is standby entry, stated for itself).
That each of STANDBY_EXIT, WAKING_ABANDON and STANDBY_ENTRY changes nothing outside its own run state is the model's choice
(log entry 2). Out of OPERATING the part takes no round strobe, no pulse and no ATTN write, and in STANDBY and RESETTING the
Bus Port makes no grant (R1, R2, R189, R190, R192). -/
def Obligations.ControlRunWrites : Prop :=
  (∀ s : State, s.resetHeld = false →
    (s.run = .standby → ∃ t, exec .standbyExit s = .next t ∧ t.run = .waking ∧ t.work = s.work ++ [.settings]
      ∧ t.readRegister 0x04 = 1 ∧ Keeps [.run, .work] s t)
    ∧ (s.run ≠ .standby → exec .standbyExit s = .next s)
    ∧ (s.run = .waking → ∃ t, exec .wakingAbandon s = .next t ∧ t.run = .standby ∧ t.work = []
      ∧ t.readRegister 0x04 = 0 ∧ t.bus.last = s.bus.last
      ∧ t.bus.inFlight = s.bus.inFlight.map (fun x => { x with silent := true }) ∧ Keeps [.run, .work, .bus] s t)
    ∧ (s.run ≠ .waking → exec .wakingAbandon s = .next s)
    ∧ (s.run ≠ .operating → exec .standbyEntry s = .next s))
  ∧ (∀ s : State, s.run ≠ .operating →
    (∀ r order, exec (.roundStrobe r order) s = .next s) ∧ (∀ first, exec (.syncPulse first) s = .next s)
      ∧ (∀ v, exec (.attn v) s = .next s) ∧ (s.run ≠ .waking → exec .busGrant s = .next s))

/-- What the registers read: IDENT 0x5A260001, CONTROL by the run state, ROOT, NOTICE and NOTICE_MASK as held, ATTN
and every other place 0 (R186, R187). A register write is the command its offset and its bits name: CONTROL by RESET,
RUN and the run state (R187), ROOT, ATTN, NOTICE, NOTICE_MASK; IDENT and every other place ignore it (R186). -/
def Obligations.RegisterWindow : Prop :=
  (∀ s : State, s.readRegister 0x00 = 0x5A260001
    ∧ ((s.readRegister 0x04).getLsbD 0 = true ↔ s.run = .waking ∨ s.run = .operating)
    ∧ ((s.readRegister 0x04).getLsbD 1 = true ↔ s.run = .resetting)
    ∧ (∀ b, 2 ≤ b → (s.readRegister 0x04).getLsbD b = false)
    ∧ s.readRegister 0x08 = s.root ∧ s.readRegister 0x0C = 0
    ∧ (∀ b, (s.readRegister 0x10).getLsbD b = s.notice.getLsbD b)
    ∧ (∀ b, (s.readRegister 0x14).getLsbD b = s.mask.getLsbD b)
    ∧ ∀ offset, offset ∉ [0x00, 0x04, 0x08, 0x0C, 0x10, 0x14] → s.readRegister offset = 0)
  ∧ (∀ (s : State) (v : Word),
    exec (.registerWrite 0x04 v) s =
        (if v.getLsbD 1 then exec (.controlReset (v.getLsbD 0)) s
         else if v.getLsbD 0 then exec .standbyExit s
         else if s.run = .waking then exec .wakingAbandon s
         else exec .standbyEntry s)
      ∧ exec (.registerWrite 0x08 v) s = exec (.root v) s
      ∧ exec (.registerWrite 0x0C v) s = exec (.attn v) s
      ∧ exec (.registerWrite 0x10 v) s = exec (.notice v) s
      ∧ exec (.registerWrite 0x14 v) s = exec (.noticeMask v) s
      ∧ (∀ offset, offset ∉ [0x04, 0x08, 0x0C, 0x10, 0x14] → exec (.registerWrite offset v) s = .next s)
      ∧ (s.resetHeld = false → s.run ≠ .resetting → ∃ t, exec (.registerWrite 0x14 v) s = .next t
        ∧ t.mask = v.setWidth 8 ∧ t.readRegister 0x14 = v &&& 0xFF ∧ Keeps [.mask] s t))

/-! ### Run states and resets (R188, R189, R190) -/

/-- A settings read that ends well, with low below high and the 384 bytes of the root block inside low..high, takes
the settings: the part is OPERATING, and the window, the period, the sync edge and the pad assignment are the
settings' (R188, R42, R166; the fields of chapter 11). A settings read that fails a check of R188 returns the part to
STANDBY and logs SETTINGS with the song time at which the clock stands. -/
def Obligations.SettingsReadEnds : Prop :=
  (∀ (s : State) (d : BitVec 512), Carrying s (.request .settings) →
    let low := fieldAt d 0x00 4
    let high := fieldAt d 0x04 4
    low < high → low ≤ s.root.toNat → s.root.toNat + 383 ≤ high →
    ∃ t, exec (.settingsReadDone (some d)) s = .next t
      ∧ t.run = .operating ∧ t.readRegister 0x04 = 1 ∧ t.bus = Freed s.bus ∧ t.window = ⟨low, high⟩
      ∧ t.refresh = { s.refresh with period := max 1 (min 64 (fieldAt d 0x08 1)), timer := 0 }
      ∧ t.clock = { s.clock with edge := if fieldAt d 0x09 1 = 0 then .rising else .falling, taking := false }
      ∧ t.scan = { s.scan with assign := if fieldAt d 0x0A 1 = 0 then .normal else .swapped }
      ∧ (∀ i, (t.pad i).state = (s.pad i).state ∧ (t.pad i).panels = (s.pad i).panels
        ∧ (t.pad i).profile = (s.pad i).profile ∧ (t.pad i).profileAddr = (s.pad i).profileAddr
        ∧ (t.pad i).cal = (s.pad i).cal
        ∧ ∀ c, (t.pad i).sensors.get c = { (s.pad i).sensors.get c with failRun := 0, recoverRun := 0 })
      ∧ Keeps [.run, .bus, .window, .refresh, .clock, .scan, .pad .pad0, .pad .pad1] s t)
  ∧ (∀ (s : State) (reply : Option (BitVec 512)), Carrying s (.request .settings) →
    (∀ d, reply = some d →
      ¬ (fieldAt d 0x00 4 < fieldAt d 0x04 4 ∧ fieldAt d 0x00 4 ≤ s.root.toNat
        ∧ s.root.toNat + 383 ≤ fieldAt d 0x04 4)) →
    ∃ t, exec (.settingsReadDone reply) s = .next t
      ∧ t.run = .standby ∧ t.readRegister 0x04 = 0 ∧ t.bus = Freed s.bus
      ∧ Logged s t .settings none 0 0 s.clock.songTime 0
      ∧ Keeps [.run, .bus, .notice, .fault] s t)

/-- Standby entry, block by block (R189 with R17, R38, R39, R41, R69, R94, R136, R157, R165, R175, R184). That the page,
the sequence, the record index, the known fill and the poll count of the fetcher become 0, and that a FREE pool entry is
blank, are the model's choices (log entry 10), and so is that the mirrors go on showing the last round end (log entry 35) and
that the session keeps its first page address and sequence (log entry 38). The start value keeps its value (log entry 39). -/
def Obligations.StandbyEntryStopsEveryBlock : Prop :=
  ∀ s : State, s.resetHeld = false → s.run = .operating →
    ∃ t, exec .standbyEntry s = .next t
      ∧ t.run = .standby ∧ t.work = [] ∧ (∀ x, t.slot x = ⟨false, false, none, 0⟩)
      ∧ t.bus.last = s.bus.last ∧ t.bus.inFlight = s.bus.inFlight.map (fun x => { x with silent := true })
      ∧ t.clock = { s.clock with
          state := .idle, lastPulse := s.clock.songTime, mode := .locked, change := .none, phase := 32, wait := 0,
          anomalyRun := 0, waiting := none, held := none, taking := false }
      ∧ t.scan = { s.scan with dump := none }
      ∧ (∀ i, t.owner i = none ∧ (t.pad i).sensors = (s.pad i).sensors ∧ (t.pad i).profile = (s.pad i).profile
        ∧ (t.pad i).profileAddr = (s.pad i).profileAddr ∧ (t.pad i).cal = none
        ∧ (t.pad i).state = (if (s.pad i).state = .calibrating then .active else (s.pad i).state)
        ∧ ∀ p, (t.pad i).panels.get p = { (s.pad i).panels.get p with
            state :=
              if ((s.pad i).panels.get p).state ∈ [.rising, .down, .falling] then .up
              else ((s.pad i).panels.get p).state,
            confirm := 0, stuck := 0, load := 0, holdActive := false })
      ∧ (∀ pl, t.fetcher pl = Fetcher.reset ∧ t.judge pl = Judge.empty 64 Params.zero s.clock.songTime
        ∧ t.scoreUnit pl = Score.clear
            (if (s.session pl).state ∈ [.armed, .playing, .closing] then .aborted else .none)
        ∧ t.session pl = { s.session pl with
            state := .idle, returnState := none, padSet := none, waitingAbandon := none, finalAsked := false }
        ∧ t.writer pl = ⟨[], none, false, 0⟩)
      ∧ t.refresh = { s.refresh with jobs := [], carried := ⟨0, 0⟩ }
      ∧ (∀ i p, t.lamps.panel i p = ⟨0, 0, 0⟩)
      ∧ (∀ i, t.lamps.output.get i = 0 ∧ t.lamps.active.get i = 0) ∧ t.lamps.enabled = false
      ∧ t.lamps.assign = s.lamps.assign ∧ t.lamps.fields = s.lamps.fields
      ∧ t.pending = s.pending
      ∧ ∀ p ∈ [Part.resetHeld, .root, .notice, .mask, .fault, .window], p.same s t

/-- CONTROL.RESET: with no transfer in flight every device reset effect is applied at once, ROOT, NOTICE_MASK, the
Fault Record and the window bounds being kept; else the part is RESETTING and the transfer's ending is reported to no
block. RESETTING ignores a further write, and its reset is applied when the transfer has ended (R187, R190). RESET_N
falling leaves the power-on values with RESET_N held; rising, it releases the part, which is in STANDBY (R190). The model's
choices here: a level of RESET_N in the state (log entry 9), the reset values the spec does not give (log entry 10), the
reset inside the CONTROL write itself when nothing is in flight (log entry 18), and that RESET_COMPLETE changes nothing outside
RESETTING or with a transfer in flight (log entry 2). -/
def Obligations.DeviceReset : Prop :=
  (∀ (s : State) (run : Bool), s.resetHeld = false →
    let reset : State :=
      { State.reset with
        resetHeld := s.resetHeld, root := s.root, mask := s.mask, fault := s.fault, window := s.window,
        pending := s.pending }
    (s.run ≠ .resetting → s.bus.inFlight = none → exec (.controlReset run) s = .next reset)
    ∧ (∀ x, s.run ≠ .resetting → s.bus.inFlight = some x → ∃ t, exec (.controlReset run) s = .next t
      ∧ t.run = .resetting ∧ t.readRegister 0x04 = 2 ∧ t.bus = { s.bus with inFlight := some { x with silent := true } }
      ∧ Keeps [.run, .bus] s t)
    ∧ (s.run = .resetting → exec (.controlReset run) s = .next s)
    ∧ (s.run = .resetting → s.bus.inFlight = none → exec .resetComplete s = .next reset)
    ∧ ((s.run ≠ .resetting ∨ s.bus.inFlight ≠ none) → exec .resetComplete s = .next s))
  ∧ (∀ s : State,
    exec .resetN s = .next { State.reset with resetHeld := true, pending := s.pending }
      ∧ ∃ t, exec .resetNRise s = .next t ∧ t.resetHeld = false ∧ Keeps [.resetHeld] s t)

/-! ### Bus Port (R195, R198, R199, R200, R202) -/

/-- In OPERATING and in WAKING the arbiter grants the first asking client after the last granted one in the cyclic order
REQUEST, FETCH0, FETCH1, WRITE0, WRITE1, REFRESH, and that client becomes the last granted; with a transfer in flight, or
nobody asking, nothing is granted (R199). Who asks for a grant: REQUEST with work or, in OPERATING, a fault record write; a
fetcher with a read asked for; a Write-back Unit with an item and none in flight; the Refresh Unit with a transfer of
its next job. That job is the oldest FINAL one, else the one in progress with transfers left, else the oldest (R159, R167,
R195, R199). -/
def Obligations.ArbiterGrantsNextAsker : Prop :=
  (∀ s : State,
    let order : List Client := [.request, .fetch .p0, .fetch .p1, .write .p0, .write .p1, .refresh]
    let place (c : Client) : Nat := order.idxOf c
    let distance (c : Client) : Nat := (place c + 5 - place s.bus.last) % 6
    (∀ c, s.run = .operating ∨ s.run = .waking → s.bus.inFlight = none → s.asks c = true →
      (∀ d, s.asks d = true → distance c ≤ distance d) →
      ∃ t, exec .busGrant s = .next t ∧ t.bus.last = c)
    ∧ (s.bus.inFlight ≠ none → exec .busGrant s = .next s)
    ∧ ((∀ c, s.asks c = false) → exec .busGrant s = .next s))
  ∧ (∀ (s : State) (pl : Player),
    (s.asks .request = true ↔ s.work ≠ [] ∨ (s.fault.writePending = true ∧ s.run = .operating))
      ∧ (s.asks (.fetch pl) = true ↔ (s.fetcher pl).read ≠ none)
      ∧ (s.asks (.write pl) = true ↔ (s.writer pl).queue ≠ [] ∧ (s.writer pl).inFlight = none)
      ∧ (s.asks .refresh = true ↔ ∃ j, pickJob s.refresh.jobs = some j ∧ j.todo ≠ []))
  ∧ (∀ (jobs : List Job) (j : Job),
    let final (x : Job) : Prop := ∃ pl, x.kind = .final pl
    let begun (x : Job) : Prop := x.started = true ∧ x.todo ≠ []
    pickJob jobs = some j ↔ ∃ front back, jobs = front ++ j :: back
      ∧ ((final j ∧ ∀ x ∈ front, ¬ final x)
        ∨ ((∀ x ∈ jobs, ¬ final x) ∧ begun j ∧ ∀ x ∈ front, ¬ begun x)
        ∨ ((∀ x ∈ jobs, ¬ final x ∧ ¬ begun x) ∧ front = [])))

/-- A grant of REQUEST makes the fault record write if one is pending in OPERATING, built from the record as it stands, and
else the oldest transfer of the work list, which leaves it; a slot read clears its slot's attention (R193, R194, R195, R198,
R202). The extents of the request client's transfers: 64 bytes of settings, 32 of a slot, 80 of a descriptor, 96 of a
profile, and a completion write of status, done tag and result word (R188, R193, R194, R202). In WAKING the one transfer
asked for, the settings read, is granted without a window check, whatever the Fault Record has pending (R188, R195, R199,
R200). The 24 bytes of a fault record write lie as chapter 11 lays them out, and the fault kinds and the statuses have its
codes (R198, R201). -/
def Obligations.RequestGrant : Prop :=
  (∀ s : State, s.run = .operating → s.bus.inFlight = none → s.nextClient = some .request →
    (s.fault.writePending = true → s.window.low ≤ s.root.toNat + 0xA8 → s.root.toNat + 0xA8 + 23 ≤ s.window.high →
      ∃ t x, exec .busGrant s = .next t ∧ t.bus = ⟨some x, .request⟩ ∧ x.what = .faultRecord
        ∧ x.addr = s.root.toNat + 0xA8 ∧ x.len = 24 ∧ x.data = faultBytes s.fault ∧ x.silent = false
        ∧ t.fault = { s.fault with writePending := false } ∧ Keeps [.bus, .fault] s t)
    ∧ (∀ w rest, s.fault.writePending = false → s.work = w :: rest →
        let x := s.workTransfer w
        w = .settings ∨ (s.window.low ≤ x.addr ∧ x.addr + x.len - 1 ≤ s.window.high) →
        ∃ t, exec .busGrant s = .next t ∧ t.bus = ⟨some x, .request⟩ ∧ t.work = rest
          ∧ (∀ i, t.slot i =
              if w = .slotRead i then { s.slot i with attention := false } else s.slot i)
          ∧ Keeps [.bus, .work, .slot .slot0, .slot .slot1, .slot .slot2] s t))
  ∧ (∀ s : State,
    (s.workTransfer .settings = ⟨.request .settings, s.root.toNat, 64, [], false⟩)
      ∧ (∀ i, (s.workTransfer (.slotRead i)).len = 32)
      ∧ (∀ pl a, s.workTransfer (.descriptor pl a) = ⟨.request (.descriptor pl a), a, 80, [], false⟩)
      ∧ (∀ pad a c, s.workTransfer (.profile pad a c) = ⟨.request (.profile pad a c), a, 96, [], false⟩)
      ∧ (∀ a data r, s.workTransfer (.table a data r) = ⟨.request (.table a data r), a, data.length, data, false⟩)
      ∧ (∀ a data r, s.workTransfer (.dump a data r) = ⟨.request (.dump a data r), a, data.length, data, false⟩)
      ∧ ∀ i status tag result, ∃ d : List Byte,
          s.workTransfer (.completion i status tag result)
              = ⟨.request (.completion i status tag result), (s.workTransfer (.slotRead i)).addr + 0x10, 8, d, false⟩
            ∧ d = [BitVec.ofNat 8 status.code, 0, tag.extractLsb' 0 8, tag.extractLsb' 8 8,
                result.extractLsb' 0 8, result.extractLsb' 8 8, result.extractLsb' 16 8, result.extractLsb' 24 8])
  ∧ (∀ (s : State) (rest : List Work), s.run = .waking → s.bus.inFlight = none → s.work = .settings :: rest →
    (∀ c, s.asks c = true → c = .request) →
    ∃ t, exec .busGrant s = .next t ∧ t.bus = ⟨some ⟨.request .settings, s.root.toNat, 64, [], false⟩, .request⟩
      ∧ t.work = rest ∧ Keeps [.bus, .work] s t)
  ∧ (∀ f : FaultRecord,
    let d := faultBytes f
    d.length = 24 ∧ Spells d 0x00 1 f.kind.code
      ∧ Spells d 0x01 1 (match f.player with | some .p0 => 0 | some .p1 => 1 | none => 255)
      ∧ Spells d 0x02 1 f.further ∧ Spells d 0x03 1 f.recordIndex ∧ Spells d 0x04 2 f.pageSeq ∧ Spells d 0x06 2 0
      ∧ SpellsSigned d 0x08 4 f.songTime ∧ Spells d 0x0C 12 0)
  ∧ [FaultKind.none, .busRead, .busWrite, .pageTag, .pageSeq, .pageFill, .pageLink, .recordKind, .laneRange, .order,
      .overlap, .chordSize, .chordShort, .starved, .sensorFail, .syncAnomaly, .settings].map FaultKind.code
    = List.range 17
  ∧ [Status.ok, .busy, .padBusy, .badArg, .noProfile, .busFault, .unknownKind, .disturbed].map Status.code = List.range 8

/-- A grant of a fetcher puts the read it asked for on the bus: 16 bytes, or 4 of a link (R46, R48, R50, R51, R202).
A grant of a Write-back Unit takes the front item of the write queue: a result item writes the six result bytes of
its record, a retirement item the done word of its page (R159, R160, R164, R202). Grades, tail results and result flags have the
codes of chapter 11. -/
def Obligations.FetchAndWriteBackGrants : Prop :=
  (∀ (s : State) (pl : Player) (r : FetchRead), s.run = .operating → s.bus.inFlight = none →
    s.nextClient = some (.fetch pl) → (s.fetcher pl).read = some r →
    let len := if r.kind = .link then 4 else 16
    s.window.low ≤ r.addr → r.addr + len - 1 ≤ s.window.high →
    ∃ t, exec .busGrant s = .next t
      ∧ t.bus = ⟨some ⟨.fetch pl r.kind, r.addr, len, [], false⟩, .fetch pl⟩ ∧ Keeps [.bus] s t)
  ∧ (∀ (s : State) (pl : Player) (item : WriteItem) (rest : List WriteItem), s.run = .operating → s.bus.inFlight = none →
    s.nextClient = some (.write pl) → (s.writer pl).queue = item :: rest →
    let x : Transfer := match item with
      | .result i =>
        let e := s.entry pl i
        let offset := (e.offset % 65536).toNat
        ⟨.result pl i, e.addr + 0x0A, 6,
          [BitVec.ofNat 8 e.own.code, BitVec.ofNat 8 e.unitGrade.code, BitVec.ofNat 8 e.tail.code,
            BitVec.ofNat 8 e.flags.code, BitVec.ofNat 8 offset, BitVec.ofNat 8 (offset / 256)], false⟩
      | .retire addr seq =>
        ⟨.retire pl seq, addr + 0x0C, 4,
          [BitVec.ofNat 8 seq, BitVec.ofNat 8 (seq / 256), BitVec.ofNat 8 (seq / 65536),
            BitVec.ofNat 8 (seq / 16777216)], false⟩
    s.window.low ≤ x.addr → x.addr + x.len - 1 ≤ s.window.high →
    ∃ t, exec .busGrant s = .next t ∧ t.bus = ⟨some x, .write pl⟩
      ∧ t.writer pl = { s.writer pl with queue := rest, inFlight := some item } ∧ Keeps [.bus, .writer pl] s t)
  ∧ [Grade.pending, .apex, .solid, .fair, .thin, .lapse, .struck, .avoided, .passed, .void].map Grade.code = List.range 10
  ∧ [Tail.none, .held, .dropped, .cut].map Tail.code = List.range 4
  ∧ ∀ f : ResultFlags, f.code < 32 ∧ (List.range 5).map f.code.testBit
      = [f.lateFetch, f.shortHold, f.chordShort, f.lengthClamped, f.forced]

/-- A grant of the Refresh Unit makes the next transfer of its next job. A scoreboard is built at the grant: the
serial rises by 1, its flags are carried and the player's flags are empty (R167 to R171, R174, R202). The mirrors show the
pads as of the last round end: every round strobe ends by showing the pads it leaves, an UNCONFIGURED one with no panels
(R40, R171). The 64 bytes of a scoreboard and the 32 of a mirror lie as chapter 11 lays them out (R169, R171, R201). -/
def Obligations.RefreshGrant : Prop :=
  (∀ (s : State) (j : Job) (x : RefreshXfer) (rest : List RefreshXfer), s.run = .operating → s.bus.inFlight = none →
    s.nextClient = some .refresh → pickJob s.refresh.jobs = some j → j.todo = x :: rest →
    s.window.low ≤ s.root.toNat → s.root.toNat + 383 ≤ s.window.high →
    let jobs := changeJob j.kind (fun j => { j with todo := rest, started := true }) s.refresh.jobs
    let serial (pl : Player) : Nat := (s.refresh.serial.get pl + 1) % 2 ^ 32
    ∃ t y, exec .busGrant s = .next t ∧ t.bus = ⟨some y, .refresh⟩ ∧ t.refresh.jobs = jobs ∧ y.silent = false
      ∧ t.refresh.period = s.refresh.period ∧ t.refresh.timer = s.refresh.timer
      ∧ match x with
        | .holds => y.what = .holds ∧ y.addr = s.root.toNat + 0xA0 ∧ y.len = 8 ∧ y.data = []
          ∧ t.refresh = { s.refresh with jobs } ∧ Keeps [.bus, .refresh] s t
        | .nowHold pl => y.what = .nowHold pl ∧ y.addr = s.root.toNat + holdOffset pl ∧ y.len = 4 ∧ y.data = []
          ∧ t.refresh = { s.refresh with jobs } ∧ Keeps [.bus, .refresh] s t
        | .mirrors => y.what = .mirrors ∧ y.addr = s.root.toNat + 0x140 ∧ y.len = 64
          ∧ y.data = mirrorBytes s.scan.shown.pad0 ++ mirrorBytes s.scan.shown.pad1
          ∧ t.refresh = { s.refresh with jobs } ∧ Keeps [.bus, .refresh] s t
        | .board pl => y.what = .board pl (serial pl) ∧ y.addr = s.root.toNat + boardOffset pl ∧ y.len = 64
          ∧ y.data = boardBytes (serial pl) s.clock.songTime (s.session pl).state (s.scoreUnit pl)
              (s.writer pl).retiredThrough
          ∧ t.refresh.serial.get pl = serial pl ∧ t.refresh.carried.get pl = (s.scoreUnit pl).flags
          ∧ t.refresh.serial.get pl.other = s.refresh.serial.get pl.other
          ∧ t.refresh.carried.get pl.other = s.refresh.carried.get pl.other
          ∧ t.scoreUnit pl = { s.scoreUnit pl with flags := 0 } ∧ Keeps [.bus, .refresh, .score pl] s t
        | .finalBoard pl => y.what = .finalBoard pl (serial pl) ∧ y.addr = s.root.toNat + boardOffset pl ∧ y.len = 64
          ∧ y.data = boardBytes (serial pl) s.clock.songTime .done (s.scoreUnit pl) (s.writer pl).retiredThrough
          ∧ t.refresh.serial.get pl = serial pl ∧ t.refresh.carried.get pl = (s.scoreUnit pl).flags
          ∧ t.refresh.serial.get pl.other = s.refresh.serial.get pl.other
          ∧ t.refresh.carried.get pl.other = s.refresh.carried.get pl.other
          ∧ t.scoreUnit pl = { s.scoreUnit pl with flags := 0 } ∧ Keeps [.bus, .refresh, .score pl] s t)
  ∧ (∀ (s : State) (r : Readings) (order : RoundOrder), s.run = .operating →
    ∃ t, exec (.roundStrobe r order) s = .next t ∧ t.scan.shown = ⟨t.pads.pad0.view, t.pads.pad1.view⟩)
  ∧ (∀ pad : Pad,
    let v := pad.view
    v.state = pad.state ∧ (∀ k, v.healthy.get k = (pad.sensors.get k).healthy)
      ∧ (pad.state = .unconfigured → v.panelCount = 0 ∧ ∀ p, v.panels.get p = ⟨.off, 0⟩)
      ∧ (pad.state ≠ .unconfigured → v.panelCount = pad.profile.panelCount
        ∧ ∀ p, v.panels.get p = ⟨(pad.panels.get p).state, (pad.panels.get p).load⟩))
  ∧ (∀ v : PadView,
    let d := mirrorBytes v
    d.length = 32 ∧ Spells d 0x00 1 v.state.code ∧ Spells d 0x01 1 v.panelCount ∧ Spells d 0x1A 6 0
      ∧ ∀ p : PanelId, Spells d (0x02 + 4 * p.val) 1 (v.panels.get p).state.code
        ∧ Spells d (0x04 + 4 * p.val) 2 (v.panels.get p).load
        ∧ ∃ failed < 16, Spells d (0x03 + 4 * p.val) 1 failed
          ∧ ∀ c : SensorId, failed.testBit c.val = true ↔ v.healthy.get (channel p c) = false)
  ∧ (∀ (serial : Nat) (time : Int) (state : PlayerState) (c : Score) (retired : Nat),
    let d := boardBytes serial time state c retired
    d.length = 64 ∧ Spells d 0x00 4 serial ∧ SpellsSigned d 0x04 4 time ∧ Spells d 0x08 4 c.score
      ∧ Spells d 0x0C 4 c.finalized ∧ SpellsSigned d 0x10 4 c.offsetSum ∧ Spells d 0x14 1 state.code
      ∧ Spells d 0x15 1 c.outcome.code ∧ Spells d 0x16 2 c.flags.toNat ∧ SpellsSigned d 0x18 2 c.life
      ∧ Spells d 0x1A 2 c.combo ∧ Spells d 0x1C 2 c.maxCombo ∧ Spells d 0x1E 2 c.apex ∧ Spells d 0x20 2 c.solid
      ∧ Spells d 0x22 2 c.fair ∧ Spells d 0x24 2 c.thin ∧ Spells d 0x26 2 c.lapse ∧ Spells d 0x28 2 c.held
      ∧ Spells d 0x2A 2 c.dropped ∧ Spells d 0x2C 2 c.struck ∧ Spells d 0x2E 2 c.avoided ∧ Spells d 0x30 2 c.voided
      ∧ Spells d 0x32 2 c.assigned ∧ Spells d 0x34 2 c.freeSteps ∧ Spells d 0x36 2 c.offsetCount
      ∧ Spells d 0x38 2 retired ∧ Spells d 0x3A 2 c.recordFaults ∧ Spells d 0x3C 4 0)
  ∧ [PlayerState.idle, .arming, .armed, .playing, .closing, .done].map PlayerState.code = List.range 6
  ∧ [StageOutcome.none, .cleared, .failed, .aborted, .faulted].map StageOutcome.code = List.range 5
  ∧ [PadState.unconfigured, .active, .calibrating].map PadState.code = List.range 3
  ∧ [PanelState.off, .up, .rising, .down, .falling, .dead].map PanelState.code = List.range 6

/-- A transfer out of the window ends at once as a bus error for its client, without a bus cycle, and the grant
counts as made (R200): what follows is what a transfer in flight of that client leaves when it times out. A transfer
that is not answered in time ends as a bus error for its client: the same as the row that ends it with an error
(R200); one whose ending is reported to no block only frees the bus (R189, R190). That BUS_TIMEOUT with no transfer in flight
changes nothing is the model's choice (log entry 2). -/
def Obligations.BusErrors : Prop :=
  (∀ (s : State) (c : Client) (g : Grant), s.run = .operating → s.bus.inFlight = none → s.nextClient = some c →
    s.grantOf c = some g → g.transfer.what ≠ .request .settings →
    ¬ (s.window.low ≤ g.transfer.addr ∧ g.transfer.addr + g.transfer.len - 1 ≤ s.window.high) →
    ∃ t, exec .busGrant s = .next t ∧ t.bus = ⟨none, c⟩
      ∧ exec .busTimeout (g.state.setBus ⟨some g.transfer, c⟩) = .next t)
  ∧ (∀ s : State,
    (∀ x : Xfer, Carrying s x → ∃ t, exec .busTimeout s = .next t ∧ t.bus = Freed s.bus ∧
      match x with
      | .request .settings => exec (.settingsReadDone none) s = .next t
      | .request (.slotRead i) => exec (.slotReadFault i) s = .next t
      | .request (.completion i _ _ _) => exec (.completionWriteDone i false) s = .next t
      | .request (.descriptor pl _) => exec (.descriptorReadDone pl none) s = .next t
      | .request (.profile _ _ _) => exec (.profileReadDone none) s = .next t
      | .request (.table _ _ _) => exec (.baselineTableWriteDone false) s = .next t
      | .request (.dump _ _ _) => exec (.dumpWriteDone false) s = .next t
      | .faultRecord => exec (.faultRecordWriteDone false) s = .next t
      | .fetch pl .header => exec (.headerReadDone pl none) s = .next t
      | .fetch pl .reread => exec (.fillRereadDone pl none) s = .next t
      | .fetch pl .record => exec (.recordReadDone pl none) s = .next t
      | .fetch pl .link => exec (.linkReadDone pl none) s = .next t
      | .result pl _ => exec (.resultWriteError pl) s = .next t
      | .retire pl _ => exec (.retirementWriteDone pl false) s = .next t
      | .holds => exec (.holdReadDone none) s = .next t
      | .nowHold pl => exec (.nowHoldReadDone pl none) s = .next t
      | .board pl _ => exec (.scoreboardWriteDone pl false) s = .next t
      | .finalBoard pl _ => exec (.finalScoreboardWriteDone pl false) s = .next t
      | .mirrors => exec (.mirrorWriteDone false) s = .next t)
    ∧ (∀ x, s.bus.inFlight = some x → x.silent = true → ∃ t, exec .busTimeout s = .next t ∧ t.bus = Freed s.bus
      ∧ Keeps [.bus] s t)
    ∧ (s.bus.inFlight = none → exec .busTimeout s = .next s))

/-! ### Song Clock (R1 to R15) -/

/-- What a round strobe makes of the clock, by its state and lock mode: it counts the phase up to 32, advances song
time as R3 and R4 tell, loses lock at 32 (R7), and counts the wait of a start or a resume (R11, R14). The round that counts
the 32nd takes the fallback: RUNNING and FREE, the waiting request completed OK with result 1, the SYNC notice, and
SYNC_LOST of both players, for a resume if the lock mode changes (R12, R14; no request held). From the first strobe after a
standby exit on, pulses are taken (R188). The start value keeps its value when STARTING ends (log entry 39). -/
def Obligations.RoundAdvancesClock : Prop :=
  ∀ (s : State) (r : Readings) (order : RoundOrder), s.run = .operating →
    let c := { s.clock with taking := true }
    let phase := min 32 (c.phase + 1)
    ∃ t, exec (.roundStrobe r order) s = .next t
      ∧ (c.state = .idle → t.clock = { c with phase })
      ∧ (c.state = .starting → c.wait < 31 → t.clock = { c with phase, wait := c.wait + 1 })
      ∧ (c.state = .running → c.mode = .locked →
          t.clock =
            { c with
              phase, songTime := min (min (c.songTime + 1) (c.lastPulse + 7)) 8388607,
              mode := if phase = 32 then .free else .locked }
          ∧ (phase = 32 → t.notice.getLsbD 6 = true))
      ∧ (c.state = .running → c.mode = .free → c.change ≠ .pause →
          t.clock = { c with phase, songTime := min (c.songTime + 1) 8388607 })
      ∧ (c.state = .paused → c.change ≠ .resume → t.clock = { c with phase })
      ∧ (c.state = .paused → c.change = .resume → c.wait < 31 → t.clock = { c with phase, wait := c.wait + 1 })
      ∧ (c.held = none → 31 ≤ c.wait →
        let reported : Prop := t.notice.getLsbD 6 = true ∧ ∀ pl, (t.scoreUnit pl).flags.getLsbD 0 = true
        let completed : Prop := ∀ q, c.waiting = some q → .completion .slot0 .ok q.tag 1 ∈ t.work
        (c.state = .starting → completed ∧ reported
          ∧ t.clock = { c with
              phase, wait := 32, state := .running, mode := .free, songTime := c.start, lastPulse := c.start,
              waiting := none })
        ∧ (c.state = .paused → c.change = .resume → completed ∧ (c.mode ≠ .free → reported)
          ∧ t.clock = { c with
              phase, wait := 32, state := .running, mode := .free, lastPulse := c.songTime, change := .none,
              waiting := none }))

/-- A pulse before the first round strobe after a standby exit is not taken (R188). Every other pulse is checked for spacing, in
every clock state: a phase count of 32 or of 6 to 10 ends the anomaly run,
any other is an anomaly, which is logged with SYNC_ANOMALY and the song time at which it finds the clock (log entry 11), and
the fourth in a row is reported, with the SYNC notice and SYNC_LOST of both players, and starts the run again; then the
phase count is 0 (R5, R6). In IDLE, and in PAUSED with no resume pending, the pulse does nothing else (R4, R14). A run of
four anomalies that stands is reported: the SYNC notice, SYNC_LOST of both players, and a run of 0; the clock state and the
lock mode stay (R6; log entry 3). -/
def Obligations.PulseSpacing : Prop :=
  (∀ (s : State) (first : Player), s.clock.taking = false → exec (.syncPulse first) s = .next s)
  ∧ (∀ (s : State) (first : Player), s.run = .operating → s.clock.taking = true →
    let c := s.clock
    let good : Prop := c.phase = 32 ∨ (6 ≤ c.phase ∧ c.phase ≤ 10)
    let reports : Prop := ¬ good ∧ 3 ≤ c.anomalyRun
    let rests : Prop := c.state = .idle ∨ (c.state = .paused ∧ c.change ≠ .resume)
    (good → ∃ t, exec (.syncPulse first) s = .next t ∧ t.clock.phase = 0 ∧ t.clock.anomalyRun = 0 ∧ t.fault = s.fault)
    ∧ (¬ good → ∃ t, exec (.syncPulse first) s = .next t ∧ t.clock.phase = 0
      ∧ t.fault = s.fault.take .syncAnomaly none 0 0 c.songTime ∧ t.notice.getLsbD 5 = true
      ∧ (c.anomalyRun < 3 → t.clock.anomalyRun = c.anomalyRun + 1)
      ∧ (reports → t.clock.anomalyRun = 0 ∧ t.notice.getLsbD 6 = true ∧ ∀ pl, (t.scoreUnit pl).flags.getLsbD 0 = true))
    ∧ (rests → good → ∃ t, exec (.syncPulse first) s = .next t
      ∧ t.clock = { c with phase := 0, anomalyRun := 0 } ∧ Keeps [.clock] s t)
    ∧ (rests → ¬ good → c.anomalyRun < 3 → ∃ t, exec (.syncPulse first) s = .next t
      ∧ t.clock = { c with phase := 0, anomalyRun := c.anomalyRun + 1 }
      ∧ Logged s t .syncAnomaly none 0 0 c.songTime 0 ∧ Keeps [.clock, .notice, .fault] s t)
    ∧ (rests → reports → ∃ t, exec (.syncPulse first) s = .next t
      ∧ t.clock = { c with phase := 0, anomalyRun := 0 }
      ∧ Logged s t .syncAnomaly none 0 0 c.songTime 0x40
      ∧ (∀ pl, t.scoreUnit pl = { s.scoreUnit pl with flags := (s.scoreUnit pl).flags ||| 1 })
      ∧ Keeps [.clock, .notice, .fault, .score .p0, .score .p1] s t))
  ∧ (∀ s : State, s.run = .operating →
    (4 ≤ s.clock.anomalyRun → ∃ t, exec .anomalyRunReport s = .next t
      ∧ t.clock = { s.clock with anomalyRun := 0 } ∧ t.notice = s.notice ||| 0x40
      ∧ (∀ pl, t.scoreUnit pl = { s.scoreUnit pl with flags := (s.scoreUnit pl).flags ||| 1 })
      ∧ Keeps [.clock, .notice, .score .p0, .score .p1] s t)
    ∧ (s.clock.anomalyRun < 4 → exec .anomalyRunReport s = .next s))

/-- A clock RUNNING and LOCKED whose phase count stands at 32 becomes FREE, with the SYNC notice and SYNC_LOST of
both players (R7; log entry 3). A pulse in RUNNING with no pause pending: LOCKED, song time becomes last pulse + 8
(R3); FREE, the least value last pulse + 8 k at or above song time, and lock is back with SYNC and SYNC_BACK (R8);
each capped at 8388607, and each the new last pulse value. -/
def Obligations.LockIsLostAndReturns : Prop :=
  (∀ s : State, s.run = .operating →
    (s.clock.state = .running → s.clock.mode = .locked → s.clock.phase = 32 → ∃ t, exec .lockLoss s = .next t
      ∧ t.clock = { s.clock with mode := .free } ∧ t.notice = s.notice ||| 0x40
      ∧ (∀ pl, t.scoreUnit pl = { s.scoreUnit pl with flags := (s.scoreUnit pl).flags ||| 1 })
      ∧ Keeps [.clock, .notice, .score .p0, .score .p1] s t)
    ∧ (¬ (s.clock.state = .running ∧ s.clock.mode = .locked ∧ s.clock.phase = 32) → exec .lockLoss s = .next s))
  ∧ (∀ (s : State) (first : Player), s.run = .operating → s.clock.taking = true → s.clock.state = .running →
    s.clock.change ≠ .pause →
    (s.clock.mode = .locked → ∃ t, exec (.syncPulse first) s = .next t
      ∧ t.clock.songTime = min (s.clock.lastPulse + 8) 8388607 ∧ t.clock.lastPulse = t.clock.songTime
      ∧ t.clock.mode = .locked ∧ t.clock.state = .running ∧ t.clock.change = s.clock.change
      ∧ t.clock.waiting = s.clock.waiting ∧ t.clock.held = s.clock.held ∧ t.work = s.work)
    ∧ (s.clock.mode = .free → ∃ (t : State) (k : Nat), exec (.syncPulse first) s = .next t
      ∧ s.clock.songTime ≤ s.clock.lastPulse + 8 * k
      ∧ (∀ n : Nat, s.clock.songTime ≤ s.clock.lastPulse + 8 * n → k ≤ n)
      ∧ t.clock.songTime = min (s.clock.lastPulse + 8 * k) 8388607 ∧ t.clock.lastPulse = t.clock.songTime
      ∧ t.clock.mode = .locked ∧ t.clock.state = .running ∧ t.clock.change = s.clock.change
      ∧ t.notice.getLsbD 6 = true ∧ (∀ pl, (t.scoreUnit pl).flags.getLsbD 1 = true)
      ∧ t.work = s.work))

/-- STARTING ends at a pulse of good spacing with LOCKED and result 0, at the fallback with FREE, result 1, SYNC and
SYNC_LOST: the clock is RUNNING at the start value, every ARMED player is PLAYING, and SONG_START completes OK (R12; the
players at rest). START_FALLBACK acts at a wait count that stands at 32 (log entry 3); the round strobe that counts the 32nd
takes the fallback itself. The start value keeps its value (log entry 39). -/
def Obligations.SongStarts : Prop :=
  ∀ (s : State) (first : Player) (r : Request), s.run = .operating → s.clock.state = .starting →
    s.clock.waiting = some r → s.clock.held = none → Quiet s →
    let playing (t : State) : Prop := ∀ pl, t.session pl =
      if (s.session pl).state = .armed then { s.session pl with state := .playing } else s.session pl
    (s.clock.taking = true → s.clock.phase = 32 ∨ (6 ≤ s.clock.phase ∧ s.clock.phase ≤ 10) →
      ∃ t, exec (.syncPulse first) s = .next t
      ∧ t.clock = { s.clock with
          state := .running, mode := .locked, songTime := s.clock.start, lastPulse := s.clock.start, phase := 0,
          anomalyRun := 0, waiting := none }
      ∧ playing t ∧ t.work = s.work ++ [.completion .slot0 .ok r.tag 0] ∧ Completed s t .slot0 r.tag .ok 0
      ∧ Keeps [.clock, .session .p0, .session .p1, .work, .slot .slot0] s t)
    ∧ (s.clock.wait = 32 → ∃ t, exec (.startFallback first) s = .next t
      ∧ t.clock = { s.clock with
          state := .running, mode := .free, songTime := s.clock.start, lastPulse := s.clock.start, waiting := none }
      ∧ playing t ∧ t.work = s.work ++ [.completion .slot0 .ok r.tag 1] ∧ Completed s t .slot0 r.tag .ok 1
      ∧ t.notice = s.notice ||| 0x40
      ∧ (∀ pl, t.scoreUnit pl = { s.scoreUnit pl with flags := (s.scoreUnit pl).flags ||| 1 })
      ∧ Keeps [.clock, .notice, .score .p0, .score .p1, .session .p0, .session .p1, .work, .slot .slot0] s t)
    ∧ (∀ rd order, 31 ≤ s.clock.wait → ∃ t, exec (.roundStrobe rd order) s = .next t
      ∧ t.clock = { s.clock with
          state := .running, mode := .free, songTime := s.clock.start, lastPulse := s.clock.start, waiting := none,
          phase := min 32 (s.clock.phase + 1), wait := 32, taking := true }
      ∧ (∀ pl, (s.session pl).state = .armed → (t.session pl).state ∈ [.playing, .closing])
      ∧ .completion .slot0 .ok r.tag 1 ∈ t.work ∧ t.notice.getLsbD 6 = true
      ∧ ∀ pl, (t.scoreUnit pl).flags.getLsbD 0 = true)

/-- A pending pause is taken by the next pulse, LOCKED or FREE, and in FREE by the next strobe, after the usual
advance: PAUSED with song time frozen, and SONG_PAUSE completes OK with it (R13; no request held). A pending resume
is taken at a pulse with LOCKED and result 0, or at the fallback with FREE and result 1; the SYNC notice and the
players' flag are set where the lock mode changes. Song time goes on from the frozen value (R14; no player PLAYING,
no request held). RESUME_FALLBACK acts at a wait count that stands at 32 (log entry 3); the round strobe that counts the
32nd takes the fallback itself. -/
def Obligations.PauseAndResumeTakeEffect : Prop :=
  (∀ (s : State) (first : Player) (q : Request), s.run = .operating → s.clock.state = .running →
    s.clock.change = .pause → s.clock.waiting = some q → s.clock.held = none →
    (s.clock.taking = true → s.clock.mode = .locked → ∃ t, exec (.syncPulse first) s = .next t
      ∧ t.clock.songTime = min (s.clock.lastPulse + 8) 8388607 ∧ t.clock.lastPulse = t.clock.songTime
      ∧ t.clock.state = .paused ∧ t.clock.change = .none ∧ t.clock.mode = .locked ∧ t.clock.waiting = none
      ∧ Completed s t .slot0 q.tag .ok (BitVec.ofInt 32 t.clock.songTime))
    ∧ (s.clock.taking = true → s.clock.mode = .free → ∃ (t : State) (k : Nat), exec (.syncPulse first) s = .next t
      ∧ s.clock.songTime ≤ s.clock.lastPulse + 8 * k
      ∧ (∀ n : Nat, s.clock.songTime ≤ s.clock.lastPulse + 8 * n → k ≤ n)
      ∧ t.clock.songTime = min (s.clock.lastPulse + 8 * k) 8388607 ∧ t.clock.lastPulse = t.clock.songTime
      ∧ t.clock.state = .paused ∧ t.clock.change = .none ∧ t.clock.mode = .locked ∧ t.clock.waiting = none
      ∧ Completed s t .slot0 q.tag .ok (BitVec.ofInt 32 t.clock.songTime))
    ∧ (∀ r order, s.clock.mode = .free → ∃ t more, exec (.roundStrobe r order) s = .next t
      ∧ t.clock = { s.clock with
          songTime := min (s.clock.songTime + 1) 8388607, phase := min 32 (s.clock.phase + 1), state := .paused,
          change := .none, waiting := none, taking := true }
      ∧ t.work = s.work ++ .completion .slot0 .ok q.tag (BitVec.ofInt 32 t.clock.songTime) :: more))
  ∧ (∀ (s : State) (first : Player) (q : Request), s.run = .operating → s.clock.state = .paused →
    s.clock.change = .resume → s.clock.waiting = some q → s.clock.held = none →
    (∀ pl, (s.session pl).state ≠ .playing) →
    let changed (t : State) (mode : LockMode) (flag : BitVec 16) : Prop :=
      if s.clock.mode = mode then t.notice = s.notice ∧ ∀ pl, t.scoreUnit pl = s.scoreUnit pl
      else t.notice = s.notice ||| 0x40
        ∧ ∀ pl, t.scoreUnit pl = { s.scoreUnit pl with flags := (s.scoreUnit pl).flags ||| flag }
    (s.clock.taking = true → s.clock.phase = 32 ∨ (6 ≤ s.clock.phase ∧ s.clock.phase ≤ 10) →
      ∃ t, exec (.syncPulse first) s = .next t
      ∧ t.clock = { s.clock with
          state := .running, mode := .locked, lastPulse := s.clock.songTime, change := .none, phase := 0,
          anomalyRun := 0, waiting := none }
      ∧ changed t .locked 2 ∧ Completed s t .slot0 q.tag .ok 0
      ∧ Keeps [.clock, .notice, .score .p0, .score .p1, .work, .slot .slot0] s t)
    ∧ (s.clock.wait = 32 → ∃ t, exec (.resumeFallback first) s = .next t
      ∧ t.clock = { s.clock with
          state := .running, mode := .free, lastPulse := s.clock.songTime, change := .none, waiting := none }
      ∧ changed t .free 1 ∧ Completed s t .slot0 q.tag .ok 1
      ∧ Keeps [.clock, .notice, .score .p0, .score .p1, .work, .slot .slot0] s t)
    ∧ (∀ rd order, 31 ≤ s.clock.wait → ∃ t, exec (.roundStrobe rd order) s = .next t
      ∧ t.clock = { s.clock with
          state := .running, mode := .free, lastPulse := s.clock.songTime, change := .none, waiting := none,
          phase := min 32 (s.clock.phase + 1), wait := 32, taking := true }
      ∧ .completion .slot0 .ok q.tag 1 ∈ t.work
      ∧ (s.clock.mode ≠ .free → t.notice.getLsbD 6 = true ∧ ∀ pl, (t.scoreUnit pl).flags.getLsbD 0 = true)))

/-- SONG_START in IDLE: the argument, clamped, is the start value and song time; the wait count is 0, the judges are handed
the value, and the request waits (R11; no player PLAYING, no judge in the midst of serving). SONG_PAUSE in RUNNING and
SONG_RESUME in PAUSED, with no change pending, are taken: the change pends, a resume counts its wait from 0, and the request
waits (R13, R14). A song request that its state check refuses completes at once with BUSY and result 0 (R9, R11, R13, R14). -/
def Obligations.SongRequestsTakenOrRefused : Prop :=
  (∀ (s : State) (w : SlotWords), FreshSong s w → JudgesAtRest s → s.clock.state = .idle →
    (∀ pl, (s.session pl).state ≠ .playing) →
    let v := max (-8388608) (min 8388607 w.arg0.toInt)
    ∃ t, exec (.songStart w) s = .next t
      ∧ t.clock = { s.clock with
          state := .starting, start := v, songTime := v, wait := 0, waiting := some ⟨w.tag, 1, w.arg0, w.arg1⟩ }
      ∧ (∀ pl, t.judge pl = { s.judge pl with judged := v })
      ∧ t.bus = Freed s.bus ∧ AskedNothing s t ∧ (t.slot .slot0).unwritten = (s.slot .slot0).unwritten
      ∧ Keeps (readerParts ++ [.clock, .judge .p0, .judge .p1]) s t)
  ∧ (∀ (s : State) (w : SlotWords), FreshSong s w → s.clock.change = .none →
    (s.clock.state = .running → ∃ t, exec (.songPause w) s = .next t
      ∧ t.clock = { s.clock with change := .pause, waiting := some ⟨w.tag, 2, w.arg0, w.arg1⟩ }
      ∧ t.bus = Freed s.bus ∧ AskedNothing s t ∧ Keeps (readerParts ++ [.clock]) s t)
    ∧ (s.clock.state = .paused → ∃ t, exec (.songResume w) s = .next t
      ∧ t.clock = { s.clock with change := .resume, wait := 0, waiting := some ⟨w.tag, 3, w.arg0, w.arg1⟩ }
      ∧ t.bus = Freed s.bus ∧ AskedNothing s t ∧ Keeps (readerParts ++ [.clock]) s t))
  ∧ (∀ (s : State) (w : SlotWords), FreshSong s w →
    let refused (c : Instr) : Prop := ∃ t, exec c s = .next t ∧ Completed s t .slot0 w.tag .busy 0
      ∧ t.bus = Freed s.bus ∧ Keeps readerParts s t
    (s.clock.state ≠ .idle → refused (.songStart w))
    ∧ (s.clock.state ≠ .running ∨ s.clock.change ≠ .none → refused (.songPause w))
    ∧ (s.clock.state ≠ .paused ∨ s.clock.change ≠ .none → refused (.songResume w)))

/-- SONG_STOP: in IDLE it completes OK and changes nothing; else a waiting request is cancelled with BUSY first, the
clock is IDLE with song time kept, and the stop completes OK with it (R15; no player PLAYING, no request held).
SONG_STOP takes every PLAYING player into CLOSING, ABORTED unless its outcome was decided before, and leaves a player
in another state alone (R15, R132, R152). The start value keeps its value (log entry 39). -/
def Obligations.SongStop : Prop :=
  (∀ (s : State) (w : SlotWords) (first : Player), FreshRead s .slot0 w → s.clock.held = none →
    (s.clock.state = .idle → s.clock.waiting = none → ∃ t, exec (.songStop w first) s = .next t
      ∧ Completed s t .slot0 w.tag .ok (BitVec.ofInt 32 s.clock.songTime) ∧ t.bus = Freed s.bus ∧ Keeps readerParts s t)
    ∧ (s.clock.state ≠ .idle → (∀ pl, (s.session pl).state ≠ .playing) →
      (s.clock.waiting = none → ∃ t, exec (.songStop w first) s = .next t
        ∧ t.clock = { s.clock with state := .idle, change := .none, mode := .locked }
        ∧ Completed s t .slot0 w.tag .ok (BitVec.ofInt 32 s.clock.songTime) ∧ t.bus = Freed s.bus
        ∧ Keeps (readerParts ++ [.clock]) s t)
      ∧ (∀ r, s.clock.waiting = some r → r.tag ≠ w.tag → ∃ t reads, exec (.songStop w first) s = .next t
        ∧ t.clock = { s.clock with state := .idle, change := .none, mode := .locked, waiting := none }
        ∧ t.work = s.work ++ .completion .slot0 .busy r.tag 0
            :: .completion .slot0 .ok w.tag (BitVec.ofInt 32 s.clock.songTime) :: reads
        ∧ OnlySlotReads reads ∧ (t.slot .slot0).unwritten = (s.slot .slot0).unwritten + 2 ∧ t.bus = Freed s.bus
        ∧ Keeps (readerParts ++ [.clock]) s t)))
  ∧ (∀ (s : State) (w : SlotWords) (first : Player), FreshRead s .slot0 w → s.clock.state ≠ .idle →
    s.clock.waiting = none → s.clock.held = none →
    ∃ t, exec (.songStop w first) s = .next t
      ∧ ∀ pl, ((s.session pl).state = .playing → (t.session pl).state = .closing
          ∧ (t.scoreUnit pl).outcome = if (s.scoreUnit pl).outcome = .none then .aborted else (s.scoreUnit pl).outcome)
        ∧ ((s.session pl).state ≠ .playing → t.session pl = s.session pl ∧ t.scoreUnit pl = s.scoreUnit pl))

/-- A fresh slot-0 request other than SONG_STOP, read while a song request waits, becomes the held request: nothing
is checked, nothing completes, and slot 0 is not read while it is held (R10). When the waiting request completes, at a pulse,
at START_FALLBACK (a wait count that stands at 32, log entry 3) or at the strobe that counts the 32nd, its completion is
handed over first, and then the held request starts as if it had just been read: it is held no longer, and what its kind asks
for follows (R10, R11, R13, R14, R32, R34, R39, R193; the waiting request a SONG_START). -/
def Obligations.HeldRequest : Prop :=
  (∀ (s : State) (kind : BitVec 16) (w : SlotWords) (r : Request), FreshRead s .slot0 w → s.clock.waiting = some r →
    r.tag ≠ w.tag → kind ≠ 4 →
    ∃ t, exec (.heldRequest kind w) s = .next t
      ∧ t.clock = { s.clock with held := some ⟨w.tag, kind, w.arg0, w.arg1⟩ }
      ∧ (∃ reads, t.work = s.work ++ reads ∧ ∀ x ∈ reads, x = .slotRead .slot1 ∨ x = .slotRead .slot2)
      ∧ t.slotReady .slot0 = false ∧ t.bus = Freed s.bus ∧ Keeps (readerParts ++ [.clock]) s t)
  ∧ (∀ (s : State) (first : Player) (r h : Request), s.run = .operating → s.clock.state = .starting →
    s.clock.change = .none → s.clock.waiting = some r → s.clock.held = some h →
    let starts (c : Instr) (result : Word) : Prop := ∃ t more, exec c s = .next t ∧ t.clock.held = none
      ∧ t.work = s.work ++ .completion .slot0 .ok r.tag result :: more
      ∧ (takenKind .slot0 h.kind = none → more = [.completion .slot0 .unknownKind h.tag (h.kind.setWidth 32)])
      ∧ (h.kind = 1 → more = [.completion .slot0 .busy h.tag 0])
      ∧ (h.kind = 3 → more = [.completion .slot0 .busy h.tag 0])
      ∧ (h.kind = 2 → more = [] ∧ t.clock.change = .pause ∧ t.clock.waiting = some h)
      ∧ (h.kind = 5 → padOfNumber h.arg0.toNat = none → more = [.completion .slot0 .badArg h.tag 0])
      ∧ (∀ pad, h.kind = 5 → padOfNumber h.arg0.toNat = some pad → s.owner pad = none →
        (s.pad pad).state ≠ .calibrating →
        more = [.profile pad h.arg1.toNat false] ∧ (t.slot .slot0).executing = some h)
      ∧ (h.kind = 6 → padOfNumber h.arg0.toNat = none → more = [.completion .slot0 .badArg h.tag 0])
      ∧ (∀ pad, h.kind = 6 → padOfNumber h.arg0.toNat = some pad → s.owner pad = none → (s.pad pad).state = .active →
        more = [] ∧ (t.slot .slot0).executing = some h ∧ (t.pad pad).state = .calibrating)
      ∧ (h.kind = 7 → more = [] ∧ (t.slot .slot0).executing = some h ∧ t.scan.dump = some ⟨h.arg0.toNat, false⟩)
    (s.clock.wait = 32 → starts (.startFallback first) 1)
    ∧ (s.clock.taking = true → starts (.syncPulse first) 0)
    ∧ (∀ rd order, 31 ≤ s.clock.wait → ∃ t, exec (.roundStrobe rd order) s = .next t ∧ t.clock.held = none
      ∧ .completion .slot0 .ok r.tag 1 ∈ t.work
      ∧ (h.kind = 1 ∨ h.kind = 3 → .completion .slot0 .busy h.tag 0 ∈ t.work ∧ t.clock.waiting = none)
      ∧ (h.kind = 2 → t.clock.change = .pause ∧ t.clock.waiting = some h)))

/-! ### Pad Sense (R18 to R39) -/

/-- A round strobe converts all 48 channels by the pad assignment, and updates the health of every tracked sensor: 64
extreme readings in a row fail it, 1024 others in a row recover it, and either ends both runs (R18, R20, R21). -/
def Obligations.RoundUpdatesSensors : Prop :=
  ∀ (s : State) (r : Readings) (order : RoundOrder), s.run = .operating →
    ∃ t, exec (.roundStrobe r order) s = .next t ∧ ∀ (i : PadId) (p : PanelId) (c : SensorId),
      let connector := match i, s.scan.assign with | .pad0, .normal | .pad1, .swapped => r.a | _, _ => r.b
      let raw := (connector.get (channel p c)).toNat
      let old := (s.pad i).sensors.get (channel p c)
      let new := (t.pad i).sensors.get (channel p c)
      let tracked := (s.pad i).state ≠ .unconfigured ∧ p.val < (s.pad i).profile.panelCount
        ∧ (s.pad i).profile.enables.getLsbD (4 * p.val + c.val) = true
      let extreme := raw = 0 ∨ raw = 4095
      new.raw = raw
        ∧ (¬ tracked → new.healthy = old.healthy ∧ new.failRun = old.failRun ∧ new.recoverRun = old.recoverRun)
        ∧ (tracked → old.healthy = true → ¬ extreme →
            new.healthy = true ∧ new.failRun = 0 ∧ new.recoverRun = old.recoverRun)
        ∧ (tracked → old.healthy = true → extreme → old.failRun < 63 →
            new.healthy = true ∧ new.failRun = old.failRun + 1 ∧ new.recoverRun = old.recoverRun)
        ∧ (tracked → old.healthy = true → extreme → 63 ≤ old.failRun →
            new.healthy = false ∧ new.failRun = 0 ∧ new.recoverRun = 0 ∧ t.notice.getLsbD 7 = true
              ∧ t.notice.getLsbD 5 = true ∧ t.fault.held = true)
        ∧ (tracked → old.healthy = false → extreme →
            new.healthy = false ∧ new.failRun = old.failRun ∧ new.recoverRun = 0)
        ∧ (tracked → old.healthy = false → ¬ extreme → old.recoverRun < 1023 →
            new.healthy = false ∧ new.failRun = old.failRun ∧ new.recoverRun = old.recoverRun + 1)
        ∧ (tracked → old.healthy = false → ¬ extreme → 1023 ≤ old.recoverRun →
            new.healthy = true ∧ new.failRun = 0 ∧ new.recoverRun = 0 ∧ t.notice.getLsbD 7 = true)

/-- One panel of an ACTIVE pad in a round: the table of R24, the table of R25, death and return (R27, R28), the stuck
timer and its release (R29, R30), with the event each emits and what becomes of its baselines (R19, R22, R30). The model's
choices: a panel UP or DOWN has a confirm count of 0 (log entry 13), the stuck timer stops at 480000 (log entry 14), and a
DEAD panel revives in whatever round finds H nonzero (log entry 31). -/
def Obligations.PanelStateMachine : Prop :=
  ∀ (x : Panel) (f : Profile) (healthy load : Nat) (stamp : Int),
    let r := x.round f healthy load stamp
    (x.state = .off → r = ⟨x, none, false, false⟩)
    ∧ (x.state ≠ .off → healthy = 0 →
        r.panel = { x with
          state := .dead, confirm := 0, stuck := 0, load := 0,
          lastRelease := if x.state = .down ∨ x.state = .falling then stamp else x.lastRelease }
        ∧ r.event = (if x.state = .down ∨ x.state = .falling then some (.release stamp true) else none)
        ∧ r.tracks = false ∧ r.absorbs = false)
    ∧ (healthy ≠ 0 →
      (x.state = .dead → r = ⟨{ x with load, state := .up, confirm := 0 }, none, false, false⟩)
      ∧ (x.state = .up ∨ x.state = .rising → load < f.tOn →
          r = ⟨{ x with load, state := .up, confirm := 0 }, none, true, false⟩)
      ∧ (x.state = .up → f.tOn ≤ load → 0 < f.dOn →
          r = ⟨{ x with load, state := .rising, riseStamp := stamp, confirm := 1 }, none, false, false⟩)
      ∧ (x.state = .up → f.tOn ≤ load → f.dOn = 0 →
          r = ⟨{ x with load, state := .down, riseStamp := stamp, lastPress := stamp, confirm := 0, stuck := 0 },
            some (.press stamp), false, false⟩)
      ∧ (x.state = .rising → f.tOn ≤ load → x.confirm + 1 < f.dOn + 1 →
          r = ⟨{ x with load, confirm := x.confirm + 1 }, none, false, false⟩)
      ∧ (x.state = .rising → f.tOn ≤ load → f.dOn + 1 ≤ x.confirm + 1 →
          r = ⟨{ x with load, state := .down, lastPress := x.riseStamp, confirm := 0, stuck := 0 },
            some (.press x.riseStamp), false, false⟩)
      ∧ (x.state = .down → load < f.tOff → f.dOff = 0 →
          r = ⟨{ x with load, state := .up, fallStamp := stamp, lastRelease := stamp, confirm := 0, stuck := 0 },
            some (.release stamp false), true, false⟩)
      ∧ (x.state = .falling → load < f.tOff → f.dOff + 1 ≤ x.confirm + 1 →
          r = ⟨{ x with load, state := .up, lastRelease := x.fallStamp, confirm := 0, stuck := 0 },
            some (.release x.fallStamp false), true, false⟩)
      ∧ (x.state = .down ∨ x.state = .falling →
          (f.tOff ≤ load ∨ (x.state = .down ∧ 0 < f.dOff) ∨ (x.state = .falling ∧ x.confirm + 1 < f.dOff + 1)) →
          let stuck := if x.holdActive then 0 else min 480000 (x.stuck + 1)
          let fallStamp := if load < f.tOff ∧ x.state = .down then stamp else x.fallStamp
          (f.stuckLimit = 0 ∨ stuck < 2000 * f.stuckLimit →
            r = ⟨{ x with
                load, stuck, fallStamp, state := if load < f.tOff then .falling else .down,
                confirm := if load < f.tOff then (if x.state = .down then 1 else x.confirm + 1) else 0 },
              none, false, false⟩)
          ∧ (f.stuckLimit ≠ 0 → 2000 * f.stuckLimit ≤ stuck →
            r = ⟨{ x with load := 0, fallStamp, state := .up, lastRelease := stamp, confirm := 0, stuck := 0 },
              some (.release stamp true), false, true⟩)))

/-- In a round each panel within the panel count of an ACTIVE pad takes one step of the panel state machine, with H
and the load of the round's readings and health, stamped with the round's song time; its baselines move as R22 tells
when it is UP after that step, are absorbed by a stuck release, and else stay (R19, R22, R23, R30; both players
IDLE). -/
def Obligations.RoundEvaluatesPanels : Prop :=
  ∀ (s : State) (r : Readings) (order : RoundOrder) (i : PadId) (p : PanelId), s.run = .operating →
    (∀ pl, (s.session pl).state = .idle) → s.clock.held = none → (s.pad i).state = .active → (s.pad i).cal = none →
    p.val < (s.pad i).profile.panelCount →
    ∃ t, exec (.roundStrobe r order) s = .next t ∧
      let f := (s.pad i).profile
      let seen (c : SensorId) : Sensor := (t.pad i).sensors.get (channel p c)
      let old (c : SensorId) : Sensor := (s.pad i).sensors.get (channel p c)
      let enabled := sensorIds.filter (fun c => f.enables.getLsbD (4 * p.val + c.val))
      let healthy := enabled.filter (fun c => (seen c).healthy)
      let load := (healthy.map (fun c => (seen c).raw - (old c).baseline / 16)).sum * enabled.length / healthy.length
      let x := ((s.pad i).panels.get p).round f healthy.length load t.clock.songTime
      (t.pad i).panels.get p = x.panel
        ∧ ∀ c, (seen c).baseline =
            if c ∈ healthy ∧ x.tracks = true then
              let d : Int := 16 * (seen c).raw - (old c).baseline
              let step := Int.tdiv d (2 ^ f.shift)
              ((old c).baseline + (if step ≠ 0 then step else if 0 < d then 1 else if d < 0 then -1 else 0)).toNat
            else if c ∈ healthy ∧ x.absorbs = true then 16 * (seen c).raw
            else (old c).baseline

/-- LOAD_PROFILE: a pad number other than 0 and 1 is refused BAD_ARG, an owned pad PAD_BUSY, a CALIBRATING one BUSY,
each with result 0; else the request executes and its 96 bytes are asked for (R32). CALIBRATE: BAD_ARG for another
pad number, NO_PROFILE unless the pad is ACTIVE, PAD_BUSY if it is owned; else the pad is CALIBRATING with the round
count clamped, its pressed and rising panels UP, and the include marks of its enabled healthy sensors within the
panel count (R34). -/
def Obligations.LoadProfileAndCalibrate : Prop :=
  (∀ (s : State) (w : SlotWords), FreshSong s w →
    let refused (status : Status) : Prop := ∃ t, exec (.loadProfile w) s = .next t
      ∧ Completed s t .slot0 w.tag status 0 ∧ t.bus = Freed s.bus ∧ Keeps readerParts s t
    (2 ≤ w.arg0.toNat → refused .badArg)
    ∧ ∀ pad, padOfNumber w.arg0.toNat = some pad →
      (s.owner pad ≠ none → refused .padBusy)
      ∧ (s.owner pad = none → (s.pad pad).state = .calibrating → refused .busy)
      ∧ (s.owner pad = none → (s.pad pad).state ≠ .calibrating → ∃ t, exec (.loadProfile w) s = .next t
        ∧ (t.slot .slot0).executing = some ⟨w.tag, 5, w.arg0, w.arg1⟩
        ∧ Asked s t (.profile pad w.arg1.toNat false) ∧ t.bus = Freed s.bus ∧ Keeps readerParts s t))
  ∧ (∀ (s : State) (w : SlotWords), FreshSong s w →
    let refused (status : Status) : Prop := ∃ t, exec (.calibrate w) s = .next t
      ∧ Completed s t .slot0 w.tag status 0 ∧ t.bus = Freed s.bus ∧ Keeps readerParts s t
    (2 ≤ w.arg0.toNat → refused .badArg)
    ∧ ∀ pad, padOfNumber w.arg0.toNat = some pad →
      ((s.pad pad).state ≠ .active → refused .noProfile)
      ∧ ((s.pad pad).state = .active → s.owner pad ≠ none → refused .padBusy)
      ∧ ((s.pad pad).state = .active → s.owner pad = none → ∃ t c, exec (.calibrate w) s = .next t
        ∧ (t.slot .slot0).executing = some ⟨w.tag, 6, w.arg0, w.arg1⟩ ∧ AskedNothing s t ∧ t.bus = Freed s.bus
        ∧ (t.pad pad).state = .calibrating ∧ (t.pad pad).cal = some c ∧ (t.pad pad).sensors = (s.pad pad).sensors
        ∧ (t.pad pad).profile = (s.pad pad).profile ∧ (t.pad pad).profileAddr = (s.pad pad).profileAddr
        ∧ c.wanted = max 64 (min 65535 w.arg1.toNat) ∧ c.taken = 0
        ∧ (∀ k, c.sums.get k = 0 ∧ (c.included.get k = true ↔
            (s.pad pad).profile.enables.getLsbD k.val = true ∧ k.val / 4 < (s.pad pad).profile.panelCount
              ∧ ((s.pad pad).sensors.get k).healthy = true))
        ∧ (∀ p, (t.pad pad).panels.get p =
            if ((s.pad pad).panels.get p).state ∈ [.rising, .down, .falling] then
              { (s.pad pad).panels.get p with state := .up, confirm := 0, stuck := 0 }
            else (s.pad pad).panels.get p)
        ∧ Keeps (readerParts ++ [.pad pad]) s t))

/-- A profile read that fails leaves the pad: BUS_FAULT with a BUS_READ fault, or PAD_BUSY when the pad has become owned
since the read was asked for, also by a player that owns it no more (R32, R139, R146). A profile is applied with every field
clamped, the lamp fields among them (a base mode code above that of PRESS is DARK, and each panel has its three flash
enables): baselines from the table, runs 0 and health kept, panels OFF, DEAD or UP, edges cleared, the pad ACTIVE, its
flashes cancelled, and the panel count the result (R33, R178, R183). -/
def Obligations.ProfileReadEnds : Prop :=
  (∀ (s : State) (pad : PadId) (addr : Nat) (claimed : Bool), Carrying s (.request (.profile pad addr claimed)) →
    (s.slot .slot0).executing ≠ none →
    (∃ t, exec (.profileReadDone none) s = .next t ∧ CompletedExecuting s t .slot0 .busFault 0
      ∧ Logged s t .busRead none 0 0 s.clock.songTime 0 ∧ t.bus = Freed s.bus
      ∧ Keeps [.bus, .work, .slot .slot0, .notice, .fault] s t)
    ∧ ∀ d, s.owner pad ≠ none ∨ claimed = true → ∃ t, exec (.profileReadDone (some d)) s = .next t
      ∧ CompletedExecuting s t .slot0 .padBusy 0 ∧ t.bus = Freed s.bus ∧ Keeps [.bus, .work, .slot .slot0] s t)
  ∧ (∀ (s : State) (pad : PadId) (addr : Nat) (d : BitVec 768), Carrying s (.request (.profile pad addr false)) →
    (s.slot .slot0).executing ≠ none → s.owner pad = none →
    let count := max 1 (min 6 (fieldAt d 0x00 1))
    let tOn := max 1 (min 16380 (fieldAt d 0x04 2))
    ∃ t, exec (.profileReadDone (some d)) s = .next t
      ∧ CompletedExecuting s t .slot0 .ok (BitVec.ofNat 32 count) ∧ t.bus = Freed s.bus
      ∧ (t.pad pad).state = .active ∧ (t.pad pad).profileAddr = addr ∧ (t.pad pad).cal = none
      ∧ (let f := (t.pad pad).profile
        f.panelCount = count ∧ f.enables = BitVec.ofNat 24 (fieldAt d 0x0C 4) ∧ f.tOn = tOn
          ∧ f.tOff = min (tOn - 1) (fieldAt d 0x06 2)
          ∧ f.dOn = min 7 (fieldAt d 0x01 1) ∧ f.dOff = min 7 (fieldAt d 0x02 1)
          ∧ f.shift = max 4 (min 10 (fieldAt d 0x03 1)) ∧ f.stuckLimit = min 240 (fieldAt d 0x08 1)
          ∧ f.lamps.flashLength = max 1 (min 4095 (fieldAt d 0x0A 2))
          ∧ ∀ p : PanelId, f.lamps.panels.get p = {
              mode := match fieldAt d (0x40 + 3 * p.val) 1 with | 1 => .steady | 2 => .press | _ => .dark,
              level := fieldAt d (0x41 + 3 * p.val) 1,
              beat := (fieldAt d (0x42 + 3 * p.val) 1).testBit 0,
              grade := (fieldAt d (0x42 + 3 * p.val) 1).testBit 1,
              strike := (fieldAt d (0x42 + 3 * p.val) 1).testBit 2 })
      ∧ (∀ c, (t.pad pad).sensors.get c = { (s.pad pad).sensors.get c with
          baseline := 16 * min 4095 (fieldAt d (0x10 + 2 * c.val) 2), failRun := 0, recoverRun := 0 })
      ∧ (∀ p, (t.pad pad).panels.get p = { (s.pad pad).panels.get p with
          state :=
            if count ≤ p.val then .off
            else if ∀ c : SensorId, (fieldAt d 0x0C 4).testBit (4 * p.val + c.val) = true →
              ((s.pad pad).sensors.get (channel p c)).healthy = false then .dead
            else .up,
          confirm := 0, stuck := 0, load := 0, lastPress := -8388608, lastRelease := -8388608 })
      ∧ (∀ p, (t.lamps.panel pad p).level = 0 ∧ (t.lamps.panel pad p).remaining = 0
        ∧ t.lamps.output.get (lampOf s.lamps.assign pad p) = (s.lamps.panel pad p).base)
      ∧ Keeps [.bus, .work, .slot .slot0, .pad pad, .lamps] s t)

/-- The rounds of a CALIBRATING pad. In the round strobe: a sensor FAILED in the round loses its include mark, the marked
raw values join the sums and rounds taken rises; a panel that is not DEAD and is loaded to T_on ends the calibration
DISTURBED with the rounds taken, nothing measured and nothing written; else the round in which rounds taken reaches rounds
wanted completes it: each included sensor's baseline is the floor of 16 x sum / rounds, the pad is ACTIVE with its panels
UP or DEAD, and the whole baseline table is asked to be written at its place in the profile (R23, R35, R36, R37; no request
held and the other pad not CALIBRATING). The same of the part's calibration round by itself, with the loads of its panels and
everything it leaves alone (R23, R27). CALIBRATION_COMPLETE completes a calibration whose rounds are taken (R37; log entry 3).
That a DEAD panel disturbs nothing, though a sensor of it has recovered, is the model's reading (log entry 32), and so is that
the loads computed are kept as the panels' loads (log entry 29). -/
def Obligations.CalibrationRunsAndCompletes : Prop :=
  (∀ (s : State) (r : Readings) (order : RoundOrder) (pad : PadId) (c : Calibration), s.run = .operating →
    s.clock.held = none → (∀ i, i ≠ pad → (s.pad i).cal = none) → (s.pad pad).state = .calibrating →
    (s.pad pad).cal = some c →
    ∃ t, exec (.roundStrobe r order) s = .next t ∧
      let f := (s.pad pad).profile
      let seen (k : Fin 24) : Sensor := (t.pad pad).sensors.get k
      let base (k : Fin 24) : Nat := ((s.pad pad).sensors.get k).baseline
      let enabled (p : PanelId) := sensorIds.filter (fun x => f.enables.getLsbD (4 * p.val + x.val))
      let healthy (p : PanelId) := (enabled p).filter (fun x => (seen (channel p x)).healthy)
      let load (p : PanelId) : Nat := ((healthy p).map (fun x =>
        (seen (channel p x)).raw - base (channel p x) / 16)).sum * (enabled p).length / (healthy p).length
      let included (k : Fin 24) : Bool := c.included.get k && (seen k).healthy
      let sum (k : Fin 24) : Nat := c.sums.get k + if included k then (seen k).raw else 0
      let loaded : Prop := ∃ p : PanelId, p.val < f.panelCount ∧ ((s.pad pad).panels.get p).state ≠ .dead
        ∧ healthy p ≠ [] ∧ f.tOn ≤ load p
      let settled : Prop := (t.pad pad).state = .active ∧ (t.pad pad).cal = none ∧ ∀ p : PanelId, p.val < f.panelCount →
        ((t.pad pad).panels.get p).state = if healthy p = [] then .dead else .up
      (¬ loaded → c.taken + 1 < c.wanted → (t.pad pad).state = .calibrating ∧ (∀ k, (seen k).baseline = base k)
        ∧ ∃ d, (t.pad pad).cal = some d ∧ d.wanted = c.wanted ∧ d.taken = c.taken + 1
          ∧ ∀ k, d.included.get k = included k ∧ d.sums.get k = sum k)
      ∧ (loaded → settled ∧ (∀ k, (seen k).baseline = base k) ∧ ∀ q, (s.slot .slot0).executing = some q →
        .completion .slot0 .disturbed q.tag (BitVec.ofNat 32 (c.taken + 1)) ∈ t.work)
      ∧ (¬ loaded → c.wanted ≤ c.taken + 1 → settled
        ∧ (∀ k, (seen k).baseline = if included k then 16 * sum k / c.wanted else base k)
        ∧ ∃ data, .table ((s.pad pad).profileAddr + 0x10) data
            (BitVec.ofNat 32 ((List.finRange 24).filter included).length) ∈ t.work
          ∧ data.length = 48 ∧ ∀ k : Fin 24, Spells data (2 * k.val) 2 ((seen k).baseline / 16)))
  ∧ (∀ (s : State) (pad : PadId) (stamp : Int) (c : Calibration), (s.pad pad).cal = some c →
    let t := s.calibrationRound pad stamp
    let old (p : PanelId) : Panel := (s.pad pad).panels.get p
    let included (k : Fin 24) : Bool := c.included.get k && ((s.pad pad).sensors.get k).healthy
    let sum (k : Fin 24) : Nat := c.sums.get k + if included k then ((s.pad pad).sensors.get k).raw else 0
    let loaded : Prop := ∃ p : PanelId, p.val < (s.pad pad).profile.panelCount ∧ (old p).state ≠ .dead
      ∧ (s.pad pad).healthyOf p ≠ [] ∧ (s.pad pad).profile.tOn ≤ (s.pad pad).panelLoad p
    let settled : Prop := (t.pad pad).state = .active ∧ (t.pad pad).cal = none
      ∧ (t.pad pad).profile = (s.pad pad).profile ∧ (t.pad pad).profileAddr = (s.pad pad).profileAddr
      ∧ ∀ p : PanelId, p.val < (s.pad pad).profile.panelCount →
        ((t.pad pad).panels.get p).state = (if (s.pad pad).healthyOf p = [] then .dead else .up)
          ∧ ((t.pad pad).panels.get p).confirm = 0 ∧ ((t.pad pad).panels.get p).stuck = 0
    (¬ loaded → c.taken + 1 < c.wanted → ∃ d, (t.pad pad).cal = some d ∧ d.wanted = c.wanted ∧ d.taken = c.taken + 1
      ∧ (t.pad pad).sensors = (s.pad pad).sensors ∧ (t.pad pad).state = (s.pad pad).state
      ∧ (t.pad pad).profile = (s.pad pad).profile ∧ (t.pad pad).profileAddr = (s.pad pad).profileAddr
      ∧ (∀ k, d.included.get k = included k ∧ d.sums.get k = sum k)
      ∧ (∀ p : PanelId, (t.pad pad).panels.get p =
          if (s.pad pad).profile.panelCount ≤ p.val then old p
          else if (old p).state = .dead then { old p with load := 0 }
          else if (s.pad pad).healthyOf p = [] then { old p with
            state := .dead, confirm := 0, stuck := 0, load := 0,
            lastRelease := if (old p).state = .down ∨ (old p).state = .falling then stamp else (old p).lastRelease }
          else { old p with load := (s.pad pad).panelLoad p })
      ∧ Keeps [.pad pad] s t)
    ∧ (loaded → (s.slot .slot0).executing ≠ none →
      CompletedExecuting s t .slot0 .disturbed (BitVec.ofNat 32 (c.taken + 1))
        ∧ settled ∧ (t.pad pad).sensors = (s.pad pad).sensors ∧ Keeps [.pad pad, .work, .slot .slot0] s t)
    ∧ (¬ loaded → c.wanted ≤ c.taken + 1 → settled
      ∧ (∀ k, (t.pad pad).sensors.get k = { (s.pad pad).sensors.get k with
          baseline := if included k then 16 * sum k / c.wanted else ((s.pad pad).sensors.get k).baseline })
      ∧ (∃ data, t.work = s.work ++ [.table ((s.pad pad).profileAddr + 0x10) data
          (BitVec.ofNat 32 ((List.finRange 24).filter included).length)]
        ∧ data.length = 48 ∧ ∀ k : Fin 24, Spells data (2 * k.val) 2 (((t.pad pad).sensors.get k).baseline / 16))
      ∧ Keeps [.pad pad, .work] s t))
  ∧ (∀ (s : State) (pad : PadId) (c : Calibration), s.run = .operating → (s.pad pad).cal = some c → c.wanted ≤ c.taken →
    ∃ t, exec (.calibrationComplete pad) s = .next t
      ∧ (t.pad pad).state = .active ∧ (t.pad pad).cal = none ∧ (t.pad pad).profile = (s.pad pad).profile
      ∧ (t.pad pad).profileAddr = (s.pad pad).profileAddr
      ∧ (∀ k, (t.pad pad).sensors.get k = { (s.pad pad).sensors.get k with
          baseline :=
            if c.included.get k then 16 * c.sums.get k / c.wanted else ((s.pad pad).sensors.get k).baseline })
      ∧ (∀ p, (t.pad pad).panels.get p =
          if p.val < (s.pad pad).profile.panelCount then
            { (s.pad pad).panels.get p with
              state := if (s.pad pad).healthyOf p = [] then .dead else .up, confirm := 0, stuck := 0 }
          else (s.pad pad).panels.get p)
      ∧ (∃ data, t.work = s.work ++ [.table ((s.pad pad).profileAddr + 0x10) data
          (BitVec.ofNat 32 (c.included.cells.count true))]
        ∧ data.length = 48
        ∧ ∀ k : Fin 24,
          data[2 * k.val]? = some (BitVec.ofNat 8 (((t.pad pad).sensors.get k).baseline / 16))
            ∧ data[2 * k.val + 1]? = some (BitVec.ofNat 8 (((t.pad pad).sensors.get k).baseline / 16 / 256)))
      ∧ Keeps [.pad pad, .work] s t)

/-- SENSOR_DUMP is taken in every pad and clock state: it executes, and waits for the end of the next round. At that
end, in the round strobe, the serial rises by 1 and the 440 bytes captured are asked to be written, with the song time, the
serial, and each channel and panel at its place (R39, R201, R202; log entry 21; DUMP_CAPTURE makes a capture that stands due,
log entry 3). The write of a
baseline table or of a dump ends: OK with the request's result, or BUS_FAULT with the same result and a BUS_WRITE
fault with no player (R37, R39). -/
def Obligations.SensorDumpAndPadWrites : Prop :=
  ((∀ (s : State) (w : SlotWords), FreshSong s w → ∃ t, exec (.sensorDump w) s = .next t
    ∧ (t.slot .slot0).executing = some ⟨w.tag, 7, w.arg0, w.arg1⟩
    ∧ t.scan = { s.scan with dump := some ⟨w.arg0.toNat, false⟩ } ∧ AskedNothing s t ∧ t.bus = Freed s.bus
    ∧ Keeps (readerParts ++ [.scan]) s t)
  ∧ (∀ (s : State) (addr : Nat), s.run = .operating → s.scan.dump = some ⟨addr, true⟩ →
    let serial := (s.scan.dumpSerial + 1) % 4294967296
    ∃ t data, exec .dumpCapture s = .next t ∧ t.scan = { s.scan with dumpSerial := serial, dump := none }
      ∧ t.work = s.work ++ [.dump addr data (BitVec.ofNat 32 serial)]
      ∧ data = dumpBytes s.clock.songTime serial s.pads ∧ data.length = 440
      ∧ Keeps [.scan, .work] s t)
  ∧ ∀ (s : State), (s.scan.dump = none ∨ ∃ addr, s.scan.dump = some ⟨addr, false⟩) → exec .dumpCapture s = .next s)
  ∧ (∀ (s : State) (r : Readings) (order : RoundOrder) (addr : Nat) (due : Bool), s.run = .operating →
    s.clock.held = none → s.scan.dump = some ⟨addr, due⟩ →
    let serial := (s.scan.dumpSerial + 1) % 4294967296
    ∃ t, exec (.roundStrobe r order) s = .next t ∧ t.scan.dumpSerial = serial ∧ t.scan.dump = none
      ∧ .dump addr (dumpBytes t.clock.songTime serial t.pads) (BitVec.ofNat 32 serial) ∈ t.work)
  ∧ (∀ (time : Int) (serial : Nat) (pads : PerPad Pad),
    let d := dumpBytes time serial pads
    let number (i : PadId) : Nat := match i with | .pad0 => 0 | .pad1 => 1
    d.length = 440 ∧ SpellsSigned d 0 4 time ∧ Spells d 4 4 serial
      ∧ (∀ (i : PadId) (p : PanelId) (c : SensorId),
        let at' := 8 + 6 * (24 * number i + 4 * p.val + c.val)
        let x := (pads.get i).sensors.get (channel p c)
        Spells d at' 2 x.raw ∧ Spells d (at' + 2) 2 (x.baseline / 16)
          ∧ Spells d (at' + 4) 1 (if x.healthy then 0 else 1)
          ∧ Spells d (at' + 5) 1 (if (pads.get i).state ≠ .unconfigured
              ∧ (pads.get i).profile.enables.getLsbD (4 * p.val + c.val) = true then 1 else 0))
      ∧ ∀ (i : PadId) (p : PanelId),
        let at' := 0x128 + 12 * (6 * number i + p.val)
        let x := (pads.get i).panels.get p
        SpellsSigned d at' 4 x.lastPress ∧ SpellsSigned d (at' + 4) 4 x.lastRelease
          ∧ Spells d (at' + 8) 1 x.state.code ∧ Spells d (at' + 9) 3 0)
  ∧ (∀ (s : State) (addr : Nat) (data : List Byte) (result : Word), (s.slot .slot0).executing ≠ none →
    let ends (c : Bool → Instr) : Prop :=
      (∃ t, exec (c true) s = .next t ∧ CompletedExecuting s t .slot0 .ok result ∧ t.bus = Freed s.bus
        ∧ Keeps [.bus, .work, .slot .slot0] s t)
      ∧ ∃ t, exec (c false) s = .next t ∧ CompletedExecuting s t .slot0 .busFault result ∧ t.bus = Freed s.bus
        ∧ Logged s t .busWrite none 0 0 s.clock.songTime 0 ∧ Keeps [.bus, .work, .slot .slot0, .notice, .fault] s t
    (Carrying s (.request (.table addr data result)) → ends Instr.baselineTableWriteDone)
    ∧ (Carrying s (.request (.dump addr data result)) → ends Instr.dumpWriteDone))

/-- A tracked sensor whose fail run stands at 64 becomes FAILED, and one whose recover run stands at 1024 becomes
HEALTHY: both runs 0, the SENSOR notice, the owner's SENSOR_CHANGE, and for the failure a SENSOR_FAIL fault with the owner as
its player; a panel left without a believable sensor dies, and if it was pressed the owner's FORCED_RELEASE is set; a DEAD panel
with one again is UP (R20, R21, R27, R28; log entry 3). A press, a release and a stuck release that stand at their thresholds:
the panel and its edge record change, with a confirm count of 0 after it (log entry 13), a release moves the baselines of the
panel's healthy sensors, a stuck release absorbs the standing load and sets the owner's FORCED_RELEASE, and nothing else happens
(R22, R24, R25, R26, R30, R85; log entry 3). All this on a pad with or without an owner; the press on a pad without one, and the
forced and other releases with no hold of the lane HELD. -/
def Obligations.SensorsAndUnownedPanels : Prop :=
  ∀ (s : State) (n : SensorName), s.run = .operating → n.panel.val < (s.pad n.pad).profile.panelCount →
    let pad := s.pad n.pad
    let f := pad.profile
    let k := channel n.panel n.sensor
    let x := pad.sensors.get k
    let panel := pad.panels.get n.panel
    let pressed : Prop := panel.state = .down ∨ panel.state = .falling
    let others : Prop := ∃ c, c ∈ pad.healthyOf n.panel ∧ c ≠ n.sensor
    let noHold : Prop := ∀ pl l, s.owner n.pad = some pl → s.laneOf pl n.pad n.panel = some l →
      (s.session pl).state ≠ .playing ∨ s.clock.state ≠ .running ∨ (s.judge pl).firstIn l .held = none
    let flagged (t : State) (flags : BitVec 16) : Prop := ∀ pl, t.scoreUnit pl =
      if s.owner n.pad = some pl then { s.scoreUnit pl with flags := (s.scoreUnit pl).flags ||| flags } else s.scoreUnit pl
    let touched : List Part := [.pad n.pad, .score .p0, .score .p1]
    let sensed (healthy : Bool) : Tab 24 Sensor := pad.sensors.set k { x with healthy, failRun := 0, recoverRun := 0 }
    (pad.state ≠ .unconfigured → f.enables.getLsbD (4 * n.panel.val + n.sensor.val) = true →
      (x.healthy = true → 64 ≤ x.failRun →
        let fails (flags : BitVec 16) (panels : Tab 6 Panel) : Prop := ∃ t, exec (.sensorFail n) s = .next t
          ∧ t.pad n.pad = { pad with sensors := sensed false, panels } ∧ flagged t flags
          ∧ Logged s t .sensorFail (s.owner n.pad) (match n.pad with | .pad0 => 0 | .pad1 => 1)
              (4 * n.panel.val + n.sensor.val) s.clock.songTime 0x80
          ∧ Keeps (touched ++ [.notice, .fault]) s t
        (others ∨ panel.state = .off ∨ panel.state = .dead → fails 0x80 pad.panels)
        ∧ (¬ others → panel.state = .up ∨ panel.state = .rising →
          fails 0x80 (pad.panels.set n.panel { panel with state := .dead, confirm := 0, stuck := 0, load := 0 }))
        ∧ (¬ others → pressed → noHold →
          fails 0x180 (pad.panels.set n.panel { panel with
            state := .dead, confirm := 0, stuck := 0, load := 0, lastRelease := s.clock.songTime })))
      ∧ (x.healthy = false → 1024 ≤ x.recoverRun → ∃ t, exec (.sensorRecover n) s = .next t
        ∧ t.pad n.pad = { pad with
            sensors := sensed true,
            panels := if pad.state = .active ∧ panel.state = .dead then
              pad.panels.set n.panel { panel with state := .up, confirm := 0 } else pad.panels }
        ∧ t.notice = s.notice ||| 0x80 ∧ flagged t 0x80 ∧ Keeps (touched ++ [.notice]) s t))
    ∧ (pad.state = .active →
      let mine (j : Fin 24) : Prop := ∃ c ∈ pad.healthyOf n.panel, j = channel n.panel c
      let baselines (t : State) (move : Sensor → Nat) : Prop := ∀ j,
        (mine j → (t.pad n.pad).sensors.get j = { pad.sensors.get j with baseline := move (pad.sensors.get j) })
          ∧ (¬ mine j → (t.pad n.pad).sensors.get j = pad.sensors.get j)
      let becomes (t : State) (y : Panel) : Prop :=
        t.pad n.pad = { pad with panels := pad.panels.set n.panel y, sensors := (t.pad n.pad).sensors }
      (panel.state = .rising → f.dOn + 1 ≤ panel.confirm → s.owner n.pad = none →
        ∃ t, exec (.pressConfirm n.pad n.panel) s = .next t
          ∧ becomes t { panel with state := .down, lastPress := panel.riseStamp, confirm := 0, stuck := 0 }
          ∧ (t.pad n.pad).sensors = pad.sensors ∧ Keeps [.pad n.pad] s t)
      ∧ (panel.state = .falling → f.dOff + 1 ≤ panel.confirm → noHold →
        ∃ t, exec (.releaseConfirm n.pad n.panel) s = .next t
          ∧ becomes t { panel with state := .up, lastRelease := panel.fallStamp, confirm := 0, stuck := 0 }
          ∧ baselines t (fun y =>
              let d : Int := 16 * (y.raw : Int) - y.baseline
              let step := Int.tdiv d (2 ^ f.shift)
              (y.baseline + (if step ≠ 0 then step else if 0 < d then 1 else if d < 0 then -1 else 0)).toNat)
          ∧ Keeps [.pad n.pad] s t)
      ∧ (pressed → f.stuckLimit ≠ 0 → 2000 * f.stuckLimit ≤ panel.stuck → noHold →
        ∃ t, exec (.stuckRelease n.pad n.panel) s = .next t
          ∧ becomes t { panel with
              state := .up, lastRelease := s.clock.songTime, confirm := 0, stuck := 0, load := 0 }
          ∧ baselines t (fun y => 16 * y.raw) ∧ flagged t 0x100 ∧ Keeps touched s t))

/-! ### Chart Fetcher (R45 to R68) -/

/-- What the fetcher asks for: in PAGE_WAIT with a free tracker entry the header; in FETCHING with a record to read a
free pool entry is reserved and its record slot read; a poll count of 8 re-reads the header or the link. Without the
free entry it waits, and with a read outstanding it asks nothing (R46, R48, R50, R51; log entry 3 for the rows, log entry 15
for the entry that is taken, log entry 10 for the blank fields of one just reserved). Each round strobe raises the poll count of
a fetcher in FILL_POLL or LINK_POLL, and at 8 asks for the re-read (R50, R51). The ends of the header and link reads that go
well: a page that passes is taken into the tracker, a re-read with a grown fill goes on reading, an unchanged one and a link
of 0 start a new poll, a good link leads to the next page (R46, R47, R50, R51; that the poll count is 0 in FETCHING and
PAGE_WAIT too is log entry 25). -/
def Obligations.FetcherReadsAndWalks : Prop :=
  (∀ (s : State) (pl : Player), s.run = .operating →
    let f := s.fetcher pl
    (f.state = .pageWait → f.read = none → f.tracker.length < 8 → ∃ t, exec (.pageWaitResume pl) s = .next t
      ∧ t.fetcher pl = { f with read := some ⟨.header, f.page, false⟩ } ∧ Keeps [.fetcher pl] s t)
    ∧ (f.state ≠ .pageWait ∨ f.read ≠ none ∨ 8 ≤ f.tracker.length → exec (.pageWaitResume pl) s = .next s)
    ∧ (∀ i, f.state = .fetching → f.index < f.fill → f.read = none → f.reserved = none →
      (s.entry pl i).state = .free → i < (s.judge pl).pool.length → (∀ k < i, (s.entry pl k).state ≠ .free) →
      ∃ t, exec (.poolEntryReserve pl) s = .next t
        ∧ t.fetcher pl = { f with
            read := some ⟨.record, f.page + 0x10 + 16 * f.index, false⟩, reserved := some i }
        ∧ t.judge pl = { s.judge pl with
            pool := (s.judge pl).pool.set i { Entry.blank with state := .reserved } }
        ∧ Keeps [.fetcher pl, .judge pl] s t)
    ∧ ((∀ i < (s.judge pl).pool.length, (s.entry pl i).state ≠ .free) → exec (.poolEntryReserve pl) s = .next s)
    ∧ (f.read ≠ none ∨ f.state ≠ .fetching ∨ f.fill ≤ f.index → exec (.poolEntryReserve pl) s = .next s)
    ∧ (f.state = .fillPoll → 8 ≤ f.poll → f.read = none → ∃ t, exec (.pollDue pl) s = .next t
      ∧ t.fetcher pl = { f with read := some ⟨.reread, f.page, false⟩ } ∧ Keeps [.fetcher pl] s t)
    ∧ (f.state = .linkPoll → 8 ≤ f.poll → f.read = none → ∃ t, exec (.pollDue pl) s = .next t
      ∧ t.fetcher pl = { f with read := some ⟨.link, f.page + 4, false⟩ } ∧ Keeps [.fetcher pl] s t)
    ∧ (f.poll < 8 ∨ f.read ≠ none → exec (.pollDue pl) s = .next s))
  ∧ (∀ (s : State) (pl : Player) (r : FetchRead), (s.fetcher pl).read = some r → r.discard = false →
    let f := s.fetcher pl
    (∀ d, Carrying s (.fetch pl .header) → fieldAt d 0 4 = 0x3147504B → fieldAt d 8 2 = f.seq → fieldAt d 10 2 ≤ 31 →
      f.reserved = none →
      let fill := fieldAt d 10 2
      let g := { f with
        tracker := f.tracker ++ [⟨f.page, f.seq, 0, 0, false⟩], index := 0, fill, poll := 0, read := none,
        state := if fill = 0 then .fillPoll else .fetching }
      ∃ t, exec (.headerReadDone pl (some d)) s = .next t ∧ t.bus = Freed s.bus
        ∧ (fill = 0 ∨ (∀ i < (s.judge pl).pool.length, (s.entry pl i).state ≠ .free) →
            t.fetcher pl = g ∧ Keeps [.bus, .fetcher pl] s t)
        ∧ (∀ i, 0 < fill → (s.entry pl i).state = .free → i < (s.judge pl).pool.length →
            (∀ k < i, (s.entry pl k).state ≠ .free) →
            t.fetcher pl = { g with read := some ⟨.record, f.page + 0x10, false⟩, reserved := some i }
              ∧ t.judge pl = { s.judge pl with
                  pool := (s.judge pl).pool.set i { Entry.blank with state := .reserved } }
              ∧ Keeps [.bus, .fetcher pl, .judge pl] s t))
    ∧ (∀ d, Carrying s (.fetch pl .reread) → fieldAt d 0 4 = 0x3147504B → fieldAt d 8 2 = f.seq →
      fieldAt d 10 2 ≤ 31 → f.fill ≤ fieldAt d 10 2 → ∃ t, exec (.fillRereadDone pl (some d)) s = .next t
        ∧ t.bus = Freed s.bus ∧ (t.fetcher pl).poll = 0
        ∧ (f.fill = fieldAt d 10 2 → t.fetcher pl = { f with read := none, poll := 0 } ∧ Keeps [.bus, .fetcher pl] s t)
        ∧ (f.fill < fieldAt d 10 2 → (t.fetcher pl).state = .fetching ∧ (t.fetcher pl).fill = fieldAt d 10 2
          ∧ (t.fetcher pl).index = f.index ∧ Keeps [.bus, .fetcher pl, .judge pl] s t))
    ∧ (∀ d, Carrying s (.fetch pl .link) →
      (d = 0 → ∃ t, exec (.linkReadDone pl (some d)) s = .next t ∧ t.bus = Freed s.bus
        ∧ t.fetcher pl = { f with read := none, poll := 0 } ∧ Keeps [.bus, .fetcher pl] s t)
      ∧ (d ≠ 0 → d.toNat % 16 = 0 → s.window.low ≤ d.toNat → d.toNat + 511 ≤ s.window.high →
        ∃ t, exec (.linkReadDone pl (some d)) s = .next t ∧ t.bus = Freed s.bus
          ∧ t.fetcher pl = { f with
              page := d.toNat, seq := (f.seq + 1) % 65536, index := 0, fill := 0, poll := 0, state := .pageWait,
              read := if f.tracker.length < 8 then some ⟨.header, d.toNat, false⟩ else none }
          ∧ Keeps [.bus, .fetcher pl] s t)))
  ∧ (∀ (s : State) (pl : Player) (r : Readings) (order : RoundOrder), s.run = .operating →
    let f := s.fetcher pl
    f.state = .fillPoll ∨ f.state = .linkPoll → f.read = none → ∃ t, exec (.roundStrobe r order) s = .next t
      ∧ ((t.session pl).state ≠ .closing →
        (f.poll < 7 → t.fetcher pl = { f with poll := f.poll + 1 })
        ∧ (f.poll = 7 → t.fetcher pl = { f with
            poll := 8,
            read := some (if f.state = .fillPoll then ⟨.reread, f.page, false⟩ else ⟨.link, f.page + 4, false⟩) }))
      ∧ (s.clock.state = .idle ∨ (s.clock.state = .paused ∧ s.clock.change ≠ .resume) → t.session pl = s.session pl))

/-- A structural fault: a header that fails a check of R47, a bad link, or a bus error of any of the fetcher's reads.
The fetcher is HALTED with nothing reserved or asked for, the fault is logged, and the player is CLOSING, FAULTED
unless its outcome was decided before (R52, R132, R152). The read of a stopped fetcher ends with its result discarded
and no fault, success or bus error alike; a CLOSING player that waited only for it then asks for its final scoreboard
(R68, R154). -/
def Obligations.FaultsAndDiscardedReads : Prop :=
  (∀ (s : State) (pl : Player) (r : FetchRead), (s.fetcher pl).read = some r → r.discard = false →
    let f := s.fetcher pl
    let breaks (c : Instr) (kind : FaultKind) (index : Nat) : Prop := ∃ t, exec c s = .next t
      ∧ (t.fetcher pl).state = .halted ∧ (t.fetcher pl).read = none ∧ (t.fetcher pl).reserved = none
      ∧ (t.fetcher pl).tracker = f.tracker ∧ (t.session pl).state = .closing
      ∧ (t.scoreUnit pl).outcome = (if (s.scoreUnit pl).outcome = .none then .faulted else (s.scoreUnit pl).outcome)
      ∧ Logged s t kind (some pl) f.seq index s.clock.songTime 0 ∧ t.bus = Freed s.bus
    let tag (d : BitVec 128) := fieldAt d 0 4
    let seq (d : BitVec 128) := fieldAt d 8 2
    let fill (d : BitVec 128) := fieldAt d 10 2
    (Carrying s (.fetch pl .header) →
      breaks (.headerReadDone pl none) .busRead 0
      ∧ (∀ d, tag d ≠ 0x3147504B → breaks (.headerReadDone pl (some d)) .pageTag 0)
      ∧ (∀ d, tag d = 0x3147504B → seq d ≠ f.seq → breaks (.headerReadDone pl (some d)) .pageSeq 0)
      ∧ (∀ d, tag d = 0x3147504B → seq d = f.seq → 31 < fill d → breaks (.headerReadDone pl (some d)) .pageFill 0))
    ∧ (Carrying s (.fetch pl .reread) →
      breaks (.fillRereadDone pl none) .busRead f.index
      ∧ (∀ d, tag d ≠ 0x3147504B → breaks (.fillRereadDone pl (some d)) .pageTag f.index)
      ∧ (∀ d, tag d = 0x3147504B → seq d ≠ f.seq → breaks (.fillRereadDone pl (some d)) .pageSeq f.index)
      ∧ (∀ d, tag d = 0x3147504B → seq d = f.seq → 31 < fill d ∨ fill d < f.fill →
          breaks (.fillRereadDone pl (some d)) .pageFill f.index))
    ∧ (Carrying s (.fetch pl .record) → breaks (.recordReadDone pl none) .busRead f.index)
    ∧ (Carrying s (.fetch pl .link) →
      breaks (.linkReadDone pl none) .busRead 31
      ∧ ∀ d : BitVec 32, d ≠ 0 → (d.toNat % 16 ≠ 0 ∨ d.toNat < s.window.low ∨ s.window.high < d.toNat + 511) →
          breaks (.linkReadDone pl (some d)) .pageLink 31))
  ∧ (∀ (s : State) (pl : Player) (kind : FetchKind) (r : FetchRead) (ok : Bool), Carrying s (.fetch pl kind) →
    (s.fetcher pl).read = some r → r.discard = true →
    ∃ t, exec (.fetchReadDiscarded pl ok) s = .next t ∧ t.bus = Freed s.bus
      ∧ t.fetcher pl = { s.fetcher pl with read := none }
      ∧ ((s.session pl).state ≠ .closing → Keeps [.bus, .fetcher pl] s t)
      ∧ ((s.session pl).state = .closing → (s.session pl).finalAsked = false → (s.writer pl).queue = [] →
          (s.writer pl).inFlight = none →
          t.session pl = { s.session pl with finalAsked := true }
            ∧ t.refresh = { s.refresh with jobs := s.refresh.jobs ++ [⟨.final pl, [.finalBoard pl], false⟩] }
            ∧ Keeps [.bus, .fetcher pl, .session pl, .refresh] s t))

/-- A record that fails R53, by the first check that fails, is VOID at once: its entry is FINAL and queued, the fault
is logged with the page's sequence and the slot, the record fault is counted and RECORD_FAULT set, and it is taken
with the running times, the units and the assembly untouched (R53, R54, R49; the outcome not FAILED; the poll count of 0 at
LINK_POLL is log entry 25, the fields that no rule gives stand as in a blank entry, log entry 10). The repairs of
an accepted record: chord size 0 is 1; a hold's length is cut at the end of song time, with LENGTH_CLAMPED; a hold
shorter than 16 marks after that is a tap, with SHORT_HOLD; other kinds stay as they are (R55). -/
def Obligations.FaultyRecordsAndRepairs : Prop :=
  (∀ (s : State) (pl : Player) (r : FetchRead) (i : Nat) (d : BitVec 128), Carrying s (.fetch pl .record) →
    (s.fetcher pl).read = some r → r.discard = false → (s.fetcher pl).reserved = some i →
    i < (s.judge pl).pool.length → (s.entry pl i).state = .reserved → (s.fetcher pl).state = .fetching →
    (s.scoreUnit pl).outcome ≠ .failed →
    let f := s.fetcher pl
    let x := parseRecord d
    let bound := x.kind = .tap ∨ x.kind = .hold ∨ x.kind = .avoid
    let wrongLane := bound ∧ (s.session pl).laneCount ≤ x.lane
    let early := ∃ last, f.lastTime = some last ∧ x.time < last
    let overlaps := bound ∧ (laneTime f.laneLast x.lane = some x.time
      ∨ ∃ busy, laneTime f.holdBusy x.lane = some busy ∧ x.time ≤ busy)
    let void (kind : FaultKind) : Prop := ∃ t, exec (.recordReadDone pl (some d)) s = .next t
      ∧ t.entry pl i = { Entry.blank with
          state := .final, record := x, addr := f.page + 0x10 + 16 * f.index, tracker := f.seq, slot := f.index,
          own := .void, unitGrade := .void, chartNo := f.recordsTaken }
      ∧ t.writer pl = { s.writer pl with queue := (s.writer pl).queue ++ [.result i] }
      ∧ Logged s t kind (some pl) f.seq f.index s.clock.songTime 0
      ∧ t.scoreUnit pl = { s.scoreUnit pl with
          recordFaults := min 65535 ((s.scoreUnit pl).recordFaults + 1), flags := (s.scoreUnit pl).flags ||| 0x20 }
      ∧ TookRecord f (t.fetcher pl) ∧ (t.fetcher pl).lastTime = f.lastTime ∧ (t.fetcher pl).laneLast = f.laneLast
      ∧ (t.fetcher pl).holdBusy = f.holdBusy ∧ (t.fetcher pl).unitCounter = f.unitCounter
      ∧ (t.fetcher pl).assembly = f.assembly ∧ t.bus = Freed s.bus
      ∧ Keeps [.bus, .judge pl, .fetcher pl, .writer pl, .score pl, .notice, .fault] s t
    (x.kind = .unknown → void .recordKind)
    ∧ (x.kind ≠ .unknown → wrongLane → void .laneRange)
    ∧ (x.kind ≠ .unknown → ¬ wrongLane → early → void .order)
    ∧ (x.kind ≠ .unknown → ¬ wrongLane → ¬ early → overlaps → void .overlap)
    ∧ (¬ wrongLane → ¬ early → ¬ overlaps → x.kind = .tap ∨ x.kind = .hold → 4 < x.chord → void .chordSize))
  ∧ (∀ x : NoteRecord, -8388608 ≤ x.time → x.time ≤ 8388607 →
    let chord := if x.chord = 0 then 1 else x.chord
    let clamped := 8388607 < x.time + x.length
    let length := if clamped then (8388607 - x.time).toNat else x.length
    (x.kind = .tap → repairRecord x = ({ x with chord }, ⟨false, false, false, false, false⟩))
    ∧ (x.kind = .hold → 16 ≤ length →
        repairRecord x = ({ x with chord, length }, ⟨false, false, false, decide clamped, false⟩))
    ∧ (x.kind = .hold → length < 16 →
        repairRecord x = ({ x with chord, length, kind := .tap }, ⟨false, true, false, decide clamped, false⟩))
    ∧ (x.kind ≠ .tap → x.kind ≠ .hold → repairRecord x = (x, ⟨false, false, false, false, false⟩)))

/-- An accepted record that is not late and has room is placed: a TAP or HOLD standing alone takes its unit, and a
HOLD its tail unit, and waits at the back of its lane; an AVOID is WATCHING there; a BEAT is SCHEDULED at the back of
the beat list (R49, R53, R55, R56, R57, R61, R62, R65; the outcome not FAILED). The same record retried from STALLED
after a report is placed the same way (R56). An accepted record without the room it needs stays in hand with its entry
RESERVED, and the fetcher is STALLED, the running times moved on and no unit given; a retry without room leaves it so, waiting
for the next report (R55, R56; the outcome not FAILED). A TAP or HOLD of a chord that is not late and has room is placed the
same way: with no assembly open it opens a chord with its unit, in the chord table's first free entry (log entry 15), and with
one open that it belongs to it joins that chord with the chord's unit, a HOLD taking its own tail unit in either case, by the
read's end or by a retry (R57, R58, R59, R60, R62; units below the end of the counter). That a retry waits for a report is log entry 8, the poll count of 0 at
LINK_POLL log entry 25, the blank fields of the entry log entry 10. -/
def Obligations.RecordsArePlacedOrStall : Prop :=
  (∀ (s : State) (pl : Player) (i : Nat) (x : NoteRecord) (flags : ResultFlags),
    (s.fetcher pl).reserved = some i → i < (s.judge pl).pool.length → (s.scoreUnit pl).outcome ≠ .failed →
    (x.kind = .tap ∨ x.kind = .hold → (s.fetcher pl).assembly = none) → (s.fetcher pl).unitCounter ≤ 65535 →
    let f := s.fetcher pl
    let head := x.kind = .tap ∨ x.kind = .hold
    let bound := head ∨ x.kind = .avoid
    let inTime : Prop := (s.session pl).state ≠ .playing ∨
      (head → s.clock.songTime < min 8388607
          (x.time + (s.params pl).offset + (s.params pl).thin.late + s.laneDOn pl x.lane + 1))
        ∧ (x.kind = .avoid → s.clock.songTime < min 8388607
          (x.time + (s.params pl).offset + (s.params pl).avoidWindow + s.laneDOn pl x.lane + 1))
        ∧ (x.kind = .beat → s.clock.songTime ≤ x.time + (s.params pl).offset + 64)
    let room : Prop := (bound → ((s.judge pl).lane x.lane).length < (s.params pl).depth)
      ∧ (x.kind = .beat → (s.judge pl).beats.length < 8)
    let after := if x.kind = .hold then min 65535 (f.unitCounter + 2)
      else if x.kind = .tap then min 65535 (f.unitCounter + 1) else f.unitCounter
    let placed (e : Entry) (t : State) : Prop :=
      t.entry pl i = { e with
          state := if head then .waiting else if x.kind = .avoid then .watching else .scheduled,
          unit := if head then some f.unitCounter else none,
          tailUnit := if x.kind = .hold then some (min 65535 (f.unitCounter + 1)) else none,
          chartNo := f.recordsTaken }
        ∧ (∀ l, (t.judge pl).lane l = if bound ∧ l = x.lane then (s.judge pl).lane l ++ [i] else (s.judge pl).lane l)
        ∧ (t.judge pl).beats = (if x.kind = .beat then (s.judge pl).beats ++ [i] else (s.judge pl).beats)
        ∧ (t.fetcher pl).unitCounter = after ∧ TookRecord f (t.fetcher pl) ∧ (t.fetcher pl).assembly = f.assembly
        ∧ t.scoreUnit pl = { s.scoreUnit pl with
            assigned :=
              if after = f.unitCounter then (s.scoreUnit pl).assigned
              else min 65535 (min 65535 ((s.scoreUnit pl).assigned) + (after - f.unitCounter)) }
    inTime → room → (bound ∧ x.lane < 12) ∨ x.kind = .beat → (head → x.chord = 1) →
      (∀ r d, Carrying s (.fetch pl .record) → f.read = some r → r.discard = false → f.state = .fetching →
        f.recordFault (s.session pl).laneCount (parseRecord d) = none → repairRecord (parseRecord d) = (x, flags) →
        (s.scoreUnit pl).assigned ≤ 65535 →
        ∃ t, exec (.recordReadDone pl (some d)) s = .next t
          ∧ placed { Entry.blank with
              record := x, addr := f.page + 0x10 + 16 * f.index, tracker := f.seq, slot := f.index, flags } t
          ∧ (t.fetcher pl).lastTime = some x.time ∧ t.bus = Freed s.bus
          ∧ (bound → laneTime (t.fetcher pl).laneLast x.lane = some x.time)
          ∧ (x.kind = .hold → laneTime (t.fetcher pl).holdBusy x.lane = some (x.time + x.length))
          ∧ Keeps [.bus, .judge pl, .fetcher pl, .score pl] s t)
      ∧ (s.run = .operating → f.state = .stalled → f.roomReport = true → (s.entry pl i).record = x →
        (s.entry pl i).unit = none → (s.entry pl i).tailUnit = none → (s.scoreUnit pl).assigned ≤ 65535 →
        ∃ t, exec (.stalledRecordRetry pl) s = .next t ∧ placed (s.entry pl i) t
          ∧ Keeps [.judge pl, .fetcher pl, .score pl] s t))
  ∧ (∀ (s : State) (pl : Player) (i : Nat), (s.fetcher pl).reserved = some i → (s.scoreUnit pl).outcome ≠ .failed →
    let f := s.fetcher pl
    let noRoom (x : NoteRecord) : Prop := (x.kind = .beat ∧ 8 ≤ (s.judge pl).beats.length)
      ∨ (x.kind.laneBound = true ∧ (s.params pl).depth ≤ ((s.judge pl).lane x.lane).length)
      ∨ ((x.kind = .tap ∨ x.kind = .hold) ∧ 2 ≤ x.chord ∧ f.assembly = none ∧ ∀ k, s.chord pl k ≠ none)
    (∀ r d x flags, Carrying s (.fetch pl .record) → f.read = some r → r.discard = false → f.state = .fetching →
      i < (s.judge pl).pool.length →
      (∀ a, f.assembly = some a →
        x.kind = .avoid ∨ x.kind = .beat ∨ x.chord = a.size ∧ x.time = a.time ∧ x.lane ∉ a.lanes) →
      f.recordFault (s.session pl).laneCount (parseRecord d) = none → repairRecord (parseRecord d) = (x, flags) →
      s.isLate pl x = false → noRoom x → x.lane < 12 →
      let bound := x.kind = .tap ∨ x.kind = .hold ∨ x.kind = .avoid
      ∃ t, exec (.recordReadDone pl (some d)) s = .next t
        ∧ t.fetcher pl = { f with
            read := none, state := .stalled, inHand := some x, roomReport := false, lastTime := some x.time,
            laneLast := (t.fetcher pl).laneLast, holdBusy := (t.fetcher pl).holdBusy }
        ∧ (∀ l, laneTime (t.fetcher pl).laneLast l =
            if bound ∧ l = x.lane then some x.time else laneTime f.laneLast l)
        ∧ (∀ l, laneTime (t.fetcher pl).holdBusy l =
            if x.kind = .hold ∧ l = x.lane then some (x.time + x.length) else laneTime f.holdBusy l)
        ∧ t.judge pl = { s.judge pl with
            pool := (s.judge pl).pool.set i { Entry.blank with
              state := .reserved, record := x, addr := f.page + 0x10 + 16 * f.index, tracker := f.seq,
              slot := f.index, flags } }
        ∧ t.bus = Freed s.bus ∧ Keeps [.bus, .judge pl, .fetcher pl] s t)
    ∧ (∀ x, s.run = .operating → f.state = .stalled → (s.entry pl i).record = x → f.roomReport = true →
      s.isLate pl x = false → noRoom x → ∃ t, exec (.stalledRecordRetry pl) s = .next t
        ∧ t.fetcher pl = { f with inHand := some x, roomReport := false } ∧ Keeps [.fetcher pl] s t)
    ∧ (s.run = .operating → f.state = .stalled → f.roomReport = false →
      exec (.stalledRecordRetry pl) s = .next s))
  ∧ (∀ (s : State) (pl : Player) (i : Nat) (x : NoteRecord), (s.fetcher pl).reserved = some i →
    i < (s.judge pl).pool.length → (s.scoreUnit pl).outcome ≠ .failed → x.kind = .tap ∨ x.kind = .hold → 2 ≤ x.chord →
    x.lane < 12 → s.isLate pl x = false → ((s.judge pl).lane x.lane).length < (s.params pl).depth →
    (s.fetcher pl).unitCounter ≤ 65533 → (s.scoreUnit pl).assigned ≤ 65533 →
    let f := s.fetcher pl
    let placed (c : Instr) (e : Entry) (more : List Part) (t : State) (k : Fin 8) (unit headUnits : Nat) : Prop :=
      exec c s = .next t
        ∧ t.entry pl i = { e with
            state := .waiting, unit := some unit,
            tailUnit := if x.kind = .hold then some (f.unitCounter + headUnits) else none,
            chord := some k, chartNo := f.recordsTaken }
        ∧ (∀ l, (t.judge pl).lane l = if l = x.lane then (s.judge pl).lane l ++ [i] else (s.judge pl).lane l)
        ∧ (let units := headUnits + if x.kind = .hold then 1 else 0
          (t.fetcher pl).unitCounter = f.unitCounter + units
            ∧ t.scoreUnit pl = { s.scoreUnit pl with assigned := (s.scoreUnit pl).assigned + units })
        ∧ TookRecord f (t.fetcher pl) ∧ (.bus ∈ more → t.bus = Freed s.bus ∧ (t.fetcher pl).lastTime = some x.time)
        ∧ Keeps ([.judge pl, .fetcher pl, .score pl] ++ more) s t
    let takes (instr : Instr) (e : Entry) (more : List Part) : Prop :=
      (∀ k, f.assembly = none → s.chord pl k = none → (∀ j < k, s.chord pl j ≠ none) →
        ∃ t, placed instr e more t k f.unitCounter 1
          ∧ t.chord pl k = some ⟨f.unitCounter, x.chord, 0, none, [i]⟩
          ∧ (t.fetcher pl).assembly = some ⟨k, x.chord, x.time, [x.lane], 1⟩)
      ∧ (∀ a c, f.assembly = some a → s.chord pl a.chord = some c → x.chord = a.size → x.time = a.time → x.lane ∉ a.lanes →
        ∃ t, placed instr e more t a.chord c.unit 0 ∧ t.chord pl a.chord = some { c with members := c.members ++ [i] }
          ∧ (t.fetcher pl).assembly = if a.found + 1 = a.size then none
              else some { a with lanes := a.lanes ++ [x.lane], found := a.found + 1 })
    (∀ r d flags, Carrying s (.fetch pl .record) → f.read = some r → r.discard = false → f.state = .fetching →
      f.recordFault (s.session pl).laneCount (parseRecord d) = none → repairRecord (parseRecord d) = (x, flags) →
      takes (.recordReadDone pl (some d)) { Entry.blank with
        record := x, addr := f.page + 0x10 + 16 * f.index, tracker := f.seq, slot := f.index, flags } [.bus])
    ∧ (s.run = .operating → f.state = .stalled → f.roomReport = true → (s.entry pl i).record = x →
      (s.entry pl i).unit = none → (s.entry pl i).tailUnit = none →
      takes (.stalledRecordRetry pl) (s.entry pl i) []))

/-- Late records are taken at once, by the read's end or by a retry from STALLED: a TAP or HOLD standing alone as VOID with
LATE_FETCH, its units voided, STARVED set and logged once a stage; an AVOID as VOID likewise without units; a BEAT as PASSED
with neither (R61, R63, R64, R65; the outcome not FAILED, units below the end of the counter). That a retry waits for a
report is log entry 8, the poll count of 0 at LINK_POLL log entry 25, the blank fields of the entry log entry 10. An
accepted END with no chord open is PASSED and queued, its end time is handed to the Score Unit clamped to song time, and the
fetcher is ENDED and reads no more (R66; the outcome not FAILED). -/
def Obligations.LateAndEndRecords : Prop :=
  (∀ (s : State) (pl : Player) (i : Nat), (s.fetcher pl).reserved = some i → i < (s.judge pl).pool.length →
    (s.scoreUnit pl).outcome ≠ .failed → (s.session pl).state = .playing →
    let f := s.fetcher pl
    let late (c : Instr) (e : Entry) (more : List Part) : Prop :=
      let x := e.record
      let due (window : Nat) : Int := min 8388607 (x.time + (s.params pl).offset + window + s.laneDOn pl x.lane + 1)
      let ends (t : State) (own : Grade) (tail : Tail) (unit tailUnit : Option Nat) : Prop :=
        exec c s = .next t ∧ TookRecord f (t.fetcher pl)
          ∧ t.entry pl i = { e with
              state := .final, own, unitGrade := own, tail, offset := 0, unit, tailUnit,
              flags := { e.flags with lateFetch := true }, chartNo := f.recordsTaken }
          ∧ t.writer pl = { s.writer pl with queue := (s.writer pl).queue ++ [.result i] }
          ∧ (.bus ∈ more → t.bus = Freed s.bus)
      let void (t : State) (unit tailUnit : Option Nat) : Prop := ends t .void e.tail unit tailUnit
        ∧ (t.fetcher pl).starvedLogged = true
        ∧ (if f.starvedLogged then t.fault = s.fault ∧ t.notice = s.notice
          else Logged s t .starved (some pl) f.seq f.index s.clock.songTime 0)
        ∧ (t.scoreUnit pl).flags = (s.scoreUnit pl).flags ||| 0x10
        ∧ (t.scoreUnit pl).score = (s.scoreUnit pl).score ∧ (t.scoreUnit pl).life = (s.scoreUnit pl).life
        ∧ (t.scoreUnit pl).combo = (s.scoreUnit pl).combo
        ∧ Keeps ([.judge pl, .fetcher pl, .writer pl, .score pl, .notice, .fault] ++ more) s t
      (x.kind = .tap → x.chord ≤ 1 → due (s.params pl).thin.late ≤ s.clock.songTime →
        f.unitCounter < (s.scoreUnit pl).n → (s.scoreUnit pl).n ≤ 65535 → e.tailUnit = none →
        (s.scoreUnit pl).settledTotal ≤ (s.scoreUnit pl).assigned → (s.scoreUnit pl).assigned < 65535 →
        ∃ t, void t (some f.unitCounter) none
          ∧ (t.scoreUnit pl).voided = (s.scoreUnit pl).voided + 1
          ∧ (t.scoreUnit pl).assigned = (s.scoreUnit pl).assigned + 1)
      ∧ (x.kind = .hold → x.chord ≤ 1 → due (s.params pl).thin.late ≤ s.clock.songTime →
        f.unitCounter + 1 < (s.scoreUnit pl).n → (s.scoreUnit pl).n ≤ 65535 →
        (s.scoreUnit pl).settledTotal ≤ (s.scoreUnit pl).assigned → (s.scoreUnit pl).assigned < 65534 →
        ∃ t, void t (some f.unitCounter) (some (f.unitCounter + 1))
          ∧ (t.scoreUnit pl).voided = (s.scoreUnit pl).voided + 2
          ∧ (t.scoreUnit pl).assigned = (s.scoreUnit pl).assigned + 2)
      ∧ (x.kind = .avoid → due (s.params pl).avoidWindow ≤ s.clock.songTime → e.tail = .none →
        ∃ t, void t e.unit e.tailUnit ∧ (t.scoreUnit pl).voided = (s.scoreUnit pl).voided)
      ∧ (x.kind = .beat → x.time + (s.params pl).offset + 64 < s.clock.songTime →
        ∃ t, ends t .passed .none e.unit e.tailUnit
          ∧ Keeps ([.judge pl, .fetcher pl, .writer pl] ++ more) s t)
    (s.run = .operating → f.state = .stalled → f.roomReport = true → (s.entry pl i).chord = none →
      late (.stalledRecordRetry pl) (s.entry pl i) [])
    ∧ (∀ r d x flags, Carrying s (.fetch pl .record) → f.read = some r → r.discard = false → f.state = .fetching →
      (x.kind = .tap ∨ x.kind = .hold → f.assembly = none) →
      f.recordFault (s.session pl).laneCount (parseRecord d) = none → repairRecord (parseRecord d) = (x, flags) →
      late (.recordReadDone pl (some d)) { Entry.blank with
        state := .reserved, record := x, addr := f.page + 0x10 + 16 * f.index, tracker := f.seq, slot := f.index,
        flags } [.bus]))
  ∧ (∀ (s : State) (pl : Player) (r : FetchRead) (i : Nat) (d : BitVec 128), Carrying s (.fetch pl .record) →
    (s.fetcher pl).read = some r → r.discard = false → (s.fetcher pl).reserved = some i →
    i < (s.judge pl).pool.length → (s.fetcher pl).state = .fetching → (s.fetcher pl).assembly = none →
    (s.scoreUnit pl).outcome ≠ .failed →
    let f := s.fetcher pl
    let x := parseRecord d
    x.kind = .chartEnd → (∀ last, f.lastTime = some last → last ≤ x.time) →
    ∃ t, exec (.recordReadDone pl (some d)) s = .next t
      ∧ t.entry pl i = { Entry.blank with
          state := .final, record := x, addr := f.page + 0x10 + 16 * f.index, tracker := f.seq, slot := f.index,
          own := .passed, unitGrade := .passed, chartNo := f.recordsTaken }
      ∧ t.writer pl = { s.writer pl with queue := (s.writer pl).queue ++ [.result i] }
      ∧ t.scoreUnit pl = { s.scoreUnit pl with
          endTime := some (max (-8388608) (min 8388607 (x.time + (s.params pl).offset))) }
      ∧ (t.fetcher pl).state = .ended ∧ (t.fetcher pl).read = none ∧ (t.fetcher pl).reserved = none
      ∧ (t.fetcher pl).index = f.index + 1 ∧ t.bus = Freed s.bus
      ∧ Keeps [.bus, .judge pl, .fetcher pl, .writer pl, .score pl] s t)

/-- A TAP or HOLD of chord size 2 to 4 that is not late opens a chord when none is open: it takes the unit, a free
chord table entry and the assembly. The next one that belongs joins it, and with the last member the assembly is
over. A record that does not belong closes the chord short: each member that was placed is marked CHORD_SHORT, a late one is
not, and the chord settles at once if every member found has reported (R57, R58, R59, R60, R63, R71, R111; the opening and the
joining at the numbering of a record, the commands that number one being stated for themselves). RECORD_READ_DONE closes the
chord short for an accepted record that does not belong, and then deals with that record as with no chord open (R56, R60; that a
STALLED_RECORD_RETRY makes no such test again is stated where records are placed). That a chord takes the first free entry of the chord table is the model's choice (log entry
15). -/
def Obligations.ChordsAreAssembled : Prop :=
  ∀ (s : State) (pl : Player) (i : Nat) (x : NoteRecord), i < (s.judge pl).pool.length →
    let f := s.fetcher pl
    (∀ k, 2 ≤ x.chord → f.assembly = none → s.chord pl k = none → (∀ j < k, s.chord pl j ≠ none) → f.unitCounter < 65535 →
      let t := s.numberHead pl i x
      t.chord pl k = some ⟨f.unitCounter, x.chord, 0, none, [i]⟩
        ∧ t.fetcher pl = { f with
            assembly := some ⟨k, x.chord, x.time, [x.lane], 1⟩, unitCounter := f.unitCounter + 1 }
        ∧ t.entry pl i = { s.entry pl i with unit := some f.unitCounter, chord := some k }
        ∧ t.scoreUnit pl = { s.scoreUnit pl with assigned := min 65535 ((s.scoreUnit pl).assigned + 1) }
        ∧ Keeps [.judge pl, .fetcher pl, .score pl] s t)
    ∧ (∀ a c, 2 ≤ x.chord → f.assembly = some a → s.chord pl a.chord = some c →
      let t := s.numberHead pl i x
      t.chord pl a.chord = some { c with members := c.members ++ [i] }
        ∧ t.fetcher pl = { f with
            assembly := if a.found + 1 = a.size then none
              else some { a with lanes := a.lanes ++ [x.lane], found := a.found + 1 } }
        ∧ t.entry pl i = { s.entry pl i with unit := some c.unit, chord := some a.chord }
        ∧ Keeps [.judge pl, .fetcher pl] s t)
    ∧ (∀ a c, f.assembly = some a → s.chord pl a.chord = some c →
      (x.kind = .chartEnd ∨ ((x.kind = .tap ∨ x.kind = .hold)
        ∧ (x.chord ≠ a.size ∨ x.time ≠ a.time ∨ x.lane ∈ a.lanes))) →
      let t := s.assemblyTest pl x
      let marked (m : Nat) : ResultFlags := if (s.entry pl m).flags.lateFetch then (s.entry pl m).flags
        else { (s.entry pl m).flags with chordShort := true }
      let counted : Score := { s.scoreUnit pl with
        recordFaults := min 65535 ((s.scoreUnit pl).recordFaults + 1), flags := (s.scoreUnit pl).flags ||| 0x20 }
      let reported : Prop := Logged s t .chordShort (some pl) f.seq f.index s.clock.songTime 0
        ∧ ∀ m, m ∉ c.members → t.entry pl m = s.entry pl m
      (c.judged ≠ a.found → reported
        ∧ t.chord pl a.chord = some { c with expected := a.found } ∧ t.fetcher pl = { f with assembly := none }
        ∧ (∀ m ∈ c.members, m < (s.judge pl).pool.length →
            t.entry pl m = { s.entry pl m with flags := marked m })
        ∧ t.scoreUnit pl = counted ∧ Keeps [.judge pl, .fetcher pl, .score pl, .notice, .fault] s t)
      ∧ (∀ g, c.judged = a.found → c.worst = some g → f.state = .fetching → c.members.Nodup →
        (∀ m ∈ c.members, (s.entry pl m).state ∈ [.judged, .held, .slipping]) → reported
          ∧ t.chord pl a.chord = none ∧ t.fetcher pl = { f with assembly := none }
          ∧ (∀ m ∈ c.members, t.entry pl m = { s.entry pl m with
              state := if (s.entry pl m).state = .judged then .final else (s.entry pl m).state, unitGrade := g,
              chord := none, flags := marked m })
          ∧ t.scoreUnit pl = counted.apply (UnitSettlement (s.params pl) c.unit g)
          ∧ t.writer pl = { s.writer pl with queue := (s.writer pl).queue
              ++ (c.members.filter (fun m => (s.entry pl m).state = .judged)).map WriteItem.result }
          ∧ Keeps [.judge pl, .fetcher pl, .score pl, .writer pl, .notice, .fault] s t))
    ∧ (∀ a, f.assembly = some a →
      x.kind = .avoid ∨ x.kind = .beat ∨ ((x.kind = .tap ∨ x.kind = .hold) ∧ x.chord = a.size ∧ x.time = a.time
        ∧ x.lane ∉ a.lanes) → s.assemblyTest pl x = s)
    ∧ (∀ a c r d flags, f.assembly = some a → s.chord pl a.chord = some c → i ∉ c.members →
      (x.kind = .chartEnd ∨ ((x.kind = .tap ∨ x.kind = .hold)
        ∧ (x.chord ≠ a.size ∨ x.time ≠ a.time ∨ x.lane ∈ a.lanes))) →
      Carrying s (.fetch pl .record) → f.read = some r → r.discard = false → f.reserved = some i → f.state = .fetching →
      f.recordFault (s.session pl).laneCount (parseRecord d) = none → repairRecord (parseRecord d) = (x, flags) →
      let closed := s.assemblyTest pl x
      (closed.fetcher pl).assembly = none ∧ Carrying closed (.fetch pl .record)
        ∧ ∃ t, exec (.recordReadDone pl (some d)) s = .next t ∧ exec (.recordReadDone pl (some d)) closed = .next t)

/-! ### Lane Judge (R72 to R116) -/

/-- A press of a lane that is not used: ignored without a lane or unless the player is PLAYING with the clock RUNNING or
PAUSED; a free step in PAUSED, and in RUNNING when it rescues no hold and grades no note. A free step changes nothing else
of the player and makes no flash (R73, R78, R79, R84; no avoid note struck). A press grades the first WAITING entry of its
lane whose THIN window contains it, with the narrowest grade that does: own grade, offset, the offset sum, the settlement of
the unit with the grade's row, a GRADE trigger at the record's cue on the panel; a TAP is FINAL and leaves the lane, a HOLD
is HELD with its panel's hold active (R79, R80, R81, R82, R83, R95, R181; the entry standing alone, no hold slipping and no
avoid note struck in the lane, the player not failed by it, and a hold's settle due not yet reached). A press within the
avoid window of a WATCHING entry strikes it at its offset: STRUCK, FINAL, queued and out of the lane, one avoid settlement
with the STRUCK delta and a STRIKE trigger on the panel; the press is not used up, and with no note to grade is a free step
(R79, R105, R106; the only avoid note struck). The panel is DOWN with a confirm count of 0 (log entry 13). A trigger tests
OFF on the panel's present state (log entry 42). -/
def Obligations.PressesAreMatched : Prop :=
  (∀ (s : State) (pl : Player) (pad : PadId) (p : PanelId), s.run = .operating → (s.pad pad).state = .active →
    p.val < (s.pad pad).profile.panelCount → s.owner pad = some pl →
    ((s.pad pad).panels.get p).state = .rising →
    (s.pad pad).profile.dOn + 1 ≤ ((s.pad pad).panels.get p).confirm →
    let x := (s.pad pad).panels.get p
    let down (t : State) : Prop := t.pad pad = { s.pad pad with
      panels := (s.pad pad).panels.set p { x with state := .down, lastPress := x.riseStamp, confirm := 0, stuck := 0 } }
    let freeStep (t : State) : Prop := t.scoreUnit pl = { s.scoreUnit pl with
      freeSteps := min 65535 ((s.scoreUnit pl).freeSteps + 1) }
    (s.laneOf pl pad p = none ∨ (s.session pl).state ≠ .playing ∨ s.clock.state = .idle ∨ s.clock.state = .starting →
      ∃ t, exec (.pressConfirm pad p) s = .next t ∧ down t ∧ Keeps [.pad pad] s t)
    ∧ (∀ l, s.laneOf pl pad p = some l → (s.session pl).state = .playing → s.clock.state = .paused →
      ∃ t, exec (.pressConfirm pad p) s = .next t ∧ down t ∧ freeStep t ∧ Keeps [.pad pad, .score pl] s t)
    ∧ (∀ l, s.laneOf pl pad p = some l → (s.session pl).state = .playing → s.clock.state = .running →
      (s.scoreUnit pl).outcome ≠ .failed →
      (∀ i ∈ (s.judge pl).lane l,
        let e := s.entry pl i
        let d := x.riseStamp - (e.record.time + (s.params pl).offset)
        e.state ≠ .slipping
          ∧ (e.state = .watching → d < -((s.params pl).avoidWindow : Int) ∨ ((s.params pl).avoidWindow : Int) < d)
          ∧ (e.state = .waiting → d < -((s.params pl).thin.early : Int) ∨ ((s.params pl).thin.late : Int) < d)) →
      ∃ t, exec (.pressConfirm pad p) s = .next t ∧ down t ∧ freeStep t ∧ Keeps [.pad pad, .score pl] s t))
  ∧ (∀ (s : State) (pl : Player) (pad : PadId) (p : PanelId) (l i u : Nat) (front back : List Nat), s.run = .operating →
    (s.pad pad).state = .active → p.val < (s.pad pad).profile.panelCount → s.owner pad = some pl →
    ((s.pad pad).panels.get p).state = .rising →
    (s.pad pad).profile.dOn + 1 ≤ ((s.pad pad).panels.get p).confirm → s.laneOf pl pad p = some l → l < 12 →
    (s.session pl).state = .playing → s.clock.state = .running → (s.judge pl).lane l = front ++ i :: back →
    let x := (s.pad pad).panels.get p
    let e := s.entry pl i
    let q := s.params pl
    let offset (k : Nat) : Int := x.riseStamp - ((s.entry pl k).record.time + q.offset)
    let within (row : GradeRow) (d : Int) : Prop := -(row.early : Int) ≤ d ∧ d ≤ row.late
    let d := offset i
    let grade := if within q.apex d then Grade.apex else if within q.solid d then .solid
      else if within q.fair d then .fair else .thin
    let row := if within q.apex d then q.apex else if within q.solid d then q.solid
      else if within q.fair d then q.fair else q.thin
    let count : UnitCount := if within q.apex d then .apex else if within q.solid d then .solid
      else if within q.fair d then .fair else .thin
    let score := ((s.scoreUnit pl).takeOffset d).apply (.unit u count row.fraction row.delta row.action)
    (∀ k ∈ (s.judge pl).lane l, (s.entry pl k).state ≠ .slipping ∧ ((s.entry pl k).state = .watching →
      offset k < -(q.avoidWindow : Int) ∨ (q.avoidWindow : Int) < offset k)) →
    (∀ k ∈ front, (s.entry pl k).state = .waiting → ¬ within q.thin (offset k)) →
    e.state = .waiting → within q.thin d → e.unit = some u → e.chord = none → e.record.lane = l → i ∉ front →
    score.outcome ≠ .failed →
    (e.record.kind = .tap → ∃ t, exec (.pressConfirm pad p) s = .next t
      ∧ t.entry pl i = { e with state := .final, own := grade, unitGrade := grade, offset := d }
      ∧ (t.judge pl).lane l = front ++ back ∧ t.scoreUnit pl = score
      ∧ t.writer pl = { s.writer pl with queue := (s.writer pl).queue ++ [.result i] }
      ∧ (∀ k, k ≠ i → t.entry pl k = s.entry pl k) ∧ (∀ k, k ≠ l → (t.judge pl).lane k = (s.judge pl).lane k)
      ∧ ((t.pad pad).panels.get p).state = .down ∧ t.lamps = (s.trigger pl .grade e.record.cue pad p).lamps
      ∧ Keeps [.pad pad, .judge pl, .score pl, .writer pl, .fetcher pl, .lamps] s t)
    ∧ (e.record.kind = .hold →
      (s.judge pl).judged < min 8388607 (e.record.time + e.record.length + q.offset + s.laneDOff pl l + 1) →
      ∃ t, exec (.pressConfirm pad p) s = .next t
        ∧ t.entry pl i = { e with state := .held, own := grade, unitGrade := grade, offset := d, slip := none }
        ∧ (t.judge pl).lane l = (s.judge pl).lane l ∧ t.scoreUnit pl = score
        ∧ (t.pad pad).panels = (s.pad pad).panels.set p
            { x with state := .down, lastPress := x.riseStamp, confirm := 0, stuck := 0, holdActive := true }
        ∧ t.lamps = (s.trigger pl .grade e.record.cue pad p).lamps
        ∧ Keeps [.pad pad, .judge pl, .score pl, .lamps] s t))
  ∧ (∀ (s : State) (pl : Player) (pad : PadId) (p : PanelId) (l i : Nat), s.run = .operating →
    (s.pad pad).state = .active → p.val < (s.pad pad).profile.panelCount → s.owner pad = some pl →
    ((s.pad pad).panels.get p).state = .rising →
    (s.pad pad).profile.dOn + 1 ≤ ((s.pad pad).panels.get p).confirm → s.laneOf pl pad p = some l →
    (s.session pl).state = .playing → s.clock.state = .running → i ∈ (s.judge pl).lane l →
    let x := (s.pad pad).panels.get p
    let e := s.entry pl i
    let q := s.params pl
    let offset (k : Nat) : Int := x.riseStamp - ((s.entry pl k).record.time + q.offset)
    let strikes (k : Nat) : Prop := -(q.avoidWindow : Int) ≤ offset k ∧ offset k ≤ q.avoidWindow
    let grades (k : Nat) : Prop := -(q.thin.early : Int) ≤ offset k ∧ offset k ≤ q.thin.late
    let score := (s.scoreUnit pl).apply (.struck q.struckDelta)
    e.state = .watching → e.record.lane = l → strikes i → score.outcome ≠ .failed →
    (∀ k ∈ (s.judge pl).lane l, (s.entry pl k).state ≠ .slipping
      ∧ (k ≠ i → (s.entry pl k).state = .watching → ¬ strikes k)
      ∧ ((s.entry pl k).state = .waiting → ¬ grades k)) →
    ∃ t, exec (.pressConfirm pad p) s = .next t
      ∧ t.entry pl i = { e with
          state := .final, own := .struck, unitGrade := .struck, tail := .none, offset := offset i }
      ∧ (∀ k, k ≠ i → t.entry pl k = s.entry pl k)
      ∧ (∀ k, (t.judge pl).lane k = if k = l then ((s.judge pl).lane l).erase i else (s.judge pl).lane k)
      ∧ t.scoreUnit pl = { score with freeSteps := min 65535 (score.freeSteps + 1) }
      ∧ t.writer pl = { s.writer pl with queue := (s.writer pl).queue ++ [.result i] }
      ∧ t.lamps = (s.trigger pl .strike 255 pad p).lamps
      ∧ (t.pad pad).panels = (s.pad pad).panels.set p
          { x with state := .down, lastPress := x.riseStamp, confirm := 0, stuck := 0 }
      ∧ Keeps [.pad pad, .judge pl, .score pl, .writer pl, .fetcher pl, .lamps] s t)

/-- The due times of a head, a beat and an avoid note that stand reached while the judge serves a value handed over. A
lapse: LAPSE, BREAK and the LAPSE delta, and of a HOLD head its tail DROPPED at once, with BREAK and no delta. A beat:
PASSED, and a BEAT trigger. A crossing: STRUCK with offset 0 on a pressed panel, else only crossed. An avoid settle:
AVOIDED. Each settled entry is FINAL, queued and out of its list (R74, R82, R88, R103, R104, R106, R107; log entry 3; the
head standing alone, the player not failed by it). A due time that is not reached, or that finds the player not PLAYING, the
clock not RUNNING or no value being served, serves nothing (R87, R89, R91; log entries 2 and 3). A value handed over serves
every reached due time, the lowest first and of equal ones the earlier in the chart, each as that row serves it (R87, R89);
a pulse in LOCKED hands its new song time to both judges (R3, R87). Of one avoid note's crossing and settle due, both capped at
8388607, the crossing is served first (log entry 12). In a round strobe a crossing strikes a note whose panel
was pressed in the round before or that this round brings DOWN (R104, R108; log entry 33; the only entry in use, the player
not failed by it). -/
def Obligations.DueTimesAreServed : Prop :=
  (∀ (s : State) (pl : Player) (i : Nat), s.run = .operating → (s.session pl).state = .playing →
    s.clock.state = .running → (s.judge pl).serving = true →
    let e := s.entry pl i
    let q := s.params pl
    let t' := e.record.time + q.offset
    let l := e.record.lane
    let judged := (s.judge pl).judged
    let settled (t : State) (own : Grade) (flags : ResultFlags) : Prop :=
      t.entry pl i = { e with
          state := .final, own, unitGrade := own, tail := if own = .lapse then e.tail else .none, offset := 0, flags }
        ∧ t.writer pl = { s.writer pl with queue := (s.writer pl).queue ++ [.result i] }
        ∧ (∀ k, k ≠ i → t.entry pl k = s.entry pl k)
    let leftLane (t : State) : Prop := ∀ k, (t.judge pl).lane k =
      if k = l then ((s.judge pl).lane l).erase i else (s.judge pl).lane k
    (∀ u, e.state = .waiting → e.record.kind = .tap → e.chord = none → e.unit = some u →
      min 8388607 (t' + q.thin.late + s.laneDOn pl l + 1) ≤ judged →
      let score := (s.scoreUnit pl).apply (.unit u .lapse 0 q.lapseDelta .break)
      score.outcome ≠ .failed → ∃ t, exec (.lapseDue pl i) s = .next t ∧ settled t .lapse e.flags ∧ leftLane t
        ∧ t.scoreUnit pl = score ∧ Keeps [.judge pl, .score pl, .writer pl, .fetcher pl] s t)
    ∧ (∀ u v, e.state = .waiting → e.record.kind = .hold → e.chord = none → e.unit = some u → e.tailUnit = some v →
      min 8388607 (t' + q.thin.late + s.laneDOn pl l + 1) ≤ judged →
      let score := ((s.scoreUnit pl).apply (.unit u .lapse 0 q.lapseDelta .break)).apply (.unit v .dropped 0 0 .break)
      score.outcome ≠ .failed → ∃ t, exec (.lapseDue pl i) s = .next t
        ∧ t.entry pl i = { e with state := .final, own := .lapse, unitGrade := .lapse, tail := .dropped, offset := 0 }
        ∧ t.writer pl = { s.writer pl with queue := (s.writer pl).queue ++ [.result i] }
        ∧ (∀ k, k ≠ i → t.entry pl k = s.entry pl k) ∧ leftLane t
        ∧ t.scoreUnit pl = score ∧ Keeps [.judge pl, .score pl, .writer pl, .fetcher pl] s t)
    ∧ (e.state = .scheduled → min 8388607 t' ≤ judged → (s.scoreUnit pl).outcome ≠ .failed →
      ∃ t, exec (.beatDue pl i) s = .next t ∧ settled t .passed ⟨false, false, false, false, false⟩
        ∧ (t.judge pl).beats = (s.judge pl).beats.erase i
        ∧ t.lamps = (s.triggerBeat pl e.record.cue).lamps
        ∧ Keeps [.judge pl, .writer pl, .fetcher pl, .lamps] s t)
    ∧ (e.state = .watching → e.crossed = false → min 8388607 t' ≤ judged →
      ((s.lanePanelIn s.pads pl l).pressed = false → (s.scoreUnit pl).outcome ≠ .failed →
        ∃ t, exec (.crossingDue pl i) s = .next t ∧ t.entry pl i = { e with crossed := true }
          ∧ Keeps [.judge pl] s t)
      ∧ ((s.lanePanelIn s.pads pl l).pressed = true →
        let score := (s.scoreUnit pl).apply (.struck q.struckDelta)
        score.outcome ≠ .failed → ∃ t, exec (.crossingDue pl i) s = .next t ∧ settled t .struck e.flags ∧ leftLane t
          ∧ t.scoreUnit pl = score
          ∧ t.lamps = (s.triggerLane pl .strike 255 l).lamps
          ∧ Keeps [.judge pl, .score pl, .writer pl, .fetcher pl, .lamps] s t))
    ∧ (e.state = .watching → e.crossed = true →
      min 8388607 (t' + q.avoidWindow + s.laneDOn pl l + 1) ≤ judged →
      let score := (s.scoreUnit pl).apply .avoided
      score.outcome ≠ .failed → ∃ t, exec (.avoidSettleDue pl i) s = .next t ∧ settled t .avoided e.flags ∧ leftLane t
        ∧ t.scoreUnit pl = score ∧ Keeps [.judge pl, .score pl, .writer pl, .fetcher pl] s t))
  ∧ (∀ (s : State) (pl : Player) (i : Nat),
    ((s.session pl).state ≠ .playing ∨ s.clock.state ≠ .running ∨ (s.judge pl).serving = false
      ∨ ∀ due, s.nextDueOf pl (s.entry pl i) = some due → (s.judge pl).judged < due) →
    ∀ c ∈ [Instr.beatDue pl i, .lapseDue pl i, .crossingDue pl i, .avoidSettleDue pl i, .graceDue pl i, .settleDue pl i],
      exec c s = .next s)
  ∧ (∀ (s : State) (pl : Player) (v : Int), s.run = .operating → (s.session pl).state = .playing →
    s.clock.state = .running →
    let ready := s.setJudge pl { s.judge pl with judged := v, serving := true }
    let reached (i : Nat) (due : Int) : Prop := i < (s.judge pl).pool.length
      ∧ s.nextDueOf pl (s.entry pl i) = some due ∧ due ≤ v
    ((∀ i due, ¬ reached i due) →
      s.handOver s.pads pl v = (s.setJudge pl { s.judge pl with judged := v, serving := false }).clearingCheck pl)
    ∧ (∀ i due, reached i due →
      (∀ k other, k ≠ i → reached k other →
        due < other ∨ (due = other ∧ (s.entry pl i).chartNo < (s.entry pl k).chartNo)) →
      let e := s.entry pl i
      let row : Instr := match e.state with
        | .waiting => .lapseDue pl i
        | .scheduled => .beatDue pl i
        | .watching => if e.crossed then .avoidSettleDue pl i else .crossingDue pl i
        | .slipping => if e.slip.any (fun q => e.record.time + e.record.length + (s.params pl).offset
            ≤ q + (s.params pl).grace) then .settleDue pl i else .graceDue pl i
        | _ => .settleDue pl i
      ∃ t, exec row ready = .next t ∧ s.handOver s.pads pl v = t.handOver s.pads pl v))
  ∧ (∀ (s : State) (first : Player), s.run = .operating → s.clock.taking = true → s.clock.state = .running →
    s.clock.mode = .locked → s.clock.change ≠ .pause → s.clock.phase = 32 ∨ (6 ≤ s.clock.phase ∧ s.clock.phase ≤ 10) →
    let v := min (s.clock.lastPulse + 8) 8388607
    let a := s.setClock { s.clock with phase := 0, anomalyRun := 0, songTime := v, lastPulse := v }
    let b := a.handOver a.pads first v
    (v ≠ s.clock.songTime → exec (.syncPulse first) s = .next (b.handOver b.pads first.other v))
    ∧ (v = s.clock.songTime → exec (.syncPulse first) s = .next a))
  ∧ (∀ (s : State) (r : Readings) (order : RoundOrder) (pl : Player) (i l : Nat) (pad : PadId) (p : PanelId),
    s.run = .operating → s.clock.state = .running → s.clock.mode = .locked → (s.session pl).state = .playing →
    (s.session pl.other).state = .idle → s.owner pad = some pl → (s.pad pad).state = .active →
    (s.pad pad).cal = none → p.val < (s.pad pad).profile.panelCount → s.laneOf pl pad p = some l →
    let e := s.entry pl i
    let q := s.params pl
    let t' := e.record.time + q.offset
    let v := min (min (s.clock.songTime + 1) (s.clock.lastPulse + 7)) 8388607
    e.state = .watching → e.crossed = false → e.record.lane = l → (∀ k, k ≠ l → i ∉ (s.judge pl).lane k) →
    (∀ k, k ≠ i → (s.entry pl k).state ∈ [.free, .reserved, .final]) →
    v ≠ s.clock.songTime → min 8388607 t' ≤ v → (s.scoreUnit pl).outcome ≠ .failed →
    ((s.scoreUnit pl).apply (.struck q.struckDelta)).outcome ≠ .failed →
    ∃ t, exec (.roundStrobe r order) s = .next t ∧
      let down : Prop := ((s.pad pad).panels.get p).state.pressed = true ∨ ((t.pad pad).panels.get p).state = .down
      (down → (t.entry pl i).own = .struck ∧ (t.entry pl i).state = .final)
        ∧ (¬ down → v < min 8388607 (t' + q.avoidWindow + s.laneDOn pl l + 1) →
          t.entry pl i = { e with crossed := true }))

/-- The tail of a hold completes at its settle due HELD, when it is HELD or its grace reaches its end, and at its grace due
DROPPED when its grace does not: the tail's settlement, its lane left, the hold-active indication off, and the entry FINAL and
queued when it stands alone or its chord has settled, JUDGED while its chord has not (R99, R100, R101, R102; log entry 3; that
the indication goes off while another hold of the lane runs too, log entry 36; the player not failed by it). A release of a lane
slips its HELD hold at the release's stamp; a forced one, by a stuck release or by the death of its panel as its last
believable sensor fails, slips it at the song time, marks it FORCED and sets FORCED_RELEASE; a press within grace rescues a
SLIPPING hold and is used up by it; a resume, by a pulse or by its fallback, slips a hold whose panel is up at the song time of the resume
and rescues one whose panel is down (R14, R27, R30, R85, R92, R96, R97; RESUME_FALLBACK at a standing wait of 32, log entry 3;
nothing of the hold being due; the panel's confirm count of 0, log entry 13). Of two holds of the lane in one state the
first in the lane list takes the release or the press (log entry 41). -/
def Obligations.HoldsCompleteOrSlip : Prop :=
  (∀ (s : State) (pl : Player) (i u : Nat), s.run = .operating → (s.session pl).state = .playing →
    s.clock.state = .running → (s.judge pl).serving = true → (s.entry pl i).tailUnit = some u →
    let e := s.entry pl i
    let q := s.params pl
    let l := e.record.lane
    let judged := (s.judge pl).judged
    let holdEnd := e.record.time + e.record.length + q.offset
    let completes (c : Instr) (tail : Tail) (x : Settlement) : Prop :=
      ((s.scoreUnit pl).apply x).outcome ≠ .failed → ∃ t, exec c s = .next t
        ∧ t.entry pl i = { e with state := if e.chord = none then .final else .judged, tail }
        ∧ t.scoreUnit pl = (s.scoreUnit pl).apply x ∧ (t.judge pl).chords = (s.judge pl).chords
        ∧ t.writer pl = { s.writer pl with
            queue := (s.writer pl).queue ++ if e.chord = none then [.result i] else [] }
        ∧ (∀ k, (t.judge pl).lane k = if k = l then ((s.judge pl).lane l).erase i else (s.judge pl).lane k)
        ∧ (∀ pad p, s.laneTargetOf pl l = some (pad, p) → ((t.pad pad).panels.get p).holdActive = false)
        ∧ (∀ k, k ≠ i → t.entry pl k = s.entry pl k)
        ∧ Keeps [.judge pl, .score pl, .writer pl, .fetcher pl, .pad .pad0, .pad .pad1] s t
    (e.state = .held → min 8388607 (holdEnd + s.laneDOff pl l + 1) ≤ judged →
      completes (.settleDue pl i) .held (.unit u .held 64 q.heldDelta .add))
    ∧ (∀ slip, e.state = .slipping → e.slip = some slip →
      (holdEnd ≤ slip + q.grace → min 8388607 (holdEnd + s.laneDOff pl l + 1) ≤ judged →
        completes (.settleDue pl i) .held (.unit u .held 64 q.heldDelta .add)
          ∧ exec (.graceDue pl i) s = .next s)
      ∧ (slip + q.grace < holdEnd → min 8388607 (slip + q.grace + s.laneDOn pl l + 1) ≤ judged →
        completes (.graceDue pl i) .dropped (.unit u .dropped 0 q.droppedDelta .break)
          ∧ exec (.settleDue pl i) s = .next s)))
  ∧ (∀ (s : State) (pl : Player) (pad : PadId) (p : PanelId) (l i : Nat), s.run = .operating →
    (s.pad pad).state = .active → p.val < (s.pad pad).profile.panelCount → s.owner pad = some pl →
    s.laneOf pl pad p = some l → s.laneTargetOf pl l = some (pad, p) → (s.session pl).state = .playing →
    s.clock.state = .running → (s.scoreUnit pl).outcome ≠ .failed → (s.entry pl i).record.lane = l →
    let x := (s.pad pad).panels.get p
    let e := s.entry pl i
    let q := s.params pl
    let holdEnd := e.record.time + e.record.length + q.offset
    let settle := min 8388607 (holdEnd + s.laneDOff pl l + 1)
    let judged := (s.judge pl).judged
    (x.state = .falling → (s.pad pad).profile.dOff + 1 ≤ x.confirm → (s.judge pl).firstIn l .held = some i →
      judged < settle → judged < min 8388607 (x.fallStamp + q.grace + s.laneDOn pl l + 1) →
      ∃ t, exec (.releaseConfirm pad p) s = .next t
        ∧ t.entry pl i = { e with state := .slipping, slip := some x.fallStamp }
        ∧ (t.judge pl).lane l = (s.judge pl).lane l ∧ (∀ k, k ≠ i → t.entry pl k = s.entry pl k)
        ∧ Keeps [.pad pad, .judge pl] s t)
    ∧ (∀ slip, x.state = .rising → (s.pad pad).profile.dOn + 1 ≤ x.confirm →
      (s.judge pl).firstIn l .slipping = some i → e.slip = some slip → x.riseStamp ≤ slip + q.grace →
      judged < settle →
      ∃ t, exec (.pressConfirm pad p) s = .next t ∧ t.entry pl i = { e with state := .held, slip := none }
        ∧ ((t.pad pad).panels.get p).holdActive = true ∧ ((t.pad pad).panels.get p).state = .down
        ∧ (t.judge pl).lane l = (s.judge pl).lane l ∧ (∀ k, k ≠ i → t.entry pl k = s.entry pl k)
        ∧ Keeps [.pad pad, .judge pl] s t)
    ∧ (e.state = .held → x.state.pressed = false →
        (s.reconcileEntry pl i).entry pl i = { e with state := .slipping, slip := some s.clock.songTime })
    ∧ (e.state = .slipping → x.state.pressed = true → judged < settle →
        (s.reconcileEntry pl i).entry pl i = { e with state := .held, slip := none })
    ∧ (e.state = .held → x.state.pressed = true → s.reconcileEntry pl i = s)
    ∧ (e.state = .slipping → x.state.pressed = false → s.reconcileEntry pl i = s)
    ∧ (x.state.pressed = true → (s.pad pad).profile.stuckLimit ≠ 0 → 2000 * (s.pad pad).profile.stuckLimit ≤ x.stuck →
      (s.judge pl).firstIn l .held = some i → judged < settle →
      judged < min 8388607 (s.clock.songTime + q.grace + s.laneDOn pl l + 1) →
      ∃ t, exec (.stuckRelease pad p) s = .next t
        ∧ t.entry pl i = { e with
            state := .slipping, slip := some s.clock.songTime, flags := { e.flags with forced := true } }
        ∧ t.scoreUnit pl = { s.scoreUnit pl with flags := (s.scoreUnit pl).flags ||| 0x100 }
        ∧ (t.judge pl).lane l = (s.judge pl).lane l ∧ (∀ k, k ≠ i → t.entry pl k = s.entry pl k)
        ∧ ((t.pad pad).panels.get p).state = .up ∧ Keeps [.pad pad, .judge pl, .score pl] s t)
    ∧ (∀ c : SensorId, let y := (s.pad pad).sensors.get (channel p c)
      x.state.pressed = true → (s.pad pad).profile.enables.getLsbD (4 * p.val + c.val) = true → y.healthy = true →
      64 ≤ y.failRun → (∀ k ∈ (s.pad pad).healthyOf p, k = c) → (s.judge pl).firstIn l .held = some i →
      judged < settle → judged < min 8388607 (s.clock.songTime + q.grace + s.laneDOn pl l + 1) →
      ∃ t, exec (.sensorFail ⟨pad, p, c⟩) s = .next t
        ∧ t.entry pl i = { e with
            state := .slipping, slip := some s.clock.songTime, flags := { e.flags with forced := true } }
        ∧ t.scoreUnit pl = { s.scoreUnit pl with flags := (s.scoreUnit pl).flags ||| 0x180 }
        ∧ (t.judge pl).lane l = (s.judge pl).lane l ∧ (∀ k, k ≠ i → t.entry pl k = s.entry pl k)
        ∧ t.pad pad = { s.pad pad with
            sensors := (s.pad pad).sensors.set (channel p c) { y with healthy := false, failRun := 0, recoverRun := 0 },
            panels := (s.pad pad).panels.set p { x with
              state := .dead, confirm := 0, stuck := 0, load := 0, lastRelease := s.clock.songTime } }
        ∧ Logged s t .sensorFail (some pl) (match pad with | .pad0 => 0 | .pad1 => 1) (4 * p.val + c.val)
            s.clock.songTime 0x80
        ∧ Keeps [.pad pad, .judge pl, .score pl, .notice, .fault] s t))
  ∧ (∀ (s : State) (first pl : Player) (pad : PadId) (p : PanelId) (i : Nat), s.run = .operating →
    s.clock.state = .paused → s.clock.change = .resume → s.clock.held = none → (s.session pl).state = .playing →
    (s.session pl.other).state ≠ .playing → (s.scoreUnit pl).outcome ≠ .failed →
    s.laneTargetOf pl (s.entry pl i).record.lane = some (pad, p) →
    (∀ k, k ≠ i → (s.entry pl k).state ≠ .held ∧ (s.entry pl k).state ≠ .slipping) →
    let e := s.entry pl i
    let pressed := ((s.pad pad).panels.get p).state.pressed
    let settle := min 8388607 (e.record.time + e.record.length + (s.params pl).offset + s.laneDOff pl e.record.lane + 1)
    let reconciles (c : Instr) : Prop := ∃ t, exec c s = .next t ∧ t.clock.state = .running
      ∧ ((s.judge pl).judged < settle → ∀ k, k ≠ i → t.entry pl k = s.entry pl k)
      ∧ (e.state = .held → pressed = false →
        t.entry pl i = { e with state := .slipping, slip := some s.clock.songTime })
      ∧ (e.state = .held → pressed = true → t.entry pl i = e)
      ∧ (e.state = .slipping → pressed = false → t.entry pl i = e)
      ∧ (e.state = .slipping → pressed = true → (s.judge pl).judged < settle →
        t.entry pl i = { e with state := .held, slip := none } ∧ ((t.pad pad).panels.get p).holdActive = true)
    (s.clock.taking = true → s.clock.phase = 32 ∨ (6 ≤ s.clock.phase ∧ s.clock.phase ≤ 10) → reconciles (.syncPulse first))
      ∧ (s.clock.wait = 32 → reconciles (.resumeFallback first)))

/-- A chord member that gets its own grade reports it: members judged rises and the worst grade is kept, in the order
APEX, SOLID, FAIR, THIN, LAPSE, VOID; the last report settles the chord, one settlement of its unit with the worst
grade, the unit grade in every member, the JUDGED members FINAL and queued in member order, members still HELD or SLIPPING as
they are, and the table entry free (R109, R110, R111, R112). The member is a TAP or a HOLD: its lapse due is reached and it
reports LAPSE, a HOLD settling its tail DROPPED after it (R88, R103; LAPSE_DUE while a value handed over is served, log entry
3); or a press grades it APEX to THIN, and a HOLD is HELD after it with its panel's hold active (R80, R81, R82, R83; no hold
slipping and no avoid note struck in the lane, the hold's settle due not yet reached; the panel's confirm count of 0, log entry
13); or it opens a chord or joins one late and reports VOID, a HOLD's tail being VOID too (R63; by the read's end or a retry, log
entry 8; the chord table entry that is taken, log entry 15; the poll count of 0 at LINK_POLL, log entry 25; the blank fields of
its entry, log entry 10). The press sends its GRADE trigger, the lapse none (R81, R88). The player is not failed by it. -/
def Obligations.ChordsSettleWithWorstGrade : Prop :=
  (∀ (s : State) (pl : Player) (i : Nat) (k : Fin 8) (c : Chord), s.run = .operating → (s.session pl).state = .playing →
    s.clock.state = .running → (s.entry pl i).state = .waiting →
    (s.entry pl i).chord = some k → s.chord pl k = some c → i ∈ c.members →
    c.members.Nodup → (∀ g, c.worst = some g → g ∈ gradeOrder) →
    let e := s.entry pl i
    let q := s.params pl
    let judged := c.members.filter (fun m => (s.entry pl m).state = .judged)
    let judgedOrThis := c.members.filter (fun m => m = i ∨ (s.entry pl m).state = .judged)
    let left (t : State) : Prop := ∀ l, (t.judge pl).lane l =
      if l = e.record.lane then ((s.judge pl).lane l).erase i else (s.judge pl).lane l
    -- `mine` is this entry before its chord settles, `queued` the entries that are FINAL when the chord settles, `tail` the
    -- settlement of a lapsed hold's tail, `rest` what else holds
    let reports (instr : Instr) (own : Grade) (mine : Entry) (queued : List Nat) (counted : Score) (tail : Score → Score)
        (rest : State → Prop) (more : List Part) : Prop :=
      ∀ worst, WorstOf c.worst own worst →
        (c.judged + 1 ≠ c.expected → (tail counted).outcome ≠ .failed → ∃ t, exec instr s = .next t
          ∧ t.entry pl i = mine
          ∧ t.chord pl k = some { c with judged := c.judged + 1, worst := some worst }
          ∧ t.scoreUnit pl = tail counted ∧ (∀ m, m ≠ i → t.entry pl m = s.entry pl m) ∧ rest t
          ∧ Keeps ([.judge pl, .score pl, .fetcher pl] ++ more) s t)
        ∧ (c.judged + 1 = c.expected →
          (∀ m ∈ c.members, m ≠ i → (s.entry pl m).state ∈ [.judged, .held, .slipping]) →
          let settled := tail (counted.apply (UnitSettlement q c.unit worst))
          settled.outcome ≠ .failed → ∃ t, exec instr s = .next t ∧ t.scoreUnit pl = settled ∧ t.chord pl k = none
            ∧ t.entry pl i = { mine with
                state := if mine.state = .judged then .final else mine.state, unitGrade := worst, chord := none }
            ∧ (∀ m ∈ c.members, m ≠ i → t.entry pl m = { s.entry pl m with
                state := if (s.entry pl m).state = .judged then .final else (s.entry pl m).state,
                unitGrade := worst, chord := none })
            ∧ t.writer pl = { s.writer pl with queue := (s.writer pl).queue ++ queued.map WriteItem.result }
            ∧ (∀ m, m ∉ c.members → t.entry pl m = s.entry pl m) ∧ rest t
            ∧ Keeps ([.judge pl, .score pl, .writer pl, .fetcher pl] ++ more) s t)
    ((s.judge pl).serving = true →
      min 8388607 (e.record.time + q.offset + q.thin.late + s.laneDOn pl e.record.lane + 1) ≤ (s.judge pl).judged →
      (e.record.kind = .tap → reports (.lapseDue pl i) .lapse { e with state := .judged, own := .lapse, offset := 0 }
        judgedOrThis (s.scoreUnit pl) id left [])
      ∧ (∀ v, e.record.kind = .hold → e.tailUnit = some v →
        reports (.lapseDue pl i) .lapse { e with state := .judged, own := .lapse, tail := .dropped, offset := 0 }
          (judged ++ [i]) (s.scoreUnit pl) (fun score => score.apply (.unit v .dropped 0 0 .break)) left []))
    ∧ (∀ (pad : PadId) (p : PanelId) (l : Nat) (front back : List Nat), (s.pad pad).state = .active →
      p.val < (s.pad pad).profile.panelCount → s.owner pad = some pl → ((s.pad pad).panels.get p).state = .rising →
      (s.pad pad).profile.dOn + 1 ≤ ((s.pad pad).panels.get p).confirm → s.laneOf pl pad p = some l →
      (s.judge pl).lane l = front ++ i :: back → e.record.lane = l →
      let x := (s.pad pad).panels.get p
      let offset (m : Nat) : Int := x.riseStamp - ((s.entry pl m).record.time + q.offset)
      let within (row : GradeRow) (d : Int) : Prop := -(row.early : Int) ≤ d ∧ d ≤ row.late
      let d := offset i
      let grade := if within q.apex d then Grade.apex else if within q.solid d then .solid
        else if within q.fair d then .fair else .thin
      let down (t : State) (holdActive : Bool) : Prop :=
        (t.pad pad).panels = (s.pad pad).panels.set p
            { x with state := .down, lastPress := x.riseStamp, confirm := 0, stuck := 0, holdActive }
          ∧ t.lamps = (s.trigger pl .grade e.record.cue pad p).lamps
      (∀ m ∈ (s.judge pl).lane l, (s.entry pl m).state ≠ .slipping ∧ ((s.entry pl m).state = .watching →
        offset m < -(q.avoidWindow : Int) ∨ (q.avoidWindow : Int) < offset m)) →
      (∀ m ∈ front, (s.entry pl m).state = .waiting → ¬ within q.thin (offset m)) → within q.thin d → i ∉ front →
      (e.record.kind = .tap →
        reports (.pressConfirm pad p) grade { e with state := .judged, own := grade, offset := d }
          judgedOrThis ((s.scoreUnit pl).takeOffset d) id (fun t => left t ∧ down t x.holdActive) [.pad pad, .lamps])
      ∧ (e.record.kind = .hold →
        (s.judge pl).judged < min 8388607 (e.record.time + e.record.length + q.offset + s.laneDOff pl l + 1) →
        reports (.pressConfirm pad p) grade { e with state := .held, own := grade, offset := d, slip := none }
          judged ((s.scoreUnit pl).takeOffset d) id
          (fun t => (∀ k, (t.judge pl).lane k = (s.judge pl).lane k) ∧ down t true) [.pad pad, .lamps])))
  ∧ (∀ (s : State) (pl : Player) (i : Nat) (x : NoteRecord), (s.fetcher pl).reserved = some i →
    i < (s.judge pl).pool.length → (s.session pl).state = .playing → (s.scoreUnit pl).outcome ≠ .failed →
    x.kind = .tap ∨ x.kind = .hold → 2 ≤ x.chord → (s.fetcher pl).unitCounter ≤ 65533 →
    (s.scoreUnit pl).assigned ≤ 65535 →
    min 8388607 (x.time + (s.params pl).offset + (s.params pl).thin.late + s.laneDOn pl x.lane + 1)
      ≤ s.clock.songTime →
    let f := s.fetcher pl
    -- the Score Unit with this many units more assigned, after the chord's VOID settlement, if any, and the tail's
    let scored (units : Nat) (chordVoid : Score → Score) (tailUnit : Nat) : Score :=
      let c := chordVoid { s.scoreUnit pl with
        assigned := min 65535 ((s.scoreUnit pl).assigned + units) }
      let c := if x.kind = .hold then c.apply (.void tailUnit) else c
      { c with flags := c.flags ||| 0x10 }
    let late (instr : Instr) (e : Entry) (more : List Part) : Prop :=
      let voided (unit tailUnit : Nat) : Entry := { e with
        own := .void, offset := 0, flags := { e.flags with lateFetch := true }, unit := some unit,
        tailUnit := if x.kind = .hold then some tailUnit else none, chartNo := f.recordsTaken }
      let taken (t : State) (assembly : Option Assembly) (score : Score) : Prop := exec instr s = .next t
        ∧ TookRecord f (t.fetcher pl) ∧ (t.fetcher pl).assembly = assembly ∧ t.scoreUnit pl = score
        ∧ (t.fetcher pl).starvedLogged = true
        ∧ (if f.starvedLogged then t.fault = s.fault ∧ t.notice = s.notice
          else Logged s t .starved (some pl) f.seq f.index s.clock.songTime 0)
        ∧ (∀ l, (t.judge pl).lane l = (s.judge pl).lane l) ∧ (.bus ∈ more → t.bus = Freed s.bus)
        ∧ Keeps ([.judge pl, .fetcher pl, .score pl, .writer pl, .notice, .fault] ++ more) s t
      let unchanged (t : State) : Prop := t.writer pl = s.writer pl
        ∧ ∀ m, m ≠ i → (s.entry pl m).state ≠ .free → t.entry pl m = s.entry pl m
      let tails := if x.kind = .hold then 1 else 0
      (∀ k, f.assembly = none → s.chord pl k = none → (∀ j < k, s.chord pl j ≠ none) →
        ∃ t, taken t (some ⟨k, x.chord, x.time, [x.lane], 1⟩) (scored (1 + tails) id (f.unitCounter + 1))
          ∧ t.entry pl i = { voided f.unitCounter (f.unitCounter + 1) with state := .judged, chord := some k }
          ∧ t.chord pl k = some ⟨f.unitCounter, x.chord, 1, some .void, [i]⟩ ∧ unchanged t)
      ∧ (∀ a c, f.assembly = some a → x.chord = a.size → x.time = a.time → x.lane ∉ a.lanes →
        s.chord pl a.chord = some c → i ∉ c.members → c.members.Nodup → (∀ g, c.worst = some g → g ∈ gradeOrder) →
        let assembly := if a.found + 1 = a.size then none
          else some { a with lanes := a.lanes ++ [x.lane], found := a.found + 1 }
        (c.judged + 1 ≠ c.expected → ∃ t, taken t assembly (scored tails id f.unitCounter)
          ∧ t.entry pl i = { voided c.unit f.unitCounter with state := .judged, chord := some a.chord }
          ∧ t.chord pl a.chord = some { c with
              members := c.members ++ [i], judged := c.judged + 1, worst := some .void } ∧ unchanged t)
        ∧ (c.judged + 1 = c.expected → (∀ m ∈ c.members, (s.entry pl m).state ∈ [.judged, .held, .slipping]) →
          ∃ t, taken t assembly (scored tails (fun score => score.apply (.void c.unit)) f.unitCounter)
            ∧ t.entry pl i = { voided c.unit f.unitCounter with state := .final, unitGrade := .void, chord := none }
            ∧ t.chord pl a.chord = none
            ∧ (∀ m ∈ c.members, t.entry pl m = { s.entry pl m with
                state := if (s.entry pl m).state = .judged then .final else (s.entry pl m).state,
                unitGrade := .void, chord := none })
            ∧ t.writer pl = { s.writer pl with queue := (s.writer pl).queue
                ++ (c.members.filter (fun m => (s.entry pl m).state = .judged)).map WriteItem.result ++ [.result i] }))
    (∀ r d flags, Carrying s (.fetch pl .record) → f.read = some r → r.discard = false → f.state = .fetching →
      f.recordFault (s.session pl).laneCount (parseRecord d) = none → repairRecord (parseRecord d) = (x, flags) →
      late (.recordReadDone pl (some d)) { Entry.blank with
        record := x, addr := f.page + 0x10 + 16 * f.index, tracker := f.seq, slot := f.index, flags } [.bus])
    ∧ (s.run = .operating → f.state = .stalled → f.roomReport = true → (s.entry pl i).record = x →
      (s.entry pl i).tailUnit = none → late (.stalledRecordRetry pl) (s.entry pl i) []))

/-- A player failed by a settlement enters CLOSING at the end of the step, with outcome FAILED (R113, R124, R152);
CLOSING leaves no entry unfinished and the chord table empty, and stops the fetcher (R68, R114, R115; at the lapse due of a
TAP standing alone, LAPSE_DUE while a value handed over is served, log entry 3; what one step of the judge is, log entry
22). -/
def Obligations.FailureClosesStage : Prop :=
  ∀ (s : State) (pl : Player) (i u : Nat), s.run = .operating → (s.session pl).state = .playing →
    s.clock.state = .running → (s.judge pl).serving = true → (s.entry pl i).state = .waiting →
    (s.entry pl i).record.kind = .tap → (s.entry pl i).chord = none → (s.entry pl i).unit = some u → (s.fetcher pl).reserved ≠ some i →
    min 8388607 ((s.entry pl i).record.time + (s.params pl).offset + (s.params pl).thin.late
      + s.laneDOn pl (s.entry pl i).record.lane + 1) ≤ (s.judge pl).judged →
    (s.scoreUnit pl).outcome = .none → (s.scoreUnit pl).noFail = false →
    (s.scoreUnit pl).life + (s.params pl).lapseDelta ≤ 0 →
    ∃ t, exec (.lapseDue pl i) s = .next t ∧ (t.session pl).state = .closing ∧ (t.scoreUnit pl).outcome = .failed
      ∧ (t.scoreUnit pl).life = 0 ∧ (t.entry pl i).own = .lapse ∧ (t.entry pl i).state = .final
      ∧ (∀ k < (t.judge pl).pool.length, (t.entry pl k).state ∈ [.free, .reserved, .final])
      ∧ (∀ k, t.chord pl k = none)
      ∧ (t.fetcher pl).state ∈ [.idle, .ended, .halted] ∧ (t.fetcher pl).reserved = none
      ∧ (t.fetcher pl).inHand = none ∧ (t.fetcher pl).assembly = none

/-! ### Score Unit (R117 to R128) -/

/-- One settlement, applied whole. A unit settlement counts unless the settled total has reached units assigned,
earns floor(worth × fraction / 64) below N, adds its delta clamped to 0..1000 unless the outcome is FAILED, changes
combo and max combo, and at life 0 fails the player or sets LIFE_FLOOR; a VOID settlement only counts; an avoid
settlement counts and moves life. An index at or above N, or a full total, sets UNIT_OVERRUN (R119 to R128). -/
def Obligations.ScoreTakesSettlement : Prop :=
  ∀ (c : Score),
    let total := c.apex + c.solid + c.fair + c.thin + c.lapse + c.held + c.dropped + c.voided
    let more (n : Nat) : Nat := min 65535 (n + 1)
    let life (delta : Int) : Int := if c.outcome = .failed then c.life else max 0 (min 1000 (c.life + delta))
    let outcome (delta : Int) : StageOutcome :=
      if life delta = 0 ∧ c.noFail = false ∧ c.outcome = .none then .failed else c.outcome
    let floor (delta : Int) : BitVec 16 := if life delta = 0 ∧ c.noFail = true then 0x40 else 0
    let overrun (index : Nat) : BitVec 16 := if total = c.assigned ∨ c.n ≤ index then 0x08 else 0
    (∀ (index : Nat) (k : UnitCount) (fraction : Nat) (delta : Int) (action : ComboAction),
      let count (n : Nat) (mine : UnitCount) : Nat := if total ≠ c.assigned ∧ k = mine then more n else n
      let combo := match action with | .add => more c.combo | .keep => c.combo | .break => 0
      let worth := c.unitValue + if index < c.remainder then 1 else 0
      c.apply (.unit index k fraction delta action) =
        { c with
          apex := count c.apex .apex, solid := count c.solid .solid, fair := count c.fair .fair,
          thin := count c.thin .thin, lapse := count c.lapse .lapse, held := count c.held .held,
          dropped := count c.dropped .dropped,
          score := c.score + if index < c.n then worth * fraction / 64 else 0,
          life := life delta, combo, maxCombo := max c.maxCombo combo, outcome := outcome delta,
          flags := c.flags ||| overrun index ||| floor delta })
    ∧ (∀ index : Nat, c.apply (.void index) =
        { c with
          voided := if total ≠ c.assigned then more c.voided else c.voided, flags := c.flags ||| overrun index })
    ∧ (∀ delta : Int, c.apply (.struck delta) =
        { c with
          struck := more c.struck, life := life delta, outcome := outcome delta, flags := c.flags ||| floor delta })
    ∧ c.apply .avoided =
        { c with avoided := more c.avoided, life := life 0, outcome := outcome 0, flags := c.flags ||| floor 0 }

/-- A stage starts with the start life, no score, combo, count or flag, and units whose worths add up to 1,000,000:
the first Rm units are worth V + 1, the others V (R117, R118). The judge fields of a descriptor, clamped, with each
row's limits raised to those of the row above it (R75, R76, the fields of chapter 11). -/
def Obligations.StageStart : Prop :=
  (∀ (n : Nat) (noFail : Bool) (life : Int), 0 < n → n ≤ 65535 →
    let c := Score.start n noFail life
    c = { Score.clear .none with
          n, noFail, startLife := life, life, unitValue := 1000000 / n, remainder := 1000000 % n }
      ∧ c.remainder ≤ n - 1 ∧ 15 ≤ c.unitValue ∧ c.unitValue ≤ 1000000
      ∧ ((List.range n).map (fun i => c.unitValue + if i < c.remainder then 1 else 0)).sum = 1000000)
  ∧ (∀ d : BitVec 640,
    let p := parseParams d
    let limit (off : Nat) : Nat := min 2047 (fieldAt d off 2)
    let delta (off : Nat) : Int := max (-1000) (min 1000 (signedAt d off 2))
    let row (r : GradeRow) (off : Nat) : Prop := r.fraction = min 64 (fieldAt d (off + 4) 1)
      ∧ r.action = (if fieldAt d (off + 5) 1 = 0 then .add else if fieldAt d (off + 5) 1 = 1 then .keep else .break)
      ∧ r.delta = delta (off + 6)
    p.offset = max (-1024) (min 1023 (signedAt d 0x1A 2))
      ∧ row p.apex 0x20 ∧ row p.solid 0x28 ∧ row p.fair 0x30 ∧ row p.thin 0x38
      ∧ p.apex.early = limit 0x20 ∧ p.apex.late = limit 0x22
      ∧ p.solid.early = max (limit 0x28) p.apex.early ∧ p.solid.late = max (limit 0x2A) p.apex.late
      ∧ p.fair.early = max (limit 0x30) p.solid.early ∧ p.fair.late = max (limit 0x32) p.solid.late
      ∧ p.thin.early = max (limit 0x38) p.fair.early ∧ p.thin.late = max (limit 0x3A) p.fair.late
      ∧ p.apex.early ≤ p.solid.early ∧ p.solid.early ≤ p.fair.early ∧ p.fair.early ≤ p.thin.early
      ∧ p.apex.late ≤ p.solid.late ∧ p.solid.late ≤ p.fair.late ∧ p.fair.late ≤ p.thin.late ∧ p.thin.late ≤ 2047
      ∧ p.lapseDelta = delta 0x40 ∧ p.heldDelta = delta 0x42 ∧ p.droppedDelta = delta 0x44
      ∧ p.struckDelta = delta 0x46 ∧ p.depth = max 1 (min 8 (fieldAt d 0x03 1))
      ∧ p.grace = limit 0x1C ∧ p.avoidWindow = fieldAt d 0x1E 1)

/-! ### Player sessions (R137 to R158, R173) -/

/-- ARM, ABANDON and REFRESH_NOW by the player's state. ARM: ARMING with the descriptor asked for, else BUSY with
result 1. ABANDON: OK with the outcome's code in IDLE and DONE, BUSY in ARMING, else it waits for DONE, and takes an
ARMED or PLAYING player into CLOSING with ABORTED. REFRESH_NOW: a NOW job (R137, R140, R150, R151, R152, R154, R173). -/
def Obligations.PlayerRequestsAreTaken : Prop :=
  ∀ (s : State) (pl : Player) (w : SlotWords), FreshRead s (slotOf pl) w →
    let x := s.session pl
    let code := BitVec.ofNat 32 (s.scoreUnit pl).outcome.code
    let atOnce (c : Instr) (status : Status) (result : Word) : Prop := ∃ t, exec c s = .next t
      ∧ Completed s t (slotOf pl) w.tag status result ∧ t.bus = Freed s.bus ∧ Keeps readerParts s t
    let executes (t : State) (kind : BitVec 16) : Prop :=
      (t.slot (slotOf pl)).executing = some ⟨w.tag, kind, w.arg0, w.arg1⟩ ∧ t.bus = Freed s.bus
    let quiet : Prop := (∀ k, (s.entry pl k).state ∈ [.free, .final]) ∧ (∀ k, s.chord pl k = none)
      ∧ (s.fetcher pl).reserved = none ∧ (s.fetcher pl).read = none ∧ (s.writer pl).queue = []
      ∧ (s.writer pl).inFlight = none
    (x.state ∈ [.idle, .done] → ∃ t, exec (.arm pl w) s = .next t ∧ executes t 8
      ∧ t.session pl = { x with returnState := some x.state, state := .arming }
      ∧ Asked s t (.descriptor pl w.arg0.toNat) ∧ Keeps (readerParts ++ [.session pl]) s t)
    ∧ (x.state ∉ [.idle, .done] → atOnce (.arm pl w) .busy 1)
    ∧ (x.state ∈ [.idle, .done] → atOnce (.abandon pl w) .ok code)
    ∧ (x.state = .arming → atOnce (.abandon pl w) .busy 0)
    ∧ (x.state = .closing → ∃ t, exec (.abandon pl w) s = .next t ∧ executes t 9
      ∧ t.session pl = { x with waitingAbandon := some w.tag } ∧ AskedNothing s t
      ∧ Keeps (readerParts ++ [.session pl]) s t)
    ∧ (x.state ∈ [.armed, .playing] → ∃ t, exec (.abandon pl w) s = .next t ∧ executes t 9 ∧ AskedNothing s t
      ∧ t.session pl =
          { x with waitingAbandon := some w.tag, state := .closing, finalAsked := (t.session pl).finalAsked }
      ∧ (t.scoreUnit pl).outcome = (if (s.scoreUnit pl).outcome = .none then .aborted else (s.scoreUnit pl).outcome)
      ∧ (t.scoreUnit pl).score = (s.scoreUnit pl).score ∧ (t.scoreUnit pl).life = (s.scoreUnit pl).life
      ∧ (t.scoreUnit pl).combo = (s.scoreUnit pl).combo
      ∧ (∀ k, (t.entry pl k).state ∈ [.free, .reserved, .final]) ∧ (∀ k, t.chord pl k = none)
      ∧ (quiet → (t.session pl).finalAsked = true
        ∧ t.refresh = { s.refresh with jobs := s.refresh.jobs ++ [⟨.final pl, [.finalBoard pl], false⟩] })
      ∧ Keeps (readerParts ++ [.session pl, .score pl, .fetcher pl, .judge pl, .writer pl, .refresh, .pad .pad0,
          .pad .pad1]) s t)
    ∧ ∃ t, exec (.refreshNow pl w) s = .next t ∧ executes t 10 ∧ AskedNothing s t
      ∧ t.refresh = { s.refresh with jobs := s.refresh.jobs ++ [⟨.now pl, [.nowHold pl], false⟩] }
      ∧ Keeps (readerParts ++ [.refresh]) s t

/-- The end of a descriptor read. The first failing check of R141 refuses the ARM with its status and its number, and
the player returns to its return state; with none failing, the stage is set up: session, ownership, Score Unit,
judge, fetcher, Write-back Unit, ARMED with result 0 or PLAYING with result 1 (R45, R70, R93, R117, R138, R141 to
R145, R147, R165; that a FREE pool entry stands blank is log entry 10). A profile read asked for and not yet ended learns that
its pad has become owned (R32, R139, R146). -/
def Obligations.DescriptorDecidesArm : Prop :=
  ∀ (s : State) (pl : Player) (a : Nat) (r : Request) (back : PlayerState),
    Carrying s (.request (.descriptor pl a)) → (s.slot (slotOf pl)).executing = some r →
    (s.session pl).returnState = some back →
    let refused (t : State) (status : Status) (check : Nat) : Prop := t.bus = Freed s.bus
      ∧ t.session pl = { s.session pl with state := back, returnState := none }
      ∧ CompletedExecuting s t (slotOf pl) status (BitVec.ofNat 32 check)
    let touched : List Part := [.bus, .work, .slot (slotOf pl), .session pl]
    (∃ t, exec (.descriptorReadDone pl none) s = .next t ∧ refused t .busFault 2
      ∧ Logged s t .busRead (some pl) 0 0 s.clock.songTime 0 ∧ Keeps (touched ++ [.notice, .fault]) s t)
    ∧ ∀ d : BitVec 640,
      let set := fieldAt d 0x00 1
      let pads : List PadId := if set = 0 then [.pad0] else if set = 1 then [.pad1] else [.pad0, .pad1]
      let lanes := fieldAt d 0x01 1
      let named (l : Nat) : Nat := fieldAt d (0x04 + l) 1
      let n := fieldAt d 0x16 2
      let page := fieldAt d 0x10 4
      let seq := fieldAt d 0x14 2
      let life : Int := max 1 (min 1000 (fieldAt d 0x18 2))
      let armed : Prop := s.clock.state = .idle ∨ s.clock.state = .starting
      let claimed : State := s.setWork (s.work.map (fun w => match w with
        | .profile pad addr was => .profile pad addr (was || decide (pad ∈ pads))
        | w => w))
      let fails : List (Prop × Status) :=
        [(2 < set, .badArg), (∃ i ∈ pads, (s.pad i).state = .unconfigured, .noProfile),
          (∃ i ∈ pads, (s.pad i).state = .calibrating, .busy), (∃ i ∈ pads, s.owner i = some pl.other, .padBusy),
          (set = 2 ∧ (s.session pl.other).state ∉ [.idle, .done], .padBusy),
          (lanes = 0 ∨ 12 < lanes ∨ (pads.map (fun i => (s.pad i).profile.panelCount)).sum < lanes, .badArg),
          (∃ l < lanes, ¬ ∃ i ∈ pads, named l / 16 = padNumber i ∧ named l % 16 < min 6 (s.pad i).profile.panelCount,
            .badArg),
          (∃ l < lanes, ∃ k < l, named l = named k, .badArg), (n = 0, .badArg),
          (¬ (page % 16 = 0 ∧ s.window.low ≤ page ∧ page + 511 ≤ s.window.high), .badArg)]
      (∀ k fail status, fails[k]? = some (fail, status) → (∀ j x, j < k → fails[j]? = some x → ¬ x.1) → fail →
        ∃ t, exec (.descriptorReadDone pl (some d)) s = .next t ∧ refused t status (k + 3) ∧ Keeps touched s t)
      ∧ ((∀ x ∈ fails, ¬ x.1) → ∃ t, exec (.descriptorReadDone pl (some d)) s = .next t ∧ t.bus = Freed s.bus
        ∧ (armed → (t.session pl).state = .armed ∧ CompletedExecuting claimed t (slotOf pl) .ok 0)
        ∧ (¬ armed → (t.session pl).state = .playing ∧ CompletedExecuting claimed t (slotOf pl) .ok 1)
        ∧ (t.session pl).returnState = none ∧ (t.session pl).laneCount = lanes
        ∧ (t.session pl).padSet = some (if set = 0 then .pad0 else if set = 1 then .pad1 else .double)
        ∧ (∀ l, ((t.session pl).laneMap.get l).toNat = named l.val)
        ∧ (t.session pl).firstPage = page ∧ (t.session pl).firstSeq = seq
        ∧ (t.session pl).waitingAbandon = (s.session pl).waitingAbandon
        ∧ (∀ i, t.owner i = if i ∈ pads then some pl else s.owner i)
        ∧ (∀ i, t.pad i = if i ∈ pads then (s.pad i).clearHolds else s.pad i)
        ∧ t.scoreUnit pl = Score.start n (decide (fieldAt d 0x02 1 ≠ 0)) life
        ∧ t.judge pl = Judge.empty (if set = 2 then 128 else 64) (parseParams d) s.clock.songTime
        ∧ t.judge pl.other = (if set = 2 then { s.judge pl.other with pool := [] } else s.judge pl.other)
        ∧ t.writer pl = ⟨[], none, false, (seq + 65535) % 65536⟩
        ∧ t.fetcher pl = { Fetcher.reset with state := .pageWait, page, seq, read := some ⟨.header, page, false⟩ }
        ∧ Keeps (touched ++ [.owner .pad0, .owner .pad1, .pad .pad0, .pad .pad1, .score pl, .judge .p0, .judge .p1,
            .writer pl, .fetcher pl]) s t)

/-! ### The slot protocol (R193, R194, R198) -/

/-- The ends of a slot read that take no request: an unknown kind completes with UNKNOWN_KIND and the code read, or is held
back behind a waiting song request; a stale read does nothing; a bus error logs BUS_READ with the slot's player and executes
nothing (R10, R193). The re-read after a further ATTN is DEDUCED (log entry 30). That UNKNOWN_KIND with a kind the slot
takes, and STALE_REQUEST with a read that is not stale, change nothing is the model's choice (log entries 6 and 2). -/
def Obligations.SlotReadsEnd : Prop :=
  ∀ (s : State) (slot : SlotId) (kind : BitVec 16) (w : SlotWords),
    let taken : List (BitVec 16) := if slot = .slot0 then [1, 2, 3, 4, 5, 6, 7] else [8, 9, 10]
    let stale : Prop := w.tag = w.doneTag ∨ (slot = .slot0 ∧ ∃ r, s.clock.waiting = some r ∧ r.tag = w.tag)
    let waits : Prop := slot = .slot0 ∧ s.clock.waiting ≠ none
    let player : Option Player := match slot with | .slot0 => none | .slot1 => some .p0 | .slot2 => some .p1
    let nothingTaken (t : State) : Prop := t.bus = Freed s.bus ∧ AskedNothing s t
      ∧ (∀ i, (t.slot i).executing = (s.slot i).executing ∧ (t.slot i).unwritten = (s.slot i).unwritten
        ∧ (t.slot i).attention = (s.slot i).attention)
      ∧ ((s.slot slot).attention = false → (t.slot slot).readInFlight = false ∧ .slotRead slot ∉ t.work.drop s.work.length)
      ∧ ((s.slot slot).attention = true → (s.slot slot).executing = none → (s.slot slot).unwritten = 0 →
        (slot = .slot0 → s.clock.held = none) → (t.slot slot).readInFlight = true ∧ .slotRead slot ∈ t.work)
    (Carrying s (.request (.slotRead slot)) → kind ∉ taken → ¬ stale →
      (¬ waits → ∃ t, exec (.unknownKind slot kind w) s = .next t
        ∧ Completed s t slot w.tag .unknownKind (kind.setWidth 32) ∧ t.bus = Freed s.bus ∧ Keeps readerParts s t)
      ∧ (waits → ∃ t, exec (.unknownKind slot kind w) s = .next t
        ∧ t.clock = { s.clock with held := some ⟨w.tag, kind, w.arg0, w.arg1⟩ } ∧ t.bus = Freed s.bus
        ∧ AskedNothing s t ∧ Keeps (readerParts ++ [.clock]) s t))
    ∧ (kind ∈ taken → exec (.unknownKind slot kind w) s = .next s)
    ∧ (Carrying s (.request (.slotRead slot)) → stale → ∃ t, exec (.staleRequest slot w) s = .next t ∧ nothingTaken t
      ∧ Keeps readerParts s t)
    ∧ (¬ stale → exec (.staleRequest slot w) s = .next s)
    ∧ (Carrying s (.request (.slotRead slot)) → ∃ t, exec (.slotReadFault slot) s = .next t ∧ nothingTaken t
      ∧ Logged s t .busRead player 0 0 s.clock.songTime 0 ∧ Keeps (readerParts ++ [.notice, .fault]) s t)

/-- The end of a completion write: the slot's notice, or a BUS_WRITE fault with the slot's player; unwritten
completions fall by 1, and a slot that becomes ready is read. A fault record write ends with nothing but the bus
freed, a bus error too (R192, R194, R196, R198). -/
def Obligations.CompletionAndFaultWritesEnd : Prop :=
  (∀ (s : State) (slot : SlotId) (status : Status) (tag : BitVec 16) (result : Word),
    Carrying s (.request (.completion slot status tag result)) →
    let bit : BitVec 8 := match slot with | .slot0 => 1 | .slot1 => 2 | .slot2 => 4
    let player : Option Player := match slot with | .slot0 => none | .slot1 => some .p0 | .slot2 => some .p1
    let written (t : State) : Prop := t.bus = Freed s.bus ∧ AskedNothing s t
      ∧ (t.slot slot).unwritten = (s.slot slot).unwritten - 1
      ∧ (∀ i, (t.slot i).executing = (s.slot i).executing ∧ (t.slot i).attention = (s.slot i).attention)
      ∧ ((s.slot slot).attention = true → (s.slot slot).readInFlight = false → (s.slot slot).executing = none →
        (s.slot slot).unwritten = 1 → (slot = .slot0 → s.clock.held = none) →
        (t.slot slot).readInFlight = true ∧ .slotRead slot ∈ t.work)
    (∃ t, exec (.completionWriteDone slot true) s = .next t ∧ written t ∧ t.notice = s.notice ||| bit
      ∧ Keeps (readerParts ++ [.notice]) s t)
    ∧ ∃ t, exec (.completionWriteDone slot false) s = .next t ∧ written t
      ∧ Logged s t .busWrite player 0 0 s.clock.songTime 0 ∧ Keeps (readerParts ++ [.notice, .fault]) s t)
  ∧ ∀ (s : State) (ok : Bool), Carrying s .faultRecord →
    ∃ t, exec (.faultRecordWriteDone ok) s = .next t ∧ t.bus = Freed s.bus ∧ Keeps [.bus] s t

/-! ### Write-back Unit and Refresh Unit (R161 to R174) -/

/-- The end of a result write frees its entry, counts the record written and finalized, and makes the retirement
check; the end of a retirement write drops the oldest page, retires it and checks again. A bus error logs BUS_WRITE
and sets WRITE_LOST besides. A stage that is played out clears, and a closing with nothing left asks for its final
scoreboard (R133, R154, R161 to R164; that the entry freed stands blank is log entry 10). -/
def Obligations.WriteBackEnds : Prop :=
  ∀ (s : State) (pl : Player) (ok : Bool),
    let lost (t : State) (seq index : Nat) : Prop := if ok then t.notice = s.notice ∧ t.fault = s.fault
      else Logged s t .busWrite (some pl) seq index s.clock.songTime 0
    let flags : BitVec 16 := if ok then (s.scoreUnit pl).flags else (s.scoreUnit pl).flags ||| 4
    let checked (tracker : List Track) (w : Writer) : Writer := match tracker with
      | [] => w
      | h :: _ => if w.retirePending = false ∧ h.full = true ∧ h.written = 31 then
          { w with queue := w.queue ++ [.retire h.addr h.seq], retirePending := true } else w
    let held (tracker : List Track) : Prop := ∀ h rest, tracker = h :: rest → ¬ (h.full = true ∧ h.written = 31)
    let asks (t : State) : Prop := (t.session pl).finalAsked = true ∧ (t.session pl).state = .closing
      ∧ t.refresh = { s.refresh with jobs := s.refresh.jobs ++ [⟨.final pl, [.finalBoard pl], false⟩] }
    let last : Prop := (s.session pl).state = .closing ∧ (s.session pl).finalAsked = false
      ∧ (s.writer pl).queue = [] ∧ (s.fetcher pl).read = none
    let touched : List Part := [.bus, .notice, .fault, .score pl, .fetcher pl, .writer pl]
    (∀ i, Carrying s (.result pl i) →
      let c : Instr := if ok then .resultWriteDone pl else .resultWriteError pl
      let e := s.entry pl i
      let tracker := (s.fetcher pl).tracker.map (fun x =>
        if x.seq = e.tracker then { x with written := x.written + 1 } else x)
      ((s.session pl).state ≠ .closing → ((s.session pl).state = .playing → (s.scoreUnit pl).endTime = none) →
        ∃ t, exec c s = .next t ∧ t.bus = Freed s.bus ∧ t.entry pl i = Entry.blank
          ∧ (∀ k, k ≠ i → t.entry pl k = s.entry pl k) ∧ t.fetcher pl = { s.fetcher pl with tracker }
          ∧ t.scoreUnit pl = { s.scoreUnit pl with
              finalized := min 4294967295 ((s.scoreUnit pl).finalized + 1), flags }
          ∧ t.writer pl = checked tracker { s.writer pl with inFlight := none }
          ∧ lost t e.tracker e.slot ∧ Keeps (touched ++ [.judge pl]) s t)
      ∧ (∀ time, (s.session pl).state = .playing → (s.scoreUnit pl).outcome = .none →
        (s.scoreUnit pl).endTime = some time → time ≤ (s.judge pl).judged →
        (∀ k, k ≠ i → (s.entry pl k).state = .free) →
        ∃ t, exec c s = .next t ∧ (t.session pl).state = .closing ∧ (t.scoreUnit pl).outcome = .cleared)
      ∧ (last → held tracker → ∃ t, exec c s = .next t ∧ asks t ∧ t.entry pl i = Entry.blank))
    ∧ (∀ seq, Carrying s (.retire pl seq) →
      let tracker := (s.fetcher pl).tracker.tail
      let retired : Writer :=
        { s.writer pl with inFlight := none, retiredThrough := seq, retirePending := false }
      ((s.session pl).state ≠ .closing → ∃ t, exec (.retirementWriteDone pl ok) s = .next t ∧ t.bus = Freed s.bus
        ∧ t.fetcher pl = { s.fetcher pl with tracker } ∧ t.scoreUnit pl = { s.scoreUnit pl with flags }
        ∧ t.writer pl = checked tracker retired ∧ lost t seq 31 ∧ Keeps touched s t)
      ∧ (last → held tracker → ∃ t, exec (.retirementWriteDone pl ok) s = .next t ∧ asks t
        ∧ (t.fetcher pl).tracker = tracker ∧ (t.writer pl).retiredThrough = seq))

/-- The period, the hold reads and the mirrors. Every round strobe counts the timer; at 8 × period a PERIODIC job joins the
list unless one is there, and the timer starts again. Its hold read leaves the boards of the players whose word is 0 and the
mirrors, or on a bus error the mirrors alone; the mirrors' end ends it with REFRESH. A NOW job's hold read goes on to the
board, or ends it BUSY or BUS_FAULT (R166, R168, R171, R173; log entry 3). -/
def Obligations.RefreshJobsProceed : Prop :=
  ∀ s : State,
    let jobs := s.refresh.jobs
    let job : Job := ⟨.periodic, [.holds], false⟩
    let isPeriodic (j : Job) : Prop := j.kind = .periodic
    (s.run = .operating → 8 * s.refresh.period ≤ s.refresh.timer →
      ((∀ j ∈ jobs, ¬ isPeriodic j) → ∃ t, exec .refreshPeriodDue s = .next t
        ∧ t.refresh = { s.refresh with timer := 0, jobs := jobs ++ [job] } ∧ Keeps [.refresh] s t)
      ∧ (∀ j ∈ jobs, isPeriodic j → ∃ t, exec .refreshPeriodDue s = .next t
        ∧ t.refresh = { s.refresh with timer := 0 } ∧ Keeps [.refresh] s t))
    ∧ (s.refresh.timer < 8 * s.refresh.period → exec .refreshPeriodDue s = .next s)
    ∧ (∀ r order, s.run = .operating → ∃ t, exec (.roundStrobe r order) s = .next t
      ∧ t.refresh.period = s.refresh.period
      ∧ (t.refresh.timer = if 8 * s.refresh.period ≤ s.refresh.timer + 1 then 0 else s.refresh.timer + 1)
      ∧ (8 * s.refresh.period ≤ s.refresh.timer + 1 → (∀ j ∈ jobs, ¬ isPeriodic j) → job ∈ t.refresh.jobs)
      ∧ ((∀ pl, (s.session pl).state = .idle) → t.refresh.jobs =
        if 8 * s.refresh.period ≤ s.refresh.timer + 1 ∧ ∀ j ∈ jobs, j.kind ≠ .periodic then jobs ++ [job] else jobs))
    ∧ (∀ front j back, Carrying s .holds → jobs = front ++ j :: back → isPeriodic j →
      (∀ x ∈ front, ¬ isPeriodic x) →
      (∀ d : BitVec 64, ∃ t, exec (.holdReadDone (some d)) s = .next t ∧ t.bus = Freed s.bus
        ∧ t.refresh = { s.refresh with jobs := front ++ { j with
            todo := (if d.extractLsb' 0 32 = 0 then [.board .p0] else [])
              ++ (if d.extractLsb' 32 32 = 0 then [.board .p1] else []) ++ [.mirrors] } :: back }
        ∧ Keeps [.bus, .refresh] s t)
      ∧ ∃ t, exec (.holdReadDone none) s = .next t ∧ t.bus = Freed s.bus
        ∧ t.refresh = { s.refresh with jobs := front ++ { j with todo := [.mirrors] } :: back }
        ∧ Logged s t .busRead none 0 0 s.clock.songTime 0 ∧ Keeps [.bus, .refresh, .notice, .fault] s t)
    ∧ (∀ front j back, Carrying s .mirrors → jobs = front ++ j :: back → isPeriodic j →
      (∀ x ∈ front, ¬ isPeriodic x) →
      (∃ t, exec (.mirrorWriteDone true) s = .next t ∧ t.bus = Freed s.bus
        ∧ t.refresh = { s.refresh with jobs := front ++ back } ∧ t.notice = s.notice ||| 8
        ∧ Keeps [.bus, .refresh, .notice] s t)
      ∧ ∃ t, exec (.mirrorWriteDone false) s = .next t ∧ t.bus = Freed s.bus
        ∧ t.refresh = { s.refresh with jobs := front ++ back }
        ∧ Logged s t .busWrite none 0 0 s.clock.songTime 8 ∧ Keeps [.bus, .refresh, .notice, .fault] s t)
    ∧ (∀ pl front j back r, Carrying s (.nowHold pl) → jobs = front ++ j :: back → j.kind = .now pl →
      (∀ x ∈ front, x.kind ≠ .now pl) → (s.slot (slotOf pl)).executing = some r →
      let ended (t : State) (status : Status) : Prop := t.bus = Freed s.bus
        ∧ CompletedExecuting s t (slotOf pl) status 0 ∧ t.refresh = { s.refresh with jobs := front ++ back }
      let touched : List Part := [.bus, .refresh, .work, .slot (slotOf pl)]
      (∀ d : BitVec 32, d ≠ 0 → ∃ t, exec (.nowHoldReadDone pl (some d)) s = .next t ∧ ended t .busy
        ∧ Keeps touched s t)
      ∧ (∃ t, exec (.nowHoldReadDone pl (some 0)) s = .next t ∧ t.bus = Freed s.bus
        ∧ t.refresh = { s.refresh with jobs := front ++ { j with todo := [.board pl] } :: back }
        ∧ Keeps [.bus, .refresh] s t)
      ∧ ∃ t, exec (.nowHoldReadDone pl none) s = .next t ∧ ended t .busFault
        ∧ Logged s t .busRead (some pl) 0 0 s.clock.songTime 0 ∧ Keeps (touched ++ [.notice, .fault]) s t)

/-- A scoreboard write that succeeds discards the carried flags; one that fails returns them with WRITE_LOST and logs
BUS_WRITE. A NOW job in progress ends with it, OK or BUS_FAULT with the serial (R170, R172, R173). The end of the
final one makes the player DONE: STAGE, its pads released, the lent pool returned, the tracker emptied, the fetcher
IDLE and a waiting ABANDON completed with the outcome's code (R68, R70, R138, R151, R154; that the entries of a pool returned
stand blank is log entry 10). -/
def Obligations.ScoreboardWritesEnd : Prop :=
  ∀ (s : State) (pl : Player) (serial : Nat) (ok : Bool),
    let carried (t : State) : Prop := t.refresh.carried.get pl = 0
      ∧ t.refresh.carried.get pl.other = s.refresh.carried.get pl.other ∧ t.refresh.serial = s.refresh.serial
      ∧ t.refresh.timer = s.refresh.timer
      ∧ t.scoreUnit pl = { s.scoreUnit pl with
          flags := if ok then (s.scoreUnit pl).flags else (s.scoreUnit pl).flags ||| s.refresh.carried.get pl ||| 4 }
    let reported (t : State) (notices : BitVec 8) : Prop :=
      if ok then t.notice = s.notice ||| notices ∧ t.fault = s.fault
      else Logged s t .busWrite (some pl) 0 0 s.clock.songTime notices
    let touched : List Part := [.bus, .refresh, .score pl, .notice, .fault]
    (∀ front j back, Carrying s (.board pl serial) → s.refresh.jobs = front ++ j :: back → j.started = true →
      (∀ x ∈ front, x.started = true → ∃ p, x.kind = .final p) →
      (j.kind = .periodic → ∃ t, exec (.scoreboardWriteDone pl ok) s = .next t ∧ t.bus = Freed s.bus ∧ carried t
        ∧ t.refresh.jobs = s.refresh.jobs ∧ reported t 0 ∧ Keeps touched s t)
      ∧ (∀ r, j.kind = .now pl → (∀ x ∈ front, x.kind ≠ .now pl) → (s.slot (slotOf pl)).executing = some r →
        ∃ t, exec (.scoreboardWriteDone pl ok) s = .next t ∧ t.bus = Freed s.bus ∧ carried t
          ∧ t.refresh.jobs = front ++ back ∧ reported t 0
          ∧ CompletedExecuting s t (slotOf pl) (if ok then .ok else .busFault) (BitVec.ofNat 32 serial)
          ∧ Keeps (touched ++ [.work, .slot (slotOf pl)]) s t))
    ∧ (∀ front j back, Carrying s (.finalBoard pl serial) → s.refresh.jobs = front ++ j :: back → j.kind = .final pl →
      (∀ x ∈ front, x.kind ≠ .final pl) →
      ∃ t, exec (.finalScoreboardWriteDone pl ok) s = .next t ∧ t.bus = Freed s.bus ∧ carried t
        ∧ t.refresh.jobs = front ++ back ∧ reported t 0x10
        ∧ t.session pl = { s.session pl with state := .done, waitingAbandon := none }
        ∧ (∀ i, t.owner i = if s.owner i = some pl then none else s.owner i)
        ∧ (∀ i, t.pad i = if s.owner i = some pl then (s.pad i).clearHolds else s.pad i)
        ∧ (∀ p, t.judge p = if (s.session pl).padSet = some .double then
            { s.judge p with pool := List.replicate 64 Entry.blank } else s.judge p)
        ∧ t.fetcher pl = { s.fetcher pl with
            tracker := [],
            state := if (s.fetcher pl).state ∈ [.ended, .halted] then .idle else (s.fetcher pl).state }
        ∧ ((s.session pl).waitingAbandon = none → t.work = s.work ∧ t.slot (slotOf pl) = s.slot (slotOf pl))
        ∧ (∀ r, (s.session pl).waitingAbandon ≠ none → (s.slot (slotOf pl)).executing = some r →
          CompletedExecuting s t (slotOf pl) .ok (BitVec.ofNat 32 (match (s.scoreUnit pl).outcome with
            | .none => 0 | .cleared => 1 | .failed => 2 | .aborted => 3 | .faulted => 4)))
        ∧ Keeps (touched ++ [.work, .slot (slotOf pl), .session pl, .owner .pad0, .owner .pad1, .pad .pad0, .pad .pad1,
            .judge .p0, .judge .p1, .fetcher pl]) s t)

/-! ### Lamp Driver (R176 to R182) -/

/-- Which output lights a panel, what a PWM period shows (the twelve periods starting together, log entry 34), what a
trigger does to a panel it acts on, that a BEAT trigger reaches every panel of every pad the player owns and a lane's
trigger its one panel (R74, R181), what a flash that has come to its end leaves, and what a round end forms while no player
plays: base light, countdown and output level (R176, R177, R179, R180, R181, R182; log entry 3). A trigger takes the flash
enables and the flash length that the last round end read (log entry 26), and a round end takes the panel states after its
evaluation (log entry 37). It tests OFF on the panel's present state (log entry 42). -/
def Obligations.LampsShowBaseAndFlash : Prop :=
  (∀ a pad p, (lampOf a pad p).val = if (a = .normal ↔ pad = .pad0) then p.val else 6 + p.val)
  ∧ (∀ s : State, ∃ t, exec .pwmPeriodStart s = .next t
      ∧ (∀ i, t.lamps.active.get i = if s.lamps.enabled then s.lamps.output.get i else 0)
      ∧ (∀ i cycle, t.lampPin i cycle = true ↔ s.lamps.enabled = true ∧ cycle < s.lamps.output.get i)
      ∧ t.lamps = { s.lamps with active := t.lamps.active } ∧ Keeps [.lamps] s t)
  ∧ (∀ (s : State) (pl : Player) (k : Trigger) (level : Nat) (pad : PadId) (p : PanelId),
      let f := (s.lamps.fields.get pad).panels.get p
      let acts : Prop := s.owner pad = some pl ∧ ((s.pad pad).panels.get p).state ≠ .off
        ∧ (match k with | .beat => f.beat | .grade => f.grade | .strike => f.strike) = true
      let t := s.trigger pl k level pad p
      let now := max (s.lamps.panel pad p).level level
      (acts → t.lamps.panel pad p = ⟨(s.lamps.panel pad p).base, now, (s.lamps.fields.get pad).flashLength⟩
        ∧ t.lamps.output.get (lampOf s.lamps.assign pad p) = max (s.lamps.panel pad p).base now
        ∧ (∀ i q, (i, q) ≠ (pad, p) → t.lamps.panel i q = s.lamps.panel i q) ∧ Keeps [.lamps] s t)
      ∧ (¬ acts → t = s))
  ∧ (∀ (s : State) (pl : Player) (level : Nat),
      let t := s.triggerBeat pl level
      Keeps [.lamps] s t ∧ ∀ pad p,
        let x := s.lamps.panel pad p
        let acts : Prop := s.owner pad = some pl ∧ ((s.pad pad).panels.get p).state ≠ .off
          ∧ ((s.lamps.fields.get pad).panels.get p).beat = true
        (acts → t.lamps.panel pad p = ⟨x.base, max x.level level, (s.lamps.fields.get pad).flashLength⟩
          ∧ t.lamps.output.get (lampOf s.lamps.assign pad p) = max x.base (max x.level level))
        ∧ (¬ acts → t.lamps.panel pad p = x
          ∧ t.lamps.output.get (lampOf s.lamps.assign pad p) = s.lamps.output.get (lampOf s.lamps.assign pad p)))
  ∧ (∀ (s : State) (pl : Player) (k : Trigger) (level lane : Nat),
      (∀ pad p, s.laneTargetOf pl lane = some (pad, p) → s.triggerLane pl k level lane = s.trigger pl k level pad p)
      ∧ (s.laneTargetOf pl lane = none → s.triggerLane pl k level lane = s))
  ∧ (∀ (s : State) (pad : PadId) (p : PanelId), s.run = .operating →
      let x := s.lamps.panel pad p
      (x.remaining = 0 → ∃ t, exec (.flashEnd pad p) s = .next t ∧ t.lamps.panel pad p = ⟨x.base, 0, 0⟩
        ∧ (∀ i, t.lamps.output.get i =
            if i = lampOf s.lamps.assign pad p then x.base else s.lamps.output.get i)
        ∧ (∀ i q, (i, q) ≠ (pad, p) → t.lamps.panel i q = s.lamps.panel i q) ∧ Keeps [.lamps] s t)
      ∧ (x.remaining ≠ 0 → exec (.flashEnd pad p) s = .next s))
  ∧ ∀ (s : State) (r : Readings) (order : RoundOrder), s.run = .operating → (∀ pl, (s.session pl).state = .idle) →
      ∃ t, exec (.roundStrobe r order) s = .next t ∧ t.lamps.enabled = true ∧ t.lamps.assign = s.scan.assign
        ∧ ∀ pad p,
          let x := s.lamps.panel pad p
          let panel := ((t.pad pad).panels.get p).state
          let f := ((t.pad pad).lampFields.panels).get p
          let base := if panel = .off then 0 else match f.mode with
            | .dark => 0
            | .steady => f.level
            | .press => if panel = .down ∨ panel = .falling then f.level else 0
          let level := if x.remaining = 1 then 0 else x.level
          t.lamps.panel pad p = ⟨base, level, x.remaining - 1⟩
            ∧ t.lamps.output.get (lampOf s.scan.assign pad p) = max base level
end

