-- ==== Sys2Proof/Laws/Score.lean ====
section
/-! SUPPORT. What each change of a Score Unit keeps: the laws of life, combo and counts (R124, R126, R128), and a score
that never falls (R120). -/

namespace Sys2Proof.Machine

/-- A change of a Score Unit that keeps its laws and never lowers its score. -/
structure ScoreStep (a b : Score) : Prop where
  legal : ScoreLegal a → ScoreLegal b
  score_le : a.score ≤ b.score

namespace ScoreStep

theorem refl (a : Score) : ScoreStep a a := ⟨fun h => h, le_rfl⟩

theorem trans {a b c : Score} (h : ScoreStep a b) (k : ScoreStep b c) : ScoreStep a c :=
  ⟨fun x => k.legal (h.legal x), h.score_le.trans k.score_le⟩

/-- A change outside the fields that the laws speak of. -/
theorem of_same {a b : Score} (life : b.life = a.life) (outcome : b.outcome = a.outcome) (combo : b.combo = a.combo)
    (maxCombo : b.maxCombo = a.maxCombo) (total : b.settledTotal = a.settledTotal) (assigned : b.assigned = a.assigned)
    (score : b.score = a.score) : ScoreStep a b := by
  refine ⟨fun h => ?_, le_of_eq score.symm⟩
  simp only [Score.settledTotal] at total
  simp only [ScoreLegal] at h ⊢
  rw [life, outcome, combo, maxCombo, total, assigned]
  exact h

theorem setFlag (c : Score) (f : BitVec 16) : ScoreStep c (c.setFlag f) := of_same rfl rfl rfl rfl rfl rfl rfl

theorem bump {c : Score} (k : UnitCount) (room : c.settledTotal ≠ c.assigned) : ScoreStep c (c.bump k) := by
  refine ⟨fun h => ?_, by cases k <;> exact le_rfl⟩
  simp only [ScoreLegal, Score.settledTotal] at h room ⊢
  cases k <;> simp only [Score.bump, satAdd, Config.top16] <;> refine ⟨h.1, h.2.1, h.2.2.1, h.2.2.2.1, ?_, ?_, ?_⟩ <;> omega

theorem countUnit (c : Score) (k : UnitCount) : ScoreStep c (c.countUnit k) := by
  unfold Score.countUnit
  split
  · exact setFlag c _
  · exact bump k ‹_›

theorem countVoid (c : Score) : ScoreStep c c.countVoid := by
  unfold Score.countVoid
  split
  · exact setFlag c _
  · refine ⟨fun h => ?_, le_rfl⟩
    rename_i room
    simp only [ScoreLegal, Score.settledTotal, satAdd, Config.top16] at h room ⊢
    refine ⟨h.1, h.2.1, h.2.2.1, h.2.2.2.1, ?_, ?_, ?_⟩ <;> omega

theorem overrun (c : Score) (index : Nat) : ScoreStep c (c.overrun index) := by
  unfold Score.overrun
  split
  · exact setFlag c _
  · exact refl c

theorem addPoints (c : Score) (index fraction : Nat) : ScoreStep c (c.addPoints index fraction) := by
  unfold Score.addPoints
  split
  · exact ⟨fun h => h, Nat.le_add_right _ _⟩
  · exact refl c

theorem addLife (c : Score) (delta : Int) : ScoreStep c (c.addLife delta) := by
  unfold Score.addLife
  split
  · exact refl c
  · rename_i alive
    refine ⟨fun h => ?_, le_rfl⟩
    simp only [ScoreLegal, clampInt, Config.fullLife] at h ⊢
    exact ⟨by omega, by omega, fun k => absurd k alive, h.2.2.2⟩

theorem addCombo (c : Score) (a : ComboAction) : ScoreStep c (c.addCombo a) := by
  refine ⟨fun h => ?_, le_rfl⟩
  simp only [ScoreLegal, Score.addCombo] at h ⊢
  refine ⟨h.1, h.2.1, h.2.2.1, le_max_right _ _, ?_, h.2.2.2.2.2⟩
  cases a <;> simp only [comboAfter, satAdd, Config.top16] <;> omega

theorem checkLife (c : Score) : ScoreStep c c.checkLife := by
  unfold Score.checkLife
  split
  · exact refl c
  · rename_i empty
    split
    · exact setFlag c _
    · split
      · refine ⟨fun h => ?_, le_rfl⟩
        simp only [ScoreLegal] at h ⊢
        exact ⟨h.1, h.2.1, fun _ => by omega, h.2.2.2⟩
      · exact refl c

theorem countAvoid {c d : Score} (h : d = { c with struck := d.struck, avoided := d.avoided }) : ScoreStep c d := by
  rw [h]
  exact of_same rfl rfl rfl rfl rfl rfl rfl

/-- R119: a settlement keeps the laws. -/
theorem apply (c : Score) (x : Settlement) : ScoreStep c (c.apply x) := by
  cases x with
  | unit index count fraction delta action =>
    exact (countUnit c count).trans ((overrun _ index).trans ((addPoints _ index fraction).trans
      ((addLife _ delta).trans ((addCombo _ action).trans (checkLife _)))))
  | void index => exact (countVoid c).trans (overrun _ index)
  | struck delta =>
    exact (of_same rfl rfl rfl rfl rfl rfl rfl : ScoreStep c { c with struck := satAdd Config.top16 c.struck }).trans
      ((addLife _ delta).trans (checkLife _))
  | avoided =>
    exact (of_same rfl rfl rfl rfl rfl rfl rfl : ScoreStep c { c with avoided := satAdd Config.top16 c.avoided }).trans
      ((addLife _ 0).trans (checkLife _))

theorem takeOffset (c : Score) (d : Int) : ScoreStep c (c.takeOffset d) := of_same rfl rfl rfl rfl rfl rfl rfl

theorem freeStep (c : Score) : ScoreStep c c.freeStep := of_same rfl rfl rfl rfl rfl rfl rfl

theorem recordFault (c : Score) : ScoreStep c c.recordFault := of_same rfl rfl rfl rfl rfl rfl rfl

theorem finalize (c : Score) : ScoreStep c c.finalize := of_same rfl rfl rfl rfl rfl rfl rfl

theorem setEnd (c : Score) (t : Option Int) : ScoreStep c { c with endTime := t } :=
  of_same rfl rfl rfl rfl rfl rfl rfl

theorem assign (c : Score) : ScoreStep c c.assign := by
  refine ⟨fun h => ?_, le_rfl⟩
  simp only [ScoreLegal, Score.assign, satAdd, Config.top16] at h ⊢
  refine ⟨h.1, h.2.1, h.2.2.1, h.2.2.2.1, h.2.2.2.2.1, ?_, ?_⟩ <;> omega

/-- R132: any cause but a failure may name the outcome; a failure finds it named. -/
theorem conclude (c : Score) (o : StageOutcome) (h : o = .failed → c.outcome = .failed) :
    ScoreStep c (c.conclude o) := by
  unfold Score.conclude
  split
  · rename_i open'
    refine ⟨fun k => ?_, le_rfl⟩
    simp only [ScoreLegal] at k ⊢
    refine ⟨k.1, k.2.1, fun e => ?_, k.2.2.2⟩
    exact k.2.2.1 (h e)
  · exact refl c

theorem clearFlags (c : Score) : ScoreStep c { c with flags := 0 } := of_same rfl rfl rfl rfl rfl rfl rfl

end ScoreStep

/-- R117: a stage begins within the laws. -/
theorem Score.start_legal (n : Nat) (noFail : Bool) (startLife : Int) (low : 1 ≤ startLife) (high : startLife ≤ 1000) :
    ScoreLegal (Score.start n noFail startLife) := by
  show 0 ≤ startLife ∧ startLife ≤ 1000 ∧ (StageOutcome.none = .failed → startLife = 0) ∧ _
  refine ⟨by omega, high, fun h => (nomatch h), le_rfl, Nat.zero_le _, le_rfl, Nat.zero_le _⟩

/-- R136: a cleared Score Unit is within the laws. -/
theorem Score.clear_legal (o : StageOutcome) : ScoreLegal (Score.clear o) := by
  show (0 : Int) ≤ 0 ∧ (0 : Int) ≤ 1000 ∧ (o = .failed → (0 : Int) = 0) ∧ _
  refine ⟨le_rfl, by decide, fun _ => rfl, le_rfl, Nat.zero_le _, le_rfl, Nat.zero_le _⟩

end Sys2Proof.Machine
end

