-- ==== Sys2Proof/Laws/State.lean ====
section
/-! SUPPORT. One lemma for each field under each update of State. -/

namespace Sys2Proof.Machine

namespace PerPlayer

@[simp] theorem get_set_same {α : Type} (t : PerPlayer α) (i : Player) (x : α) : (t.set i x).get i = x := by
  cases i <;> rfl

theorem get_set {α : Type} (t : PerPlayer α) (i j : Player) (x : α) :
    (t.set i x).get j = if j = i then x else t.get j := by
  cases i <;> cases j <;> rfl

end PerPlayer

namespace PerPad

@[simp] theorem get_set_same {α : Type} (t : PerPad α) (i : PadId) (x : α) : (t.set i x).get i = x := by
  cases i <;> rfl

theorem get_set {α : Type} (t : PerPad α) (i j : PadId) (x : α) :
    (t.set i x).get j = if j = i then x else t.get j := by
  cases i <;> cases j <;> rfl

end PerPad

namespace PerSlot

@[simp] theorem get_set_same {α : Type} (t : PerSlot α) (i : SlotId) (x : α) : (t.set i x).get i = x := by
  cases i <;> rfl

theorem get_set {α : Type} (t : PerSlot α) (i j : SlotId) (x : α) :
    (t.set i x).get j = if j = i then x else t.get j := by
  cases i <;> cases j <;> rfl

end PerSlot

namespace State

section setRun

variable (s : State) (x : RunState)

@[simp] theorem run_setRun : (s.setRun x).run = x := rfl
@[simp] theorem resetHeld_setRun : (s.setRun x).resetHeld = s.resetHeld := rfl
@[simp] theorem root_setRun : (s.setRun x).root = s.root := rfl
@[simp] theorem notice_setRun : (s.setRun x).notice = s.notice := rfl
@[simp] theorem mask_setRun : (s.setRun x).mask = s.mask := rfl
@[simp] theorem fault_setRun : (s.setRun x).fault = s.fault := rfl
@[simp] theorem window_setRun : (s.setRun x).window = s.window := rfl
@[simp] theorem slots_setRun : (s.setRun x).slots = s.slots := rfl
@[simp] theorem work_setRun : (s.setRun x).work = s.work := rfl
@[simp] theorem bus_setRun : (s.setRun x).bus = s.bus := rfl
@[simp] theorem clock_setRun : (s.setRun x).clock = s.clock := rfl
@[simp] theorem pads_setRun : (s.setRun x).pads = s.pads := rfl
@[simp] theorem owners_setRun : (s.setRun x).owners = s.owners := rfl
@[simp] theorem scan_setRun : (s.setRun x).scan = s.scan := rfl
@[simp] theorem fetchers_setRun : (s.setRun x).fetchers = s.fetchers := rfl
@[simp] theorem judges_setRun : (s.setRun x).judges = s.judges := rfl
@[simp] theorem scores_setRun : (s.setRun x).scores = s.scores := rfl
@[simp] theorem sessions_setRun : (s.setRun x).sessions = s.sessions := rfl
@[simp] theorem writers_setRun : (s.setRun x).writers = s.writers := rfl
@[simp] theorem refresh_setRun : (s.setRun x).refresh = s.refresh := rfl
@[simp] theorem lamps_setRun : (s.setRun x).lamps = s.lamps := rfl
@[simp] theorem pending_setRun : (s.setRun x).pending = s.pending := rfl
@[simp] theorem slot_setRun (j : SlotId) : (s.setRun x).slot j = s.slot j := rfl
@[simp] theorem pad_setRun (j : PadId) : (s.setRun x).pad j = s.pad j := rfl
@[simp] theorem owner_setRun (j : PadId) : (s.setRun x).owner j = s.owner j := rfl
@[simp] theorem fetcher_setRun (j : Player) : (s.setRun x).fetcher j = s.fetcher j := rfl
@[simp] theorem judge_setRun (j : Player) : (s.setRun x).judge j = s.judge j := rfl
@[simp] theorem scoreUnit_setRun (j : Player) : (s.setRun x).scoreUnit j = s.scoreUnit j := rfl
@[simp] theorem session_setRun (j : Player) : (s.setRun x).session j = s.session j := rfl
@[simp] theorem writer_setRun (j : Player) : (s.setRun x).writer j = s.writer j := rfl

end setRun

section setNotices

variable (s : State) (x : BitVec 8)

@[simp] theorem run_setNotices : (s.setNotices x).run = s.run := rfl
@[simp] theorem resetHeld_setNotices : (s.setNotices x).resetHeld = s.resetHeld := rfl
@[simp] theorem root_setNotices : (s.setNotices x).root = s.root := rfl
@[simp] theorem notice_setNotices : (s.setNotices x).notice = x := rfl
@[simp] theorem mask_setNotices : (s.setNotices x).mask = s.mask := rfl
@[simp] theorem fault_setNotices : (s.setNotices x).fault = s.fault := rfl
@[simp] theorem window_setNotices : (s.setNotices x).window = s.window := rfl
@[simp] theorem slots_setNotices : (s.setNotices x).slots = s.slots := rfl
@[simp] theorem work_setNotices : (s.setNotices x).work = s.work := rfl
@[simp] theorem bus_setNotices : (s.setNotices x).bus = s.bus := rfl
@[simp] theorem clock_setNotices : (s.setNotices x).clock = s.clock := rfl
@[simp] theorem pads_setNotices : (s.setNotices x).pads = s.pads := rfl
@[simp] theorem owners_setNotices : (s.setNotices x).owners = s.owners := rfl
@[simp] theorem scan_setNotices : (s.setNotices x).scan = s.scan := rfl
@[simp] theorem fetchers_setNotices : (s.setNotices x).fetchers = s.fetchers := rfl
@[simp] theorem judges_setNotices : (s.setNotices x).judges = s.judges := rfl
@[simp] theorem scores_setNotices : (s.setNotices x).scores = s.scores := rfl
@[simp] theorem sessions_setNotices : (s.setNotices x).sessions = s.sessions := rfl
@[simp] theorem writers_setNotices : (s.setNotices x).writers = s.writers := rfl
@[simp] theorem refresh_setNotices : (s.setNotices x).refresh = s.refresh := rfl
@[simp] theorem lamps_setNotices : (s.setNotices x).lamps = s.lamps := rfl
@[simp] theorem pending_setNotices : (s.setNotices x).pending = s.pending := rfl
@[simp] theorem slot_setNotices (j : SlotId) : (s.setNotices x).slot j = s.slot j := rfl
@[simp] theorem pad_setNotices (j : PadId) : (s.setNotices x).pad j = s.pad j := rfl
@[simp] theorem owner_setNotices (j : PadId) : (s.setNotices x).owner j = s.owner j := rfl
@[simp] theorem fetcher_setNotices (j : Player) : (s.setNotices x).fetcher j = s.fetcher j := rfl
@[simp] theorem judge_setNotices (j : Player) : (s.setNotices x).judge j = s.judge j := rfl
@[simp] theorem scoreUnit_setNotices (j : Player) : (s.setNotices x).scoreUnit j = s.scoreUnit j := rfl
@[simp] theorem session_setNotices (j : Player) : (s.setNotices x).session j = s.session j := rfl
@[simp] theorem writer_setNotices (j : Player) : (s.setNotices x).writer j = s.writer j := rfl

end setNotices

section setFault

variable (s : State) (x : FaultRecord)

@[simp] theorem run_setFault : (s.setFault x).run = s.run := rfl
@[simp] theorem resetHeld_setFault : (s.setFault x).resetHeld = s.resetHeld := rfl
@[simp] theorem root_setFault : (s.setFault x).root = s.root := rfl
@[simp] theorem notice_setFault : (s.setFault x).notice = s.notice := rfl
@[simp] theorem mask_setFault : (s.setFault x).mask = s.mask := rfl
@[simp] theorem fault_setFault : (s.setFault x).fault = x := rfl
@[simp] theorem window_setFault : (s.setFault x).window = s.window := rfl
@[simp] theorem slots_setFault : (s.setFault x).slots = s.slots := rfl
@[simp] theorem work_setFault : (s.setFault x).work = s.work := rfl
@[simp] theorem bus_setFault : (s.setFault x).bus = s.bus := rfl
@[simp] theorem clock_setFault : (s.setFault x).clock = s.clock := rfl
@[simp] theorem pads_setFault : (s.setFault x).pads = s.pads := rfl
@[simp] theorem owners_setFault : (s.setFault x).owners = s.owners := rfl
@[simp] theorem scan_setFault : (s.setFault x).scan = s.scan := rfl
@[simp] theorem fetchers_setFault : (s.setFault x).fetchers = s.fetchers := rfl
@[simp] theorem judges_setFault : (s.setFault x).judges = s.judges := rfl
@[simp] theorem scores_setFault : (s.setFault x).scores = s.scores := rfl
@[simp] theorem sessions_setFault : (s.setFault x).sessions = s.sessions := rfl
@[simp] theorem writers_setFault : (s.setFault x).writers = s.writers := rfl
@[simp] theorem refresh_setFault : (s.setFault x).refresh = s.refresh := rfl
@[simp] theorem lamps_setFault : (s.setFault x).lamps = s.lamps := rfl
@[simp] theorem pending_setFault : (s.setFault x).pending = s.pending := rfl
@[simp] theorem slot_setFault (j : SlotId) : (s.setFault x).slot j = s.slot j := rfl
@[simp] theorem pad_setFault (j : PadId) : (s.setFault x).pad j = s.pad j := rfl
@[simp] theorem owner_setFault (j : PadId) : (s.setFault x).owner j = s.owner j := rfl
@[simp] theorem fetcher_setFault (j : Player) : (s.setFault x).fetcher j = s.fetcher j := rfl
@[simp] theorem judge_setFault (j : Player) : (s.setFault x).judge j = s.judge j := rfl
@[simp] theorem scoreUnit_setFault (j : Player) : (s.setFault x).scoreUnit j = s.scoreUnit j := rfl
@[simp] theorem session_setFault (j : Player) : (s.setFault x).session j = s.session j := rfl
@[simp] theorem writer_setFault (j : Player) : (s.setFault x).writer j = s.writer j := rfl

end setFault

section setWork

variable (s : State) (x : List Work)

@[simp] theorem run_setWork : (s.setWork x).run = s.run := rfl
@[simp] theorem resetHeld_setWork : (s.setWork x).resetHeld = s.resetHeld := rfl
@[simp] theorem root_setWork : (s.setWork x).root = s.root := rfl
@[simp] theorem notice_setWork : (s.setWork x).notice = s.notice := rfl
@[simp] theorem mask_setWork : (s.setWork x).mask = s.mask := rfl
@[simp] theorem fault_setWork : (s.setWork x).fault = s.fault := rfl
@[simp] theorem window_setWork : (s.setWork x).window = s.window := rfl
@[simp] theorem slots_setWork : (s.setWork x).slots = s.slots := rfl
@[simp] theorem work_setWork : (s.setWork x).work = x := rfl
@[simp] theorem bus_setWork : (s.setWork x).bus = s.bus := rfl
@[simp] theorem clock_setWork : (s.setWork x).clock = s.clock := rfl
@[simp] theorem pads_setWork : (s.setWork x).pads = s.pads := rfl
@[simp] theorem owners_setWork : (s.setWork x).owners = s.owners := rfl
@[simp] theorem scan_setWork : (s.setWork x).scan = s.scan := rfl
@[simp] theorem fetchers_setWork : (s.setWork x).fetchers = s.fetchers := rfl
@[simp] theorem judges_setWork : (s.setWork x).judges = s.judges := rfl
@[simp] theorem scores_setWork : (s.setWork x).scores = s.scores := rfl
@[simp] theorem sessions_setWork : (s.setWork x).sessions = s.sessions := rfl
@[simp] theorem writers_setWork : (s.setWork x).writers = s.writers := rfl
@[simp] theorem refresh_setWork : (s.setWork x).refresh = s.refresh := rfl
@[simp] theorem lamps_setWork : (s.setWork x).lamps = s.lamps := rfl
@[simp] theorem pending_setWork : (s.setWork x).pending = s.pending := rfl
@[simp] theorem slot_setWork (j : SlotId) : (s.setWork x).slot j = s.slot j := rfl
@[simp] theorem pad_setWork (j : PadId) : (s.setWork x).pad j = s.pad j := rfl
@[simp] theorem owner_setWork (j : PadId) : (s.setWork x).owner j = s.owner j := rfl
@[simp] theorem fetcher_setWork (j : Player) : (s.setWork x).fetcher j = s.fetcher j := rfl
@[simp] theorem judge_setWork (j : Player) : (s.setWork x).judge j = s.judge j := rfl
@[simp] theorem scoreUnit_setWork (j : Player) : (s.setWork x).scoreUnit j = s.scoreUnit j := rfl
@[simp] theorem session_setWork (j : Player) : (s.setWork x).session j = s.session j := rfl
@[simp] theorem writer_setWork (j : Player) : (s.setWork x).writer j = s.writer j := rfl

end setWork

section setBus

variable (s : State) (x : Bus)

@[simp] theorem run_setBus : (s.setBus x).run = s.run := rfl
@[simp] theorem resetHeld_setBus : (s.setBus x).resetHeld = s.resetHeld := rfl
@[simp] theorem root_setBus : (s.setBus x).root = s.root := rfl
@[simp] theorem notice_setBus : (s.setBus x).notice = s.notice := rfl
@[simp] theorem mask_setBus : (s.setBus x).mask = s.mask := rfl
@[simp] theorem fault_setBus : (s.setBus x).fault = s.fault := rfl
@[simp] theorem window_setBus : (s.setBus x).window = s.window := rfl
@[simp] theorem slots_setBus : (s.setBus x).slots = s.slots := rfl
@[simp] theorem work_setBus : (s.setBus x).work = s.work := rfl
@[simp] theorem bus_setBus : (s.setBus x).bus = x := rfl
@[simp] theorem clock_setBus : (s.setBus x).clock = s.clock := rfl
@[simp] theorem pads_setBus : (s.setBus x).pads = s.pads := rfl
@[simp] theorem owners_setBus : (s.setBus x).owners = s.owners := rfl
@[simp] theorem scan_setBus : (s.setBus x).scan = s.scan := rfl
@[simp] theorem fetchers_setBus : (s.setBus x).fetchers = s.fetchers := rfl
@[simp] theorem judges_setBus : (s.setBus x).judges = s.judges := rfl
@[simp] theorem scores_setBus : (s.setBus x).scores = s.scores := rfl
@[simp] theorem sessions_setBus : (s.setBus x).sessions = s.sessions := rfl
@[simp] theorem writers_setBus : (s.setBus x).writers = s.writers := rfl
@[simp] theorem refresh_setBus : (s.setBus x).refresh = s.refresh := rfl
@[simp] theorem lamps_setBus : (s.setBus x).lamps = s.lamps := rfl
@[simp] theorem pending_setBus : (s.setBus x).pending = s.pending := rfl
@[simp] theorem slot_setBus (j : SlotId) : (s.setBus x).slot j = s.slot j := rfl
@[simp] theorem pad_setBus (j : PadId) : (s.setBus x).pad j = s.pad j := rfl
@[simp] theorem owner_setBus (j : PadId) : (s.setBus x).owner j = s.owner j := rfl
@[simp] theorem fetcher_setBus (j : Player) : (s.setBus x).fetcher j = s.fetcher j := rfl
@[simp] theorem judge_setBus (j : Player) : (s.setBus x).judge j = s.judge j := rfl
@[simp] theorem scoreUnit_setBus (j : Player) : (s.setBus x).scoreUnit j = s.scoreUnit j := rfl
@[simp] theorem session_setBus (j : Player) : (s.setBus x).session j = s.session j := rfl
@[simp] theorem writer_setBus (j : Player) : (s.setBus x).writer j = s.writer j := rfl

end setBus

section setClock

variable (s : State) (x : Clock)

@[simp] theorem run_setClock : (s.setClock x).run = s.run := rfl
@[simp] theorem resetHeld_setClock : (s.setClock x).resetHeld = s.resetHeld := rfl
@[simp] theorem root_setClock : (s.setClock x).root = s.root := rfl
@[simp] theorem notice_setClock : (s.setClock x).notice = s.notice := rfl
@[simp] theorem mask_setClock : (s.setClock x).mask = s.mask := rfl
@[simp] theorem fault_setClock : (s.setClock x).fault = s.fault := rfl
@[simp] theorem window_setClock : (s.setClock x).window = s.window := rfl
@[simp] theorem slots_setClock : (s.setClock x).slots = s.slots := rfl
@[simp] theorem work_setClock : (s.setClock x).work = s.work := rfl
@[simp] theorem bus_setClock : (s.setClock x).bus = s.bus := rfl
@[simp] theorem clock_setClock : (s.setClock x).clock = x := rfl
@[simp] theorem pads_setClock : (s.setClock x).pads = s.pads := rfl
@[simp] theorem owners_setClock : (s.setClock x).owners = s.owners := rfl
@[simp] theorem scan_setClock : (s.setClock x).scan = s.scan := rfl
@[simp] theorem fetchers_setClock : (s.setClock x).fetchers = s.fetchers := rfl
@[simp] theorem judges_setClock : (s.setClock x).judges = s.judges := rfl
@[simp] theorem scores_setClock : (s.setClock x).scores = s.scores := rfl
@[simp] theorem sessions_setClock : (s.setClock x).sessions = s.sessions := rfl
@[simp] theorem writers_setClock : (s.setClock x).writers = s.writers := rfl
@[simp] theorem refresh_setClock : (s.setClock x).refresh = s.refresh := rfl
@[simp] theorem lamps_setClock : (s.setClock x).lamps = s.lamps := rfl
@[simp] theorem pending_setClock : (s.setClock x).pending = s.pending := rfl
@[simp] theorem slot_setClock (j : SlotId) : (s.setClock x).slot j = s.slot j := rfl
@[simp] theorem pad_setClock (j : PadId) : (s.setClock x).pad j = s.pad j := rfl
@[simp] theorem owner_setClock (j : PadId) : (s.setClock x).owner j = s.owner j := rfl
@[simp] theorem fetcher_setClock (j : Player) : (s.setClock x).fetcher j = s.fetcher j := rfl
@[simp] theorem judge_setClock (j : Player) : (s.setClock x).judge j = s.judge j := rfl
@[simp] theorem scoreUnit_setClock (j : Player) : (s.setClock x).scoreUnit j = s.scoreUnit j := rfl
@[simp] theorem session_setClock (j : Player) : (s.setClock x).session j = s.session j := rfl
@[simp] theorem writer_setClock (j : Player) : (s.setClock x).writer j = s.writer j := rfl

end setClock

section setScan

variable (s : State) (x : Scan)

@[simp] theorem run_setScan : (s.setScan x).run = s.run := rfl
@[simp] theorem resetHeld_setScan : (s.setScan x).resetHeld = s.resetHeld := rfl
@[simp] theorem root_setScan : (s.setScan x).root = s.root := rfl
@[simp] theorem notice_setScan : (s.setScan x).notice = s.notice := rfl
@[simp] theorem mask_setScan : (s.setScan x).mask = s.mask := rfl
@[simp] theorem fault_setScan : (s.setScan x).fault = s.fault := rfl
@[simp] theorem window_setScan : (s.setScan x).window = s.window := rfl
@[simp] theorem slots_setScan : (s.setScan x).slots = s.slots := rfl
@[simp] theorem work_setScan : (s.setScan x).work = s.work := rfl
@[simp] theorem bus_setScan : (s.setScan x).bus = s.bus := rfl
@[simp] theorem clock_setScan : (s.setScan x).clock = s.clock := rfl
@[simp] theorem pads_setScan : (s.setScan x).pads = s.pads := rfl
@[simp] theorem owners_setScan : (s.setScan x).owners = s.owners := rfl
@[simp] theorem scan_setScan : (s.setScan x).scan = x := rfl
@[simp] theorem fetchers_setScan : (s.setScan x).fetchers = s.fetchers := rfl
@[simp] theorem judges_setScan : (s.setScan x).judges = s.judges := rfl
@[simp] theorem scores_setScan : (s.setScan x).scores = s.scores := rfl
@[simp] theorem sessions_setScan : (s.setScan x).sessions = s.sessions := rfl
@[simp] theorem writers_setScan : (s.setScan x).writers = s.writers := rfl
@[simp] theorem refresh_setScan : (s.setScan x).refresh = s.refresh := rfl
@[simp] theorem lamps_setScan : (s.setScan x).lamps = s.lamps := rfl
@[simp] theorem pending_setScan : (s.setScan x).pending = s.pending := rfl
@[simp] theorem slot_setScan (j : SlotId) : (s.setScan x).slot j = s.slot j := rfl
@[simp] theorem pad_setScan (j : PadId) : (s.setScan x).pad j = s.pad j := rfl
@[simp] theorem owner_setScan (j : PadId) : (s.setScan x).owner j = s.owner j := rfl
@[simp] theorem fetcher_setScan (j : Player) : (s.setScan x).fetcher j = s.fetcher j := rfl
@[simp] theorem judge_setScan (j : Player) : (s.setScan x).judge j = s.judge j := rfl
@[simp] theorem scoreUnit_setScan (j : Player) : (s.setScan x).scoreUnit j = s.scoreUnit j := rfl
@[simp] theorem session_setScan (j : Player) : (s.setScan x).session j = s.session j := rfl
@[simp] theorem writer_setScan (j : Player) : (s.setScan x).writer j = s.writer j := rfl

end setScan

section setOwners

variable (s : State) (x : PerPad (Option Player))

@[simp] theorem run_setOwners : (s.setOwners x).run = s.run := rfl
@[simp] theorem resetHeld_setOwners : (s.setOwners x).resetHeld = s.resetHeld := rfl
@[simp] theorem root_setOwners : (s.setOwners x).root = s.root := rfl
@[simp] theorem notice_setOwners : (s.setOwners x).notice = s.notice := rfl
@[simp] theorem mask_setOwners : (s.setOwners x).mask = s.mask := rfl
@[simp] theorem fault_setOwners : (s.setOwners x).fault = s.fault := rfl
@[simp] theorem window_setOwners : (s.setOwners x).window = s.window := rfl
@[simp] theorem slots_setOwners : (s.setOwners x).slots = s.slots := rfl
@[simp] theorem work_setOwners : (s.setOwners x).work = s.work := rfl
@[simp] theorem bus_setOwners : (s.setOwners x).bus = s.bus := rfl
@[simp] theorem clock_setOwners : (s.setOwners x).clock = s.clock := rfl
@[simp] theorem pads_setOwners : (s.setOwners x).pads = s.pads := rfl
@[simp] theorem owners_setOwners : (s.setOwners x).owners = x := rfl
@[simp] theorem scan_setOwners : (s.setOwners x).scan = s.scan := rfl
@[simp] theorem fetchers_setOwners : (s.setOwners x).fetchers = s.fetchers := rfl
@[simp] theorem judges_setOwners : (s.setOwners x).judges = s.judges := rfl
@[simp] theorem scores_setOwners : (s.setOwners x).scores = s.scores := rfl
@[simp] theorem sessions_setOwners : (s.setOwners x).sessions = s.sessions := rfl
@[simp] theorem writers_setOwners : (s.setOwners x).writers = s.writers := rfl
@[simp] theorem refresh_setOwners : (s.setOwners x).refresh = s.refresh := rfl
@[simp] theorem lamps_setOwners : (s.setOwners x).lamps = s.lamps := rfl
@[simp] theorem pending_setOwners : (s.setOwners x).pending = s.pending := rfl
@[simp] theorem slot_setOwners (j : SlotId) : (s.setOwners x).slot j = s.slot j := rfl
@[simp] theorem pad_setOwners (j : PadId) : (s.setOwners x).pad j = s.pad j := rfl
theorem owner_setOwners (j : PadId) : (s.setOwners x).owner j = x.get j := rfl
@[simp] theorem fetcher_setOwners (j : Player) : (s.setOwners x).fetcher j = s.fetcher j := rfl
@[simp] theorem judge_setOwners (j : Player) : (s.setOwners x).judge j = s.judge j := rfl
@[simp] theorem scoreUnit_setOwners (j : Player) : (s.setOwners x).scoreUnit j = s.scoreUnit j := rfl
@[simp] theorem session_setOwners (j : Player) : (s.setOwners x).session j = s.session j := rfl
@[simp] theorem writer_setOwners (j : Player) : (s.setOwners x).writer j = s.writer j := rfl

end setOwners

section setRefresh

variable (s : State) (x : Refresh)

@[simp] theorem run_setRefresh : (s.setRefresh x).run = s.run := rfl
@[simp] theorem resetHeld_setRefresh : (s.setRefresh x).resetHeld = s.resetHeld := rfl
@[simp] theorem root_setRefresh : (s.setRefresh x).root = s.root := rfl
@[simp] theorem notice_setRefresh : (s.setRefresh x).notice = s.notice := rfl
@[simp] theorem mask_setRefresh : (s.setRefresh x).mask = s.mask := rfl
@[simp] theorem fault_setRefresh : (s.setRefresh x).fault = s.fault := rfl
@[simp] theorem window_setRefresh : (s.setRefresh x).window = s.window := rfl
@[simp] theorem slots_setRefresh : (s.setRefresh x).slots = s.slots := rfl
@[simp] theorem work_setRefresh : (s.setRefresh x).work = s.work := rfl
@[simp] theorem bus_setRefresh : (s.setRefresh x).bus = s.bus := rfl
@[simp] theorem clock_setRefresh : (s.setRefresh x).clock = s.clock := rfl
@[simp] theorem pads_setRefresh : (s.setRefresh x).pads = s.pads := rfl
@[simp] theorem owners_setRefresh : (s.setRefresh x).owners = s.owners := rfl
@[simp] theorem scan_setRefresh : (s.setRefresh x).scan = s.scan := rfl
@[simp] theorem fetchers_setRefresh : (s.setRefresh x).fetchers = s.fetchers := rfl
@[simp] theorem judges_setRefresh : (s.setRefresh x).judges = s.judges := rfl
@[simp] theorem scores_setRefresh : (s.setRefresh x).scores = s.scores := rfl
@[simp] theorem sessions_setRefresh : (s.setRefresh x).sessions = s.sessions := rfl
@[simp] theorem writers_setRefresh : (s.setRefresh x).writers = s.writers := rfl
@[simp] theorem refresh_setRefresh : (s.setRefresh x).refresh = x := rfl
@[simp] theorem lamps_setRefresh : (s.setRefresh x).lamps = s.lamps := rfl
@[simp] theorem pending_setRefresh : (s.setRefresh x).pending = s.pending := rfl
@[simp] theorem slot_setRefresh (j : SlotId) : (s.setRefresh x).slot j = s.slot j := rfl
@[simp] theorem pad_setRefresh (j : PadId) : (s.setRefresh x).pad j = s.pad j := rfl
@[simp] theorem owner_setRefresh (j : PadId) : (s.setRefresh x).owner j = s.owner j := rfl
@[simp] theorem fetcher_setRefresh (j : Player) : (s.setRefresh x).fetcher j = s.fetcher j := rfl
@[simp] theorem judge_setRefresh (j : Player) : (s.setRefresh x).judge j = s.judge j := rfl
@[simp] theorem scoreUnit_setRefresh (j : Player) : (s.setRefresh x).scoreUnit j = s.scoreUnit j := rfl
@[simp] theorem session_setRefresh (j : Player) : (s.setRefresh x).session j = s.session j := rfl
@[simp] theorem writer_setRefresh (j : Player) : (s.setRefresh x).writer j = s.writer j := rfl

end setRefresh

section setLamps

variable (s : State) (x : Lamps)

@[simp] theorem run_setLamps : (s.setLamps x).run = s.run := rfl
@[simp] theorem resetHeld_setLamps : (s.setLamps x).resetHeld = s.resetHeld := rfl
@[simp] theorem root_setLamps : (s.setLamps x).root = s.root := rfl
@[simp] theorem notice_setLamps : (s.setLamps x).notice = s.notice := rfl
@[simp] theorem mask_setLamps : (s.setLamps x).mask = s.mask := rfl
@[simp] theorem fault_setLamps : (s.setLamps x).fault = s.fault := rfl
@[simp] theorem window_setLamps : (s.setLamps x).window = s.window := rfl
@[simp] theorem slots_setLamps : (s.setLamps x).slots = s.slots := rfl
@[simp] theorem work_setLamps : (s.setLamps x).work = s.work := rfl
@[simp] theorem bus_setLamps : (s.setLamps x).bus = s.bus := rfl
@[simp] theorem clock_setLamps : (s.setLamps x).clock = s.clock := rfl
@[simp] theorem pads_setLamps : (s.setLamps x).pads = s.pads := rfl
@[simp] theorem owners_setLamps : (s.setLamps x).owners = s.owners := rfl
@[simp] theorem scan_setLamps : (s.setLamps x).scan = s.scan := rfl
@[simp] theorem fetchers_setLamps : (s.setLamps x).fetchers = s.fetchers := rfl
@[simp] theorem judges_setLamps : (s.setLamps x).judges = s.judges := rfl
@[simp] theorem scores_setLamps : (s.setLamps x).scores = s.scores := rfl
@[simp] theorem sessions_setLamps : (s.setLamps x).sessions = s.sessions := rfl
@[simp] theorem writers_setLamps : (s.setLamps x).writers = s.writers := rfl
@[simp] theorem refresh_setLamps : (s.setLamps x).refresh = s.refresh := rfl
@[simp] theorem lamps_setLamps : (s.setLamps x).lamps = x := rfl
@[simp] theorem pending_setLamps : (s.setLamps x).pending = s.pending := rfl
@[simp] theorem slot_setLamps (j : SlotId) : (s.setLamps x).slot j = s.slot j := rfl
@[simp] theorem pad_setLamps (j : PadId) : (s.setLamps x).pad j = s.pad j := rfl
@[simp] theorem owner_setLamps (j : PadId) : (s.setLamps x).owner j = s.owner j := rfl
@[simp] theorem fetcher_setLamps (j : Player) : (s.setLamps x).fetcher j = s.fetcher j := rfl
@[simp] theorem judge_setLamps (j : Player) : (s.setLamps x).judge j = s.judge j := rfl
@[simp] theorem scoreUnit_setLamps (j : Player) : (s.setLamps x).scoreUnit j = s.scoreUnit j := rfl
@[simp] theorem session_setLamps (j : Player) : (s.setLamps x).session j = s.session j := rfl
@[simp] theorem writer_setLamps (j : Player) : (s.setLamps x).writer j = s.writer j := rfl

end setLamps

section setSlot

variable (s : State) (i : SlotId) (x : Slot)

@[simp] theorem run_setSlot : (s.setSlot i x).run = s.run := rfl
@[simp] theorem resetHeld_setSlot : (s.setSlot i x).resetHeld = s.resetHeld := rfl
@[simp] theorem root_setSlot : (s.setSlot i x).root = s.root := rfl
@[simp] theorem notice_setSlot : (s.setSlot i x).notice = s.notice := rfl
@[simp] theorem mask_setSlot : (s.setSlot i x).mask = s.mask := rfl
@[simp] theorem fault_setSlot : (s.setSlot i x).fault = s.fault := rfl
@[simp] theorem window_setSlot : (s.setSlot i x).window = s.window := rfl
theorem slots_setSlot : (s.setSlot i x).slots = s.slots.set i x := rfl
@[simp] theorem work_setSlot : (s.setSlot i x).work = s.work := rfl
@[simp] theorem bus_setSlot : (s.setSlot i x).bus = s.bus := rfl
@[simp] theorem clock_setSlot : (s.setSlot i x).clock = s.clock := rfl
@[simp] theorem pads_setSlot : (s.setSlot i x).pads = s.pads := rfl
@[simp] theorem owners_setSlot : (s.setSlot i x).owners = s.owners := rfl
@[simp] theorem scan_setSlot : (s.setSlot i x).scan = s.scan := rfl
@[simp] theorem fetchers_setSlot : (s.setSlot i x).fetchers = s.fetchers := rfl
@[simp] theorem judges_setSlot : (s.setSlot i x).judges = s.judges := rfl
@[simp] theorem scores_setSlot : (s.setSlot i x).scores = s.scores := rfl
@[simp] theorem sessions_setSlot : (s.setSlot i x).sessions = s.sessions := rfl
@[simp] theorem writers_setSlot : (s.setSlot i x).writers = s.writers := rfl
@[simp] theorem refresh_setSlot : (s.setSlot i x).refresh = s.refresh := rfl
@[simp] theorem lamps_setSlot : (s.setSlot i x).lamps = s.lamps := rfl
@[simp] theorem pending_setSlot : (s.setSlot i x).pending = s.pending := rfl
@[simp] theorem slot_setSlot_same : (s.setSlot i x).slot i = x := by cases i <;> rfl
theorem slot_setSlot (j : SlotId) : (s.setSlot i x).slot j = if j = i then x else s.slot j := by
  cases i <;> cases j <;> rfl
@[simp] theorem slot_setSlot_ne (j : SlotId) (h : j ≠ i) : (s.setSlot i x).slot j = s.slot j := by
  rw [slot_setSlot, if_neg h]
@[simp] theorem pad_setSlot (j : PadId) : (s.setSlot i x).pad j = s.pad j := rfl
@[simp] theorem owner_setSlot (j : PadId) : (s.setSlot i x).owner j = s.owner j := rfl
@[simp] theorem fetcher_setSlot (j : Player) : (s.setSlot i x).fetcher j = s.fetcher j := rfl
@[simp] theorem judge_setSlot (j : Player) : (s.setSlot i x).judge j = s.judge j := rfl
@[simp] theorem scoreUnit_setSlot (j : Player) : (s.setSlot i x).scoreUnit j = s.scoreUnit j := rfl
@[simp] theorem session_setSlot (j : Player) : (s.setSlot i x).session j = s.session j := rfl
@[simp] theorem writer_setSlot (j : Player) : (s.setSlot i x).writer j = s.writer j := rfl

end setSlot

section setPad

variable (s : State) (i : PadId) (x : Pad)

@[simp] theorem run_setPad : (s.setPad i x).run = s.run := rfl
@[simp] theorem resetHeld_setPad : (s.setPad i x).resetHeld = s.resetHeld := rfl
@[simp] theorem root_setPad : (s.setPad i x).root = s.root := rfl
@[simp] theorem notice_setPad : (s.setPad i x).notice = s.notice := rfl
@[simp] theorem mask_setPad : (s.setPad i x).mask = s.mask := rfl
@[simp] theorem fault_setPad : (s.setPad i x).fault = s.fault := rfl
@[simp] theorem window_setPad : (s.setPad i x).window = s.window := rfl
@[simp] theorem slots_setPad : (s.setPad i x).slots = s.slots := rfl
@[simp] theorem work_setPad : (s.setPad i x).work = s.work := rfl
@[simp] theorem bus_setPad : (s.setPad i x).bus = s.bus := rfl
@[simp] theorem clock_setPad : (s.setPad i x).clock = s.clock := rfl
theorem pads_setPad : (s.setPad i x).pads = s.pads.set i x := rfl
@[simp] theorem owners_setPad : (s.setPad i x).owners = s.owners := rfl
@[simp] theorem scan_setPad : (s.setPad i x).scan = s.scan := rfl
@[simp] theorem fetchers_setPad : (s.setPad i x).fetchers = s.fetchers := rfl
@[simp] theorem judges_setPad : (s.setPad i x).judges = s.judges := rfl
@[simp] theorem scores_setPad : (s.setPad i x).scores = s.scores := rfl
@[simp] theorem sessions_setPad : (s.setPad i x).sessions = s.sessions := rfl
@[simp] theorem writers_setPad : (s.setPad i x).writers = s.writers := rfl
@[simp] theorem refresh_setPad : (s.setPad i x).refresh = s.refresh := rfl
@[simp] theorem lamps_setPad : (s.setPad i x).lamps = s.lamps := rfl
@[simp] theorem pending_setPad : (s.setPad i x).pending = s.pending := rfl
@[simp] theorem slot_setPad (j : SlotId) : (s.setPad i x).slot j = s.slot j := rfl
@[simp] theorem pad_setPad_same : (s.setPad i x).pad i = x := by cases i <;> rfl
theorem pad_setPad (j : PadId) : (s.setPad i x).pad j = if j = i then x else s.pad j := by
  cases i <;> cases j <;> rfl
@[simp] theorem pad_setPad_ne (j : PadId) (h : j ≠ i) : (s.setPad i x).pad j = s.pad j := by
  rw [pad_setPad, if_neg h]
@[simp] theorem owner_setPad (j : PadId) : (s.setPad i x).owner j = s.owner j := rfl
@[simp] theorem fetcher_setPad (j : Player) : (s.setPad i x).fetcher j = s.fetcher j := rfl
@[simp] theorem judge_setPad (j : Player) : (s.setPad i x).judge j = s.judge j := rfl
@[simp] theorem scoreUnit_setPad (j : Player) : (s.setPad i x).scoreUnit j = s.scoreUnit j := rfl
@[simp] theorem session_setPad (j : Player) : (s.setPad i x).session j = s.session j := rfl
@[simp] theorem writer_setPad (j : Player) : (s.setPad i x).writer j = s.writer j := rfl

end setPad

section setFetcher

variable (s : State) (i : Player) (x : Fetcher)

@[simp] theorem run_setFetcher : (s.setFetcher i x).run = s.run := rfl
@[simp] theorem resetHeld_setFetcher : (s.setFetcher i x).resetHeld = s.resetHeld := rfl
@[simp] theorem root_setFetcher : (s.setFetcher i x).root = s.root := rfl
@[simp] theorem notice_setFetcher : (s.setFetcher i x).notice = s.notice := rfl
@[simp] theorem mask_setFetcher : (s.setFetcher i x).mask = s.mask := rfl
@[simp] theorem fault_setFetcher : (s.setFetcher i x).fault = s.fault := rfl
@[simp] theorem window_setFetcher : (s.setFetcher i x).window = s.window := rfl
@[simp] theorem slots_setFetcher : (s.setFetcher i x).slots = s.slots := rfl
@[simp] theorem work_setFetcher : (s.setFetcher i x).work = s.work := rfl
@[simp] theorem bus_setFetcher : (s.setFetcher i x).bus = s.bus := rfl
@[simp] theorem clock_setFetcher : (s.setFetcher i x).clock = s.clock := rfl
@[simp] theorem pads_setFetcher : (s.setFetcher i x).pads = s.pads := rfl
@[simp] theorem owners_setFetcher : (s.setFetcher i x).owners = s.owners := rfl
@[simp] theorem scan_setFetcher : (s.setFetcher i x).scan = s.scan := rfl
theorem fetchers_setFetcher : (s.setFetcher i x).fetchers = s.fetchers.set i x := rfl
@[simp] theorem judges_setFetcher : (s.setFetcher i x).judges = s.judges := rfl
@[simp] theorem scores_setFetcher : (s.setFetcher i x).scores = s.scores := rfl
@[simp] theorem sessions_setFetcher : (s.setFetcher i x).sessions = s.sessions := rfl
@[simp] theorem writers_setFetcher : (s.setFetcher i x).writers = s.writers := rfl
@[simp] theorem refresh_setFetcher : (s.setFetcher i x).refresh = s.refresh := rfl
@[simp] theorem lamps_setFetcher : (s.setFetcher i x).lamps = s.lamps := rfl
@[simp] theorem pending_setFetcher : (s.setFetcher i x).pending = s.pending := rfl
@[simp] theorem slot_setFetcher (j : SlotId) : (s.setFetcher i x).slot j = s.slot j := rfl
@[simp] theorem pad_setFetcher (j : PadId) : (s.setFetcher i x).pad j = s.pad j := rfl
@[simp] theorem owner_setFetcher (j : PadId) : (s.setFetcher i x).owner j = s.owner j := rfl
@[simp] theorem fetcher_setFetcher_same : (s.setFetcher i x).fetcher i = x := by cases i <;> rfl
theorem fetcher_setFetcher (j : Player) : (s.setFetcher i x).fetcher j = if j = i then x else s.fetcher j := by
  cases i <;> cases j <;> rfl
@[simp] theorem fetcher_setFetcher_ne (j : Player) (h : j ≠ i) : (s.setFetcher i x).fetcher j = s.fetcher j := by
  rw [fetcher_setFetcher, if_neg h]
@[simp] theorem judge_setFetcher (j : Player) : (s.setFetcher i x).judge j = s.judge j := rfl
@[simp] theorem scoreUnit_setFetcher (j : Player) : (s.setFetcher i x).scoreUnit j = s.scoreUnit j := rfl
@[simp] theorem session_setFetcher (j : Player) : (s.setFetcher i x).session j = s.session j := rfl
@[simp] theorem writer_setFetcher (j : Player) : (s.setFetcher i x).writer j = s.writer j := rfl

end setFetcher

section setJudge

variable (s : State) (i : Player) (x : Judge)

@[simp] theorem run_setJudge : (s.setJudge i x).run = s.run := rfl
@[simp] theorem resetHeld_setJudge : (s.setJudge i x).resetHeld = s.resetHeld := rfl
@[simp] theorem root_setJudge : (s.setJudge i x).root = s.root := rfl
@[simp] theorem notice_setJudge : (s.setJudge i x).notice = s.notice := rfl
@[simp] theorem mask_setJudge : (s.setJudge i x).mask = s.mask := rfl
@[simp] theorem fault_setJudge : (s.setJudge i x).fault = s.fault := rfl
@[simp] theorem window_setJudge : (s.setJudge i x).window = s.window := rfl
@[simp] theorem slots_setJudge : (s.setJudge i x).slots = s.slots := rfl
@[simp] theorem work_setJudge : (s.setJudge i x).work = s.work := rfl
@[simp] theorem bus_setJudge : (s.setJudge i x).bus = s.bus := rfl
@[simp] theorem clock_setJudge : (s.setJudge i x).clock = s.clock := rfl
@[simp] theorem pads_setJudge : (s.setJudge i x).pads = s.pads := rfl
@[simp] theorem owners_setJudge : (s.setJudge i x).owners = s.owners := rfl
@[simp] theorem scan_setJudge : (s.setJudge i x).scan = s.scan := rfl
@[simp] theorem fetchers_setJudge : (s.setJudge i x).fetchers = s.fetchers := rfl
theorem judges_setJudge : (s.setJudge i x).judges = s.judges.set i x := rfl
@[simp] theorem scores_setJudge : (s.setJudge i x).scores = s.scores := rfl
@[simp] theorem sessions_setJudge : (s.setJudge i x).sessions = s.sessions := rfl
@[simp] theorem writers_setJudge : (s.setJudge i x).writers = s.writers := rfl
@[simp] theorem refresh_setJudge : (s.setJudge i x).refresh = s.refresh := rfl
@[simp] theorem lamps_setJudge : (s.setJudge i x).lamps = s.lamps := rfl
@[simp] theorem pending_setJudge : (s.setJudge i x).pending = s.pending := rfl
@[simp] theorem slot_setJudge (j : SlotId) : (s.setJudge i x).slot j = s.slot j := rfl
@[simp] theorem pad_setJudge (j : PadId) : (s.setJudge i x).pad j = s.pad j := rfl
@[simp] theorem owner_setJudge (j : PadId) : (s.setJudge i x).owner j = s.owner j := rfl
@[simp] theorem fetcher_setJudge (j : Player) : (s.setJudge i x).fetcher j = s.fetcher j := rfl
@[simp] theorem judge_setJudge_same : (s.setJudge i x).judge i = x := by cases i <;> rfl
theorem judge_setJudge (j : Player) : (s.setJudge i x).judge j = if j = i then x else s.judge j := by
  cases i <;> cases j <;> rfl
@[simp] theorem judge_setJudge_ne (j : Player) (h : j ≠ i) : (s.setJudge i x).judge j = s.judge j := by
  rw [judge_setJudge, if_neg h]
@[simp] theorem scoreUnit_setJudge (j : Player) : (s.setJudge i x).scoreUnit j = s.scoreUnit j := rfl
@[simp] theorem session_setJudge (j : Player) : (s.setJudge i x).session j = s.session j := rfl
@[simp] theorem writer_setJudge (j : Player) : (s.setJudge i x).writer j = s.writer j := rfl

end setJudge

section setScore

variable (s : State) (i : Player) (x : Score)

@[simp] theorem run_setScore : (s.setScore i x).run = s.run := rfl
@[simp] theorem resetHeld_setScore : (s.setScore i x).resetHeld = s.resetHeld := rfl
@[simp] theorem root_setScore : (s.setScore i x).root = s.root := rfl
@[simp] theorem notice_setScore : (s.setScore i x).notice = s.notice := rfl
@[simp] theorem mask_setScore : (s.setScore i x).mask = s.mask := rfl
@[simp] theorem fault_setScore : (s.setScore i x).fault = s.fault := rfl
@[simp] theorem window_setScore : (s.setScore i x).window = s.window := rfl
@[simp] theorem slots_setScore : (s.setScore i x).slots = s.slots := rfl
@[simp] theorem work_setScore : (s.setScore i x).work = s.work := rfl
@[simp] theorem bus_setScore : (s.setScore i x).bus = s.bus := rfl
@[simp] theorem clock_setScore : (s.setScore i x).clock = s.clock := rfl
@[simp] theorem pads_setScore : (s.setScore i x).pads = s.pads := rfl
@[simp] theorem owners_setScore : (s.setScore i x).owners = s.owners := rfl
@[simp] theorem scan_setScore : (s.setScore i x).scan = s.scan := rfl
@[simp] theorem fetchers_setScore : (s.setScore i x).fetchers = s.fetchers := rfl
@[simp] theorem judges_setScore : (s.setScore i x).judges = s.judges := rfl
theorem scores_setScore : (s.setScore i x).scores = s.scores.set i x := rfl
@[simp] theorem sessions_setScore : (s.setScore i x).sessions = s.sessions := rfl
@[simp] theorem writers_setScore : (s.setScore i x).writers = s.writers := rfl
@[simp] theorem refresh_setScore : (s.setScore i x).refresh = s.refresh := rfl
@[simp] theorem lamps_setScore : (s.setScore i x).lamps = s.lamps := rfl
@[simp] theorem pending_setScore : (s.setScore i x).pending = s.pending := rfl
@[simp] theorem slot_setScore (j : SlotId) : (s.setScore i x).slot j = s.slot j := rfl
@[simp] theorem pad_setScore (j : PadId) : (s.setScore i x).pad j = s.pad j := rfl
@[simp] theorem owner_setScore (j : PadId) : (s.setScore i x).owner j = s.owner j := rfl
@[simp] theorem fetcher_setScore (j : Player) : (s.setScore i x).fetcher j = s.fetcher j := rfl
@[simp] theorem judge_setScore (j : Player) : (s.setScore i x).judge j = s.judge j := rfl
@[simp] theorem scoreUnit_setScore_same : (s.setScore i x).scoreUnit i = x := by cases i <;> rfl
theorem scoreUnit_setScore (j : Player) : (s.setScore i x).scoreUnit j = if j = i then x else s.scoreUnit j := by
  cases i <;> cases j <;> rfl
@[simp] theorem scoreUnit_setScore_ne (j : Player) (h : j ≠ i) : (s.setScore i x).scoreUnit j = s.scoreUnit j := by
  rw [scoreUnit_setScore, if_neg h]
@[simp] theorem session_setScore (j : Player) : (s.setScore i x).session j = s.session j := rfl
@[simp] theorem writer_setScore (j : Player) : (s.setScore i x).writer j = s.writer j := rfl

end setScore

section setSession

variable (s : State) (i : Player) (x : Session)

@[simp] theorem run_setSession : (s.setSession i x).run = s.run := rfl
@[simp] theorem resetHeld_setSession : (s.setSession i x).resetHeld = s.resetHeld := rfl
@[simp] theorem root_setSession : (s.setSession i x).root = s.root := rfl
@[simp] theorem notice_setSession : (s.setSession i x).notice = s.notice := rfl
@[simp] theorem mask_setSession : (s.setSession i x).mask = s.mask := rfl
@[simp] theorem fault_setSession : (s.setSession i x).fault = s.fault := rfl
@[simp] theorem window_setSession : (s.setSession i x).window = s.window := rfl
@[simp] theorem slots_setSession : (s.setSession i x).slots = s.slots := rfl
@[simp] theorem work_setSession : (s.setSession i x).work = s.work := rfl
@[simp] theorem bus_setSession : (s.setSession i x).bus = s.bus := rfl
@[simp] theorem clock_setSession : (s.setSession i x).clock = s.clock := rfl
@[simp] theorem pads_setSession : (s.setSession i x).pads = s.pads := rfl
@[simp] theorem owners_setSession : (s.setSession i x).owners = s.owners := rfl
@[simp] theorem scan_setSession : (s.setSession i x).scan = s.scan := rfl
@[simp] theorem fetchers_setSession : (s.setSession i x).fetchers = s.fetchers := rfl
@[simp] theorem judges_setSession : (s.setSession i x).judges = s.judges := rfl
@[simp] theorem scores_setSession : (s.setSession i x).scores = s.scores := rfl
theorem sessions_setSession : (s.setSession i x).sessions = s.sessions.set i x := rfl
@[simp] theorem writers_setSession : (s.setSession i x).writers = s.writers := rfl
@[simp] theorem refresh_setSession : (s.setSession i x).refresh = s.refresh := rfl
@[simp] theorem lamps_setSession : (s.setSession i x).lamps = s.lamps := rfl
@[simp] theorem pending_setSession : (s.setSession i x).pending = s.pending := rfl
@[simp] theorem slot_setSession (j : SlotId) : (s.setSession i x).slot j = s.slot j := rfl
@[simp] theorem pad_setSession (j : PadId) : (s.setSession i x).pad j = s.pad j := rfl
@[simp] theorem owner_setSession (j : PadId) : (s.setSession i x).owner j = s.owner j := rfl
@[simp] theorem fetcher_setSession (j : Player) : (s.setSession i x).fetcher j = s.fetcher j := rfl
@[simp] theorem judge_setSession (j : Player) : (s.setSession i x).judge j = s.judge j := rfl
@[simp] theorem scoreUnit_setSession (j : Player) : (s.setSession i x).scoreUnit j = s.scoreUnit j := rfl
@[simp] theorem session_setSession_same : (s.setSession i x).session i = x := by cases i <;> rfl
theorem session_setSession (j : Player) : (s.setSession i x).session j = if j = i then x else s.session j := by
  cases i <;> cases j <;> rfl
@[simp] theorem session_setSession_ne (j : Player) (h : j ≠ i) : (s.setSession i x).session j = s.session j := by
  rw [session_setSession, if_neg h]
@[simp] theorem writer_setSession (j : Player) : (s.setSession i x).writer j = s.writer j := rfl

end setSession

section setWriter

variable (s : State) (i : Player) (x : Writer)

@[simp] theorem run_setWriter : (s.setWriter i x).run = s.run := rfl
@[simp] theorem resetHeld_setWriter : (s.setWriter i x).resetHeld = s.resetHeld := rfl
@[simp] theorem root_setWriter : (s.setWriter i x).root = s.root := rfl
@[simp] theorem notice_setWriter : (s.setWriter i x).notice = s.notice := rfl
@[simp] theorem mask_setWriter : (s.setWriter i x).mask = s.mask := rfl
@[simp] theorem fault_setWriter : (s.setWriter i x).fault = s.fault := rfl
@[simp] theorem window_setWriter : (s.setWriter i x).window = s.window := rfl
@[simp] theorem slots_setWriter : (s.setWriter i x).slots = s.slots := rfl
@[simp] theorem work_setWriter : (s.setWriter i x).work = s.work := rfl
@[simp] theorem bus_setWriter : (s.setWriter i x).bus = s.bus := rfl
@[simp] theorem clock_setWriter : (s.setWriter i x).clock = s.clock := rfl
@[simp] theorem pads_setWriter : (s.setWriter i x).pads = s.pads := rfl
@[simp] theorem owners_setWriter : (s.setWriter i x).owners = s.owners := rfl
@[simp] theorem scan_setWriter : (s.setWriter i x).scan = s.scan := rfl
@[simp] theorem fetchers_setWriter : (s.setWriter i x).fetchers = s.fetchers := rfl
@[simp] theorem judges_setWriter : (s.setWriter i x).judges = s.judges := rfl
@[simp] theorem scores_setWriter : (s.setWriter i x).scores = s.scores := rfl
@[simp] theorem sessions_setWriter : (s.setWriter i x).sessions = s.sessions := rfl
theorem writers_setWriter : (s.setWriter i x).writers = s.writers.set i x := rfl
@[simp] theorem refresh_setWriter : (s.setWriter i x).refresh = s.refresh := rfl
@[simp] theorem lamps_setWriter : (s.setWriter i x).lamps = s.lamps := rfl
@[simp] theorem pending_setWriter : (s.setWriter i x).pending = s.pending := rfl
@[simp] theorem slot_setWriter (j : SlotId) : (s.setWriter i x).slot j = s.slot j := rfl
@[simp] theorem pad_setWriter (j : PadId) : (s.setWriter i x).pad j = s.pad j := rfl
@[simp] theorem owner_setWriter (j : PadId) : (s.setWriter i x).owner j = s.owner j := rfl
@[simp] theorem fetcher_setWriter (j : Player) : (s.setWriter i x).fetcher j = s.fetcher j := rfl
@[simp] theorem judge_setWriter (j : Player) : (s.setWriter i x).judge j = s.judge j := rfl
@[simp] theorem scoreUnit_setWriter (j : Player) : (s.setWriter i x).scoreUnit j = s.scoreUnit j := rfl
@[simp] theorem session_setWriter (j : Player) : (s.setWriter i x).session j = s.session j := rfl
@[simp] theorem writer_setWriter_same : (s.setWriter i x).writer i = x := by cases i <;> rfl
theorem writer_setWriter (j : Player) : (s.setWriter i x).writer j = if j = i then x else s.writer j := by
  cases i <;> cases j <;> rfl
@[simp] theorem writer_setWriter_ne (j : Player) (h : j ≠ i) : (s.setWriter i x).writer j = s.writer j := by
  rw [writer_setWriter, if_neg h]

end setWriter

end State

end Sys2Proof.Machine
end

