-- ==== Sys2Proof/Laws/Frame.lean ====
section
/-! SUPPORT. What the steps of a judge, a fetcher and a closing can do to the part as a whole: one relation, and one
lemma for each shared operation. -/

namespace Sys2Proof.Machine

/-- What a judge's, a fetcher's or a closing's step leaves: the part as a whole, the clock, the slots, the work list and
the bus are untouched, the laws of the Score Units are kept, the pools keep their size, and nobody becomes PLAYING
without a song. -/
structure Inner (s t : State) : Prop where
  run : t.run = s.run
  resetHeld : t.resetHeld = s.resetHeld
  root : t.root = s.root
  mask : t.mask = s.mask
  window : t.window = s.window
  slots : t.slots = s.slots
  work : t.work = s.work
  bus : t.bus = s.bus
  clock : t.clock = s.clock
  owners : t.owners = s.owners
  scan : t.scan = s.scan
  pending : t.pending = s.pending
  score : ∀ pl, ScoreStep (s.scoreUnit pl) (t.scoreUnit pl)
  pool : ∀ pl, (t.judge pl).pool.length = (s.judge pl).pool.length
  padSet : ∀ pl, (t.session pl).padSet = (s.session pl).padSet
  playing : ∀ pl, (t.session pl).state = .playing →
    (s.session pl).state = .playing ∨ s.clock.state = .running ∨ s.clock.state = .paused

namespace Inner

variable {s t : State}

theorem refl (s : State) : Inner s s :=
  ⟨rfl, rfl, rfl, rfl, rfl, rfl, rfl, rfl, rfl, rfl, rfl, rfl, fun _ => .refl _, fun _ => rfl, fun _ => rfl,
    fun _ h => .inl h⟩

theorem trans {u : State} (h : Inner s t) (k : Inner t u) : Inner s u where
  run := k.run.trans h.run
  resetHeld := k.resetHeld.trans h.resetHeld
  root := k.root.trans h.root
  mask := k.mask.trans h.mask
  window := k.window.trans h.window
  slots := k.slots.trans h.slots
  work := k.work.trans h.work
  bus := k.bus.trans h.bus
  clock := k.clock.trans h.clock
  owners := k.owners.trans h.owners
  scan := k.scan.trans h.scan
  pending := k.pending.trans h.pending
  score pl := (h.score pl).trans (k.score pl)
  pool pl := (k.pool pl).trans (h.pool pl)
  padSet pl := (k.padSet pl).trans (h.padSet pl)
  playing pl p := by
    rcases k.playing pl p with q | q
    · exact h.playing pl q
    · rw [h.clock] at q
      exact .inr q

/-! ### Updates of one block -/

theorem setJudge (h : Inner s t) (pl : Player) (j : Judge) (k : j.pool.length = (t.judge pl).pool.length) :
    Inner s (t.setJudge pl j) :=
  h.trans ⟨rfl, rfl, rfl, rfl, rfl, rfl, rfl, rfl, rfl, rfl, rfl, rfl, fun _ => .refl _,
    fun q => by rw [State.judge_setJudge]; split <;> simp_all, fun _ => rfl, fun _ p => .inl p⟩

theorem setScore (h : Inner s t) (pl : Player) (c : Score) (k : ScoreStep (t.scoreUnit pl) c) :
    Inner s (t.setScore pl c) :=
  h.trans ⟨rfl, rfl, rfl, rfl, rfl, rfl, rfl, rfl, rfl, rfl, rfl, rfl,
    fun q => by
      rw [State.scoreUnit_setScore]
      split
      · rename_i e; rw [e]; exact k
      · exact .refl _,
    fun _ => rfl, fun _ => rfl, fun _ p => .inl p⟩

theorem setSession (h : Inner s t) (pl : Player) (x : Session) (set : x.padSet = (t.session pl).padSet)
    (play : x.state = .playing → (t.session pl).state = .playing ∨ t.clock.state = .running ∨ t.clock.state = .paused) :
    Inner s (t.setSession pl x) :=
  h.trans ⟨rfl, rfl, rfl, rfl, rfl, rfl, rfl, rfl, rfl, rfl, rfl, rfl, fun _ => .refl _, fun _ => rfl,
    fun q => by
      rw [State.session_setSession]
      split
      · rename_i e; rw [e]; exact set
      · rfl,
    fun q => by
      rw [State.session_setSession]
      split
      · rename_i e; rw [e]; exact play
      · exact fun p => .inl p⟩

/-- An update outside everything the relation speaks of. -/
theorem of_rfl (h : Inner s t) {u : State}
    (k : u = { t with
      pads := u.pads, fetchers := u.fetchers, writers := u.writers, refresh := u.refresh, lamps := u.lamps,
      fault := u.fault, notice := u.notice }) : Inner s u := by
  rw [k]
  exact h.trans ⟨rfl, rfl, rfl, rfl, rfl, rfl, rfl, rfl, rfl, rfl, rfl, rfl, fun _ => .refl _, fun _ => rfl,
    fun _ => rfl, fun _ p => .inl p⟩

theorem setFetcher (h : Inner s t) (pl : Player) (x : Fetcher) : Inner s (t.setFetcher pl x) := h.of_rfl rfl
theorem setWriter (h : Inner s t) (pl : Player) (x : Writer) : Inner s (t.setWriter pl x) := h.of_rfl rfl
theorem setRefresh (h : Inner s t) (x : Refresh) : Inner s (t.setRefresh x) := h.of_rfl rfl
theorem setLamps (h : Inner s t) (x : Lamps) : Inner s (t.setLamps x) := h.of_rfl rfl
theorem setPad (h : Inner s t) (i : PadId) (x : Pad) : Inner s (t.setPad i x) := h.of_rfl rfl
theorem setFault (h : Inner s t) (x : FaultRecord) : Inner s (t.setFault x) := h.of_rfl rfl
theorem setNotices (h : Inner s t) (x : BitVec 8) : Inner s (t.setNotices x) := h.of_rfl rfl

theorem onFetcher (h : Inner s t) (pl : Player) (f : Fetcher → Fetcher) : Inner s (t.onFetcher pl f) :=
  h.setFetcher pl _
theorem onWriter (h : Inner s t) (pl : Player) (f : Writer → Writer) : Inner s (t.onWriter pl f) := h.setWriter pl _
theorem onJudge (h : Inner s t) (pl : Player) (f : Judge → Judge)
    (k : (f (t.judge pl)).pool.length = (t.judge pl).pool.length) : Inner s (t.onJudge pl f) := h.setJudge pl _ k
theorem onScore (h : Inner s t) (pl : Player) (f : Score → Score) (k : ∀ c, ScoreStep c (f c)) :
    Inner s (t.onScore pl f) := h.setScore pl _ (k _)
theorem onPanel (h : Inner s t) (pad : PadId) (p : PanelId) (f : Panel → Panel) : Inner s (t.onPanel pad p f) :=
  h.setPad pad _

theorem onEntry (h : Inner s t) (pl : Player) (i : Nat) (f : Entry → Entry) : Inner s (t.onEntry pl i f) :=
  h.onJudge pl _ (List.length_modify _ _ _)

theorem setChord (h : Inner s t) (pl : Player) (k : Fin 8) (c : Option Chord) : Inner s (t.setChord pl k c) :=
  h.onJudge pl _ rfl

/-! ### Folds -/

theorem foldl {α : Type} (f : State → α → State) (step : ∀ t a, Inner s t → Inner s (f t a)) (l : List α) :
    ∀ t, Inner s t → Inner s (l.foldl f t) := by
  induction l with
  | nil => exact fun _ h => h
  | cons a l ih => exact fun t h => ih _ (step t a h)

/-! ### Flags, faults, lamps -/

theorem raise (h : Inner s t) (b : BitVec 8) : Inner s (t.raise b) := h.setNotices _
theorem logFaultAt (h : Inner s t) (k : FaultKind) (pl : Option Player) (a b : Nat) (v : Int) :
    Inner s (t.logFaultAt k pl a b v) := (h.setFault _).raise _
theorem logFault (h : Inner s t) (k : FaultKind) (pl : Option Player) (a b : Nat) : Inner s (t.logFault k pl a b) :=
  h.logFaultAt k pl a b _
theorem flag (h : Inner s t) (pl : Player) (f : BitVec 16) : Inner s (t.flag pl f) := h.setScore pl _ (.setFlag _ f)
theorem flagBoth (h : Inner s t) (f : BitVec 16) : Inner s (t.flagBoth f) := (h.flag .p0 f).flag .p1 f
theorem reportSync (h : Inner s t) (f : BitVec 16) : Inner s (t.reportSync f) := (h.raise _).flagBoth f
theorem flagOwner (h : Inner s t) (pad : PadId) (f : BitVec 16) : Inner s (t.flagOwner pad f) := by
  unfold State.flagOwner
  split
  · exact h
  · exact h.flag _ f

theorem settle (h : Inner s t) (pl : Player) (x : Settlement) : Inner s (t.settle pl x) :=
  h.onScore pl _ (fun c => .apply c x)

theorem trigger (h : Inner s t) (pl : Player) (k : Trigger) (level : Nat) (pad : PadId) (p : PanelId) :
    Inner s (t.trigger pl k level pad p) := by
  unfold State.trigger
  split
  · exact h.setLamps _
  · exact h

theorem triggerBeat (h : Inner s t) (pl : Player) (level : Nat) : Inner s (t.triggerBeat pl level) :=
  foldl _ (fun _ _ k => k.trigger pl .beat level _ _) _ _ h

theorem triggerLane (h : Inner s t) (pl : Player) (k : Trigger) (level lane : Nat) :
    Inner s (t.triggerLane pl k level lane) := by
  unfold State.triggerLane
  split
  · exact h
  · exact h.trigger ..

theorem markHold (h : Inner s t) (pl : Player) (lane : Nat) (on : Bool) : Inner s (t.markHold pl lane on) := by
  unfold State.markHold
  split
  · exact h
  · exact h.onPanel ..

/-! ### Entries, lists and chords (Judge.lean) -/

theorem reportRoom (h : Inner s t) (pl : Player) (lane : Option Nat) : Inner s (t.reportRoom pl lane) :=
  h.onFetcher pl _

theorem makeFinal (h : Inner s t) (pl : Player) (i : Nat) : Inner s (t.makeFinal pl i) := (h.onEntry pl i _).onWriter pl _

theorem dropFromLane_pool (j : Judge) (lane i : Nat) :
    (j.dropFromLane lane i).pool = j.pool := by
  unfold Judge.dropFromLane
  split <;> rfl

theorem leaveLane (h : Inner s t) (pl : Player) (i : Nat) : Inner s (t.leaveLane pl i) :=
  (h.onJudge pl _ (congrArg List.length (Inner.dropFromLane_pool _ _ _))).reportRoom pl _

theorem leaveBeats (h : Inner s t) (pl : Player) (i : Nat) : Inner s (t.leaveBeats pl i) :=
  (h.onJudge pl _ rfl).reportRoom pl none

theorem finishMember (h : Inner s t) (pl : Player) (i : Nat) : Inner s (t.finishMember pl i) := by
  unfold State.finishMember
  split
  · exact h.makeFinal pl i
  · exact h

theorem settleChord (h : Inner s t) (pl : Player) (k : Fin 8) : Inner s (t.settleChord pl k) := by
  unfold State.settleChord
  split
  · exact h
  · refine ((foldl _ (fun _ _ k => k.onEntry pl _ _) _ _ ?_).setChord pl k none).reportRoom pl none
    refine foldl _ (fun _ _ k => k.finishMember pl _) _ _ ?_
    exact foldl _ (fun _ _ k => k.onEntry pl _ _) _ _ (h.settle pl _)

theorem settleChordIfComplete (h : Inner s t) (pl : Player) (k : Fin 8) : Inner s (t.settleChordIfComplete pl k) := by
  unfold State.settleChordIfComplete
  split
  · exact h
  · split
    · exact h.settleChord pl k
    · exact h

theorem reportGrade (h : Inner s t) (pl : Player) (k : Fin 8) (g : Grade) : Inner s (t.reportGrade pl k g) := by
  unfold State.reportGrade
  split
  · exact h
  · exact (h.setChord pl k _).settleChordIfComplete pl k

theorem settleUnitOf (h : Inner s t) (pl : Player) (u : Option Nat) (g : Grade) : Inner s (t.settleUnitOf pl u g) := by
  unfold State.settleUnitOf
  split
  · exact h
  · exact h.settle pl _

theorem finishTap (h : Inner s t) (pl : Player) (i : Nat) : Inner s (t.finishTap pl i) := by
  unfold State.finishTap
  simp only
  split
  · exact (((h.leaveLane pl i).onEntry pl i _).makeFinal pl i).settleUnitOf pl _ _
  · exact ((h.leaveLane pl i).onEntry pl i _).reportGrade pl _ _

theorem settleHead (h : Inner s t) (pl : Player) (i : Nat) : Inner s (t.settleHead pl i) := by
  unfold State.settleHead
  simp only
  split
  · exact (h.onEntry pl i _).settleUnitOf pl _ _
  · exact h.reportGrade pl _ _

theorem settleTail (h : Inner s t) (pl : Player) (u : Option Nat) (held : Bool) (delta : Int) :
    Inner s (t.settleTail pl u held delta) := by
  unfold State.settleTail
  split
  · exact h
  · exact h.settle pl _

theorem finalOrJudged (h : Inner s t) (pl : Player) (i : Nat) : Inner s (t.finalOrJudged pl i) := by
  unfold State.finalOrJudged
  split
  · exact h.makeFinal pl i
  · exact h.onEntry pl i _

theorem completeTail (h : Inner s t) (pl : Player) (i : Nat) (held : Bool) : Inner s (t.completeTail pl i held) :=
  ((((h.onEntry pl i _).settleTail pl _ held _).markHold pl _ false).leaveLane pl i).finalOrJudged pl i

theorem enterHeld (h : Inner s t) (pl : Player) (i : Nat) : Inner s (t.enterHeld pl i) := by
  unfold State.enterHeld
  simp only
  split
  · exact ((h.onEntry pl i _).markHold pl _ true).completeTail pl i true
  · exact (h.onEntry pl i _).markHold pl _ true

theorem endSlip (h : Inner s t) (pl : Player) (i : Nat) (q : Int) : Inner s (t.endSlip pl i q) := h.completeTail pl i _

theorem slipAt (h : Inner s t) (pl : Player) (i : Nat) (q : Int) (forced : Bool) : Inner s (t.slipAt pl i q forced) :=
  h.onEntry pl i _

theorem slipHold (h : Inner s t) (pl : Player) (i : Nat) (q : Int) (forced : Bool) :
    Inner s (t.slipHold pl i q forced) := by
  unfold State.slipHold
  simp only
  split
  · exact h.slipAt pl i q forced
  · split
    · exact (h.slipAt pl i q forced).endSlip pl i q
    · exact h.slipAt pl i q forced

theorem gradeEntry (h : Inner s t) (pl : Player) (i : Nat) (d : Int) : Inner s (t.gradeEntry pl i d) := by
  unfold State.gradeEntry
  simp only
  have k := ((h.onEntry pl i (fun e => { e with own := (t.params pl).gradeOf d, offset := d })).onScore pl
    (fun c => c.takeOffset d) (fun c => .takeOffset c d)).triggerLane pl .grade
    ((t.onEntry pl i (fun e => { e with own := (t.params pl).gradeOf d, offset := d })).entry pl i).record.cue
    ((t.onEntry pl i (fun e => { e with own := (t.params pl).gradeOf d, offset := d })).entry pl i).record.lane
  split
  · exact ((k.onEntry pl i _).settleHead pl i).enterHeld pl i
  · exact k.finishTap pl i

theorem lapseEntry (h : Inner s t) (pl : Player) (i : Nat) : Inner s (t.lapseEntry pl i) := by
  unfold State.lapseEntry
  simp only
  split
  · exact (((((h.onEntry pl i _).leaveLane pl i).settleHead pl i).onEntry pl i _).settleTail pl _ false 0).finalOrJudged
      pl i
  · exact (h.onEntry pl i _).finishTap pl i

theorem strikeEntry (h : Inner s t) (pl : Player) (i : Nat) (d : Int) : Inner s (t.strikeEntry pl i d) :=
  ((((h.onEntry pl i _).leaveLane pl i).makeFinal pl i).settle pl _).triggerLane pl .strike 255 _

theorem avoidEntry (h : Inner s t) (pl : Player) (i : Nat) : Inner s (t.avoidEntry pl i) :=
  (((h.onEntry pl i _).leaveLane pl i).makeFinal pl i).settle pl .avoided

theorem crossEntry (h : Inner s t) (pl : Player) (i : Nat) (p : PanelState) : Inner s (t.crossEntry pl i p) := by
  unfold State.crossEntry
  split
  · exact h.strikeEntry pl i 0
  · exact h.onEntry pl i _

theorem passBeat (h : Inner s t) (pl : Player) (i : Nat) : Inner s (t.passBeat pl i) :=
  (((h.onEntry pl i _).makeFinal pl i).leaveBeats pl i).triggerBeat pl _

/-! ### Closing (Closing.lean) -/

theorem freeEntry (h : Inner s t) (pl : Player) (i : Nat) : Inner s (t.freeEntry pl i) := h.onEntry pl i _

theorem returnReserved (h : Inner s t) (pl : Player) : Inner s (t.returnReserved pl) := by
  unfold State.returnReserved
  split
  · exact h
  · exact (h.freeEntry pl _).onFetcher pl _

theorem stopFetcher (h : Inner s t) (pl : Player) : Inner s (t.stopFetcher pl) := (h.returnReserved pl).onFetcher pl _

theorem voidChord (h : Inner s t) (pl : Player) (k : Fin 8) : Inner s (t.voidChord pl k) := by
  unfold State.voidChord
  split
  · exact h
  · exact (foldl _ (fun _ _ k => k.onEntry pl _ _) _ _ (h.settle pl _)).setChord pl k none

theorem voidUnit (h : Inner s t) (pl : Player) (u : Option Nat) : Inner s (t.voidUnit pl u) := by
  unfold State.voidUnit
  split
  · exact h
  · exact h.settle pl _

theorem dropEntry (h : Inner s t) (pl : Player) (i lane : Nat) :
    Inner s (((t.onEntry pl i (fun e => { e with chord := none })).onJudge pl (fun j =>
      { j.dropFromLane lane i with beats := j.beats.erase i })).makeFinal pl i) :=
  ((h.onEntry pl i _).onJudge pl _ (congrArg List.length (Inner.dropFromLane_pool _ _ _))).makeFinal pl i

theorem finishEntry (h : Inner s t) (pl : Player) (i : Nat) : Inner s (t.finishEntry pl i) := by
  unfold State.finishEntry
  simp only
  split
  · refine dropEntry ?_ pl i _
    split <;> split
    · exact (((h.onEntry pl i _).onEntry pl i _ |>.voidUnit pl _).onEntry pl i _).voidUnit pl _
    · exact ((h.onEntry pl i _).onEntry pl i _).voidUnit pl _
    · exact ((h.onEntry pl i _).onEntry pl i _).voidUnit pl _
    · exact h.onEntry pl i _
  · exact dropEntry (h.onEntry pl i _) pl i _
  · exact dropEntry (h.onEntry pl i _) pl i _
  · exact dropEntry (((h.onEntry pl i _).voidUnit pl _).markHold pl _ false) pl i _
  · exact dropEntry (((h.onEntry pl i _).voidUnit pl _).markHold pl _ false) pl i _
  · exact dropEntry h pl i _
  · exact h

theorem finishEntries (h : Inner s t) (pl : Player) : Inner s (t.finishEntries pl) :=
  foldl _ (fun _ _ k => k.finishEntry pl _) _ _ (foldl _ (fun _ _ k => k.voidChord pl _) _ _ h)

theorem askFinal (h : Inner s t) (pl : Player) : Inner s (t.askFinal pl) := by
  unfold State.askFinal
  split
  · exact (h.setSession pl { t.session pl with finalAsked := true } rfl (fun p => .inl p)).setRefresh _
  · exact h

theorem enterClosing (h : Inner s t) (pl : Player) (o : StageOutcome)
    (k : o = .failed → (t.scoreUnit pl).outcome = .failed) : Inner s (t.enterClosing pl o) := by
  have a : Inner s (t.onScore pl (fun c => c.conclude o)) := h.setScore pl _ (.conclude _ o k)
  have b := a.setSession pl
    { (t.onScore pl (fun c => c.conclude o)).session pl with state := .closing, finalAsked := false } rfl
    (fun p => (nomatch p))
  exact ((b.stopFetcher pl).finishEntries pl).askFinal pl

theorem endJudgeStep (h : Inner s t) (pl : Player) : Inner s (t.endJudgeStep pl) := by
  unfold State.endJudgeStep
  split
  · rename_i c
    exact h.enterClosing pl .failed (fun _ => c.2)
  · exact h

theorem clearingCheck (h : Inner s t) (pl : Player) : Inner s (t.clearingCheck pl) := by
  unfold State.clearingCheck
  split
  · exact h
  · split
    · exact h.enterClosing pl .cleared (fun p => (nomatch p))
    · exact h

/-! ### Presses, releases and due times (Matching.lean) -/

theorem testAvoid (h : Inner s t) (pl : Player) (p : Int) (i : Nat) : Inner s (t.testAvoid pl p i) := by
  unfold State.testAvoid
  simp only
  split
  · exact h.strikeEntry pl i _
  · exact h

theorem freeStep (h : Inner s t) (pl : Player) : Inner s (t.onScore pl Score.freeStep) := h.onScore pl _ .freeStep

theorem matchOrFree (h : Inner s t) (pl : Player) (l : Nat) (p : Int) : Inner s (t.matchOrFree pl l p) := by
  unfold State.matchOrFree
  simp only
  have k := foldl (s := s) (fun t i => t.testAvoid pl p i) (fun _ _ k => k.testAvoid pl p _) ((t.judge pl).lane l) t h
  split
  · exact k.gradeEntry pl _ _
  · exact k.freeStep pl

theorem usePress (h : Inner s t) (pl : Player) (l : Nat) (p : Int) : Inner s (t.usePress pl l p) := by
  unfold State.usePress
  split
  · split
    · exact h.enterHeld pl _
    · exact h.matchOrFree pl l p
  · exact h.matchOrFree pl l p

theorem judgePress (h : Inner s t) (pl : Player) (pad : PadId) (p : PanelId) (stamp : Int) :
    Inner s (t.judgePress pl pad p stamp) := by
  unfold State.judgePress
  split
  · exact h
  · split
    · split
      · exact (h.usePress pl _ stamp).endJudgeStep pl
      · exact h.freeStep pl
      · exact h
    · exact h

theorem judgeRelease (h : Inner s t) (pl : Player) (pad : PadId) (p : PanelId) (stamp : Int) (forced : Bool) :
    Inner s (t.judgeRelease pl pad p stamp forced) := by
  unfold State.judgeRelease
  split
  · exact h
  · split
    · split
      · exact h
      · exact (h.slipHold pl _ stamp forced).endJudgeStep pl
    · exact h

theorem serveDue (h : Inner s t) (seen : PerPad Pad) (pl : Player) (i : Nat) : Inner s (t.serveDue seen pl i) := by
  unfold State.serveDue
  simp only
  split
  · exact h.lapseEntry pl i
  · exact h.passBeat pl i
  · split
    · exact h.avoidEntry pl i
    · exact h.crossEntry pl i _
  · exact h.completeTail pl i true
  · split
    · exact h
    · exact h.endSlip pl i _
  · exact h

theorem serveDues (seen : PerPad Pad) (pl : Player) (v : Int) (fuel : Nat) :
    ∀ t, Inner s t → Inner s (t.serveDues seen pl v fuel) := by
  induction fuel with
  | zero => exact fun _ h => h
  | succ n ih =>
    intro t h
    unfold State.serveDues
    split
    · split
      · exact h
      · exact ih _ ((h.serveDue seen pl _).endJudgeStep pl)
    · exact h

theorem handOver (h : Inner s t) (seen : PerPad Pad) (pl : Player) (v : Int) : Inner s (t.handOver seen pl v) :=
  ((serveDues seen pl v _ _ (h.onJudge pl (fun j => { j with judged := v, serving := true }) rfl)).onJudge pl
    (fun j => { j with serving := false }) rfl).clearingCheck pl

theorem handToBoth (h : Inner s t) (first : Player) : Inner s (t.handToBoth first) :=
  (h.handOver _ first _).handOver _ first.other _

theorem becomePlaying (h : Inner s t) (pl : Player) (k : t.clock.state = .running ∨ t.clock.state = .paused) :
    Inner s (t.becomePlaying pl) :=
  (serveDues _ pl _ _ _ (h.setSession pl { t.session pl with state := .playing } rfl (fun _ => .inr k))).clearingCheck pl

theorem reconcileEntry (h : Inner s t) (pl : Player) (i : Nat) : Inner s (t.reconcileEntry pl i) := by
  unfold State.reconcileEntry
  simp only
  split
  · split
    · exact h
    · exact h.slipAt pl i _ false
  · split
    · exact h.enterHeld pl i
    · exact h
  · exact h

theorem reconcile (h : Inner s t) (pl : Player) : Inner s (t.reconcile pl) := by
  unfold State.reconcile
  split
  · exact (foldl _ (fun _ _ k => k.reconcileEntry pl _) _ _ h).endJudgeStep pl
  · exact h

/-! ### Pad Sense's events (Pads.lean) -/

theorem emit (h : Inner s t) (pad : PadId) (p : PanelId) (e : PadEvent) : Inner s (t.emit pad p e) := by
  cases e with
  | press stamp =>
    unfold State.emit
    simp only
    split
    · exact h
    · exact h.judgePress _ pad p stamp
  | release stamp forced =>
    unfold State.emit
    simp only
    have k : Inner s (if forced then t.flagOwner pad flagForcedRelease else t) := by
      split
      · exact h.flagOwner pad _
      · exact h
    split
    · exact k
    · exact k.judgeRelease _ pad p stamp forced

theorem emitAll (h : Inner s t) (pad : PadId) (p : PanelId) (e : Option PadEvent) : Inner s (t.emitAll pad p e) := by
  cases e with
  | none => exact h
  | some e => exact h.emit pad p e

theorem applyRound (h : Inner s t) (pad : PadId) (p : PanelId) (r : PanelRound) : Inner s (t.applyRound pad p r) :=
  (h.setPad pad _).emitAll pad p _

theorem roundPanel (h : Inner s t) (pad : PadId) (p : PanelId) (stamp : Int) : Inner s (t.roundPanel pad p stamp) := by
  unfold State.roundPanel
  split
  · exact h.applyRound pad p _
  · exact h

theorem killIfDead (h : Inner s t) (pad : PadId) (p : PanelId) (stamp : Int) : Inner s (t.killIfDead pad p stamp) := by
  unfold State.killIfDead
  simp only
  split
  · exact (h.setPad pad _).emitAll pad p _
  · exact h

theorem reviveIfAlive (h : Inner s t) (pad : PadId) (p : PanelId) : Inner s (t.reviveIfAlive pad p) := by
  unfold State.reviveIfAlive
  simp only
  split
  · exact h.setPad pad _
  · exact h

theorem onSensor (h : Inner s t) (c : SensorName) (f : Sensor → Sensor) : Inner s (t.onSensor c f) := h.setPad c.pad _

theorem failSensor (h : Inner s t) (c : SensorName) : Inner s (t.failSensor c) :=
  (((h.onSensor c _).raise noticeSensor).flagOwner c.pad flagSensorChange).logFault .sensorFail _ _ _

theorem recoverSensor (h : Inner s t) (c : SensorName) : Inner s (t.recoverSensor c) :=
  ((h.onSensor c _).raise noticeSensor).flagOwner c.pad flagSensorChange

theorem healthStep (h : Inner s t) (c : SensorName) : Inner s (t.healthStep c) := by
  unfold State.healthStep
  simp only
  split
  · split
    · exact (h.onSensor c _).failSensor c
    · split
      · exact (h.onSensor c _).recoverSensor c
      · exact h.onSensor c _
  · exact h

theorem convertAll (h : Inner s t) (r : Readings) : Inner s (t.convertAll r) := (h.setPad .pad0 _).setPad .pad1 _

/-! ### The fetcher (Fetcher.lean) -/

theorem askHeader (h : Inner s t) (pl : Player) : Inner s (t.askHeader pl) := by
  unfold State.askHeader
  simp only
  split
  · exact h.onFetcher pl _
  · exact h

theorem reserveNext (h : Inner s t) (pl : Player) : Inner s (t.reserveNext pl) := by
  unfold State.reserveNext
  simp only
  split
  · split
    · exact h
    · exact (h.onEntry pl _ _).onFetcher pl _
  · exact h

theorem askPoll (h : Inner s t) (pl : Player) : Inner s (t.askPoll pl) := by
  unfold State.askPoll
  simp only
  split
  · split
    · exact h.onFetcher pl _
    · exact h.onFetcher pl _
    · exact h
  · exact h

theorem pollRound (h : Inner s t) (pl : Player) : Inner s (t.pollRound pl) := by
  unfold State.pollRound
  simp only
  split
  · exact (h.onFetcher pl _).askPoll pl
  · exact h

theorem structuralFault (h : Inner s t) (pl : Player) (k : FaultKind) (a b : Nat) :
    Inner s (t.structuralFault pl k a b) :=
  (((h.returnReserved pl).onFetcher pl _).logFault k _ a b).enterClosing pl .faulted (fun p => (nomatch p))

theorem continueFetch (h : Inner s t) (pl : Player) : Inner s (t.continueFetch pl) := by
  unfold State.continueFetch
  simp only
  split
  · split
    · exact (h.onFetcher pl _).reserveNext pl
    · split
      · exact h.onFetcher pl _
      · exact h.onFetcher pl _
  · exact h

theorem takeRecord (h : Inner s t) (pl : Player) : Inner s (t.takeRecord pl) :=
  ((h.onFetcher pl _).endJudgeStep pl).continueFetch pl

theorem voidRecord (h : Inner s t) (pl : Player) (i : Nat) (k : FaultKind) : Inner s (t.voidRecord pl i k) :=
  ((((h.onEntry pl i _).makeFinal pl i).logFault k _ _ _).onScore pl Score.recordFault .recordFault).takeRecord pl

theorem closeShort (h : Inner s t) (pl : Player) (a : Assembly) : Inner s (t.closeShort pl a) := by
  unfold State.closeShort
  simp only
  split
  · exact h
  · refine ((((foldl _ (fun _ _ k => k.onEntry pl _ _) _ _ ?_).logFault .chordShort _ _ _).onScore pl
      Score.recordFault .recordFault).onFetcher pl _).settleChordIfComplete pl a.chord
    exact h.setChord pl a.chord _

theorem assemblyTest (h : Inner s t) (pl : Player) (r : NoteRecord) : Inner s (t.assemblyTest pl r) := by
  unfold State.assemblyTest
  split
  · exact h
  · split
    · exact h.closeShort pl _
    · exact h

theorem bumpUnit (h : Inner s t) (pl : Player) : Inner s (t.bumpUnit pl) := by
  unfold State.bumpUnit
  split
  · exact (h.onFetcher pl _).onScore pl Score.assign .assign
  · exact h

theorem numberHead (h : Inner s t) (pl : Player) (i : Nat) (r : NoteRecord) : Inner s (t.numberHead pl i r) := by
  unfold State.numberHead
  simp only
  split
  · exact (h.onEntry pl i _).bumpUnit pl
  · split
    · split
      · exact h
      · exact (((h.setChord pl _ _).onFetcher pl _).onEntry pl i _).bumpUnit pl
    · split
      · exact h
      · exact ((h.setChord pl _ _).onFetcher pl _).onEntry pl i _

theorem numberTail (h : Inner s t) (pl : Player) (i : Nat) (r : NoteRecord) : Inner s (t.numberTail pl i r) := by
  unfold State.numberTail
  split
  · exact (h.onEntry pl i _).bumpUnit pl
  · exact h

theorem joinLane (h : Inner s t) (pl : Player) (lane i : Nat) : Inner s (t.onJudge pl (fun j => j.joinLane lane i)) :=
  h.onJudge pl _ (by unfold Judge.joinLane; split <;> rfl)

theorem place (h : Inner s t) (pl : Player) (i : Nat) (st : EntryState) : Inner s (t.place pl i st) :=
  (h.onEntry pl i _).joinLane pl _ i

theorem starve (h : Inner s t) (pl : Player) : Inner s (t.starve pl) := by
  unfold State.starve
  simp only
  split
  · exact h.flag pl _
  · exact ((h.flag pl _).logFault .starved _ _ _).onFetcher pl _

theorem voidLateNote (h : Inner s t) (pl : Player) (i : Nat) : Inner s (t.voidLateNote pl i) := by
  unfold State.voidLateNote
  simp only
  split
  · exact ((((((h.onEntry pl i _).onEntry pl i _).makeFinal pl i).voidUnit pl _)).voidUnit pl _).starve pl
  · exact ((((h.onEntry pl i _).onEntry pl i _).reportGrade pl _ .void).voidUnit pl _).starve pl

theorem takeNote (h : Inner s t) (pl : Player) (i : Nat) (r : NoteRecord) (late : Bool) :
    Inner s (t.takeNote pl i r late) := by
  unfold State.takeNote
  simp only
  split
  · exact ((h.numberHead pl i r).numberTail pl i r).voidLateNote pl i
  · exact ((h.numberHead pl i r).numberTail pl i r).place pl i .waiting

theorem voidLateAvoid (h : Inner s t) (pl : Player) (i : Nat) : Inner s (t.voidLateAvoid pl i) :=
  ((h.onEntry pl i _).makeFinal pl i).starve pl

theorem passLateBeat (h : Inner s t) (pl : Player) (i : Nat) : Inner s (t.passLateBeat pl i) :=
  (h.onEntry pl i _).makeFinal pl i

theorem placeBeat (h : Inner s t) (pl : Player) (i : Nat) : Inner s (t.placeBeat pl i) :=
  (h.onEntry pl i _).onJudge pl _ rfl

theorem takeEnd (h : Inner s t) (pl : Player) (i : Nat) (r : NoteRecord) : Inner s (t.takeEnd pl i r) :=
  (((((h.onEntry pl i _).makeFinal pl i).onScore pl _ (fun c => .setEnd c _)).onFetcher pl _).endJudgeStep pl).clearingCheck
    pl

theorem takeAccepted (h : Inner s t) (pl : Player) (i : Nat) (r : NoteRecord) (late : Bool) :
    Inner s (t.takeAccepted pl i r late) := by
  unfold State.takeAccepted
  simp only
  split
  · exact ((h.onEntry pl i _).takeNote pl i r late).takeRecord pl
  · exact ((h.onEntry pl i _).takeNote pl i r late).takeRecord pl
  · split
    · exact ((h.onEntry pl i _).voidLateAvoid pl i).takeRecord pl
    · exact ((h.onEntry pl i _).place pl i .watching).takeRecord pl
  · split
    · exact ((h.onEntry pl i _).passLateBeat pl i).takeRecord pl
    · exact ((h.onEntry pl i _).placeBeat pl i).takeRecord pl
  · exact (h.onEntry pl i _).takeEnd pl i r
  · exact h.onEntry pl i _

theorem stall (h : Inner s t) (pl : Player) (r : NoteRecord) : Inner s (t.stall pl r) :=
  (h.onFetcher pl _).endJudgeStep pl

theorem dealRecord (h : Inner s t) (pl : Player) (i : Nat) : Inner s (t.dealRecord pl i) := by
  unfold State.dealRecord
  simp only
  split
  · exact h.stall pl _
  · exact h.takeAccepted pl i _ _

theorem acceptRecord (h : Inner s t) (pl : Player) (i : Nat) (r : NoteRecord) : Inner s (t.acceptRecord pl i r) := by
  unfold State.acceptRecord
  simp only
  split
  · exact (h.onEntry pl i _).voidRecord pl i _
  · exact ((((h.onEntry pl i _).onEntry pl i _).onFetcher pl _).assemblyTest pl _).dealRecord pl i

theorem endRead (h : Inner s t) (pl : Player) (deal : State → State) (k : ∀ u, Inner s u → Inner s (deal u)) :
    Inner s (t.endRead pl deal) := by
  unfold State.endRead
  split
  · exact h
  · simp only
    split
    · exact (h.onFetcher pl _).askFinal pl
    · exact k _ (h.onFetcher pl _)

theorem headerRead (h : Inner s t) (pl : Player) (reply : Option (BitVec 128)) : Inner s (t.headerRead pl reply) := by
  unfold State.headerRead
  simp only
  split
  · exact h.structuralFault pl _ _ _
  · split
    · exact h.structuralFault pl _ _ _
    · exact (h.onFetcher pl _).reserveNext pl

theorem rereadHeader (h : Inner s t) (pl : Player) (reply : Option (BitVec 128)) :
    Inner s (t.rereadHeader pl reply) := by
  unfold State.rereadHeader
  simp only
  split
  · exact h.structuralFault pl _ _ _
  · split
    · exact h.structuralFault pl _ _ _
    · split
      · exact h.onFetcher pl _
      · exact (h.onFetcher pl _).reserveNext pl

theorem linkRead (h : Inner s t) (pl : Player) (reply : Option (BitVec 32)) : Inner s (t.linkRead pl reply) := by
  unfold State.linkRead
  simp only
  split
  · exact h.structuralFault pl _ _ _
  · split
    · exact h.onFetcher pl _
    · split
      · exact (h.onFetcher pl _).askHeader pl
      · exact h.structuralFault pl _ _ _

theorem recordRead (h : Inner s t) (pl : Player) (reply : Option (BitVec 128)) : Inner s (t.recordRead pl reply) := by
  unfold State.recordRead
  simp only
  split
  · exact h.structuralFault pl _ _ _
  · split
    · exact h
    · exact h.acceptRecord pl _ _

theorem retryStalled (h : Inner s t) (pl : Player) : Inner s (t.retryStalled pl) := by
  unfold State.retryStalled
  simp only
  split
  · exact h
  · split
    · exact (h.onFetcher pl _).dealRecord pl _
    · exact h

/-! ### The Write-back Unit (WriteBack.lean) -/

theorem retirementCheck (h : Inner s t) (pl : Player) : Inner s (t.retirementCheck pl) := by
  unfold State.retirementCheck
  split
  · exact h
  · split
    · exact h.onWriter pl _
    · exact h

theorem writeLost (h : Inner s t) (pl : Player) (a b : Nat) : Inner s (t.writeLost pl a b) :=
  (h.logFault .busWrite _ a b).flag pl _

theorem resultWritten (h : Inner s t) (pl : Player) (i : Nat) : Inner s (t.resultWritten pl i) :=
  ((((((h.onWriter pl _).freeEntry pl i).onFetcher pl _).onScore pl Score.finalize .finalize).retirementCheck
    pl).clearingCheck pl).askFinal pl

theorem resultLost (h : Inner s t) (pl : Player) (i : Nat) : Inner s (t.resultLost pl i) :=
  (h.writeLost pl _ _).resultWritten pl i

theorem pageRetired (h : Inner s t) (pl : Player) (seq : Nat) : Inner s (t.pageRetired pl seq) :=
  (((h.onFetcher pl _).onWriter pl _).retirementCheck pl).askFinal pl

theorem retirementLost (h : Inner s t) (pl : Player) (seq : Nat) : Inner s (t.retirementLost pl seq) :=
  (h.writeLost pl seq _).pageRetired pl seq

end Inner

end Sys2Proof.Machine
end

