-- ==== Sys2Proof/Laws/Ops.lean ====
section
/-! SUPPORT. What the operations that every block shares leave of each field: asking, completing, executing, reading the
ready slots, logging and reporting, ending a transfer. -/

namespace Sys2Proof.Machine

namespace State

section freeBus

variable (s : State)

@[simp] theorem run_freeBus : (s.freeBus).run = s.run := rfl
@[simp] theorem resetHeld_freeBus : (s.freeBus).resetHeld = s.resetHeld := rfl
@[simp] theorem root_freeBus : (s.freeBus).root = s.root := rfl
@[simp] theorem notice_freeBus : (s.freeBus).notice = s.notice := rfl
@[simp] theorem mask_freeBus : (s.freeBus).mask = s.mask := rfl
@[simp] theorem fault_freeBus : (s.freeBus).fault = s.fault := rfl
@[simp] theorem window_freeBus : (s.freeBus).window = s.window := rfl
@[simp] theorem slots_freeBus : (s.freeBus).slots = s.slots := rfl
@[simp] theorem slot_freeBus (j : SlotId) : (s.freeBus).slot j = s.slot j := rfl
@[simp] theorem work_freeBus : (s.freeBus).work = s.work := rfl
@[simp] theorem clock_freeBus : (s.freeBus).clock = s.clock := rfl
@[simp] theorem pads_freeBus : (s.freeBus).pads = s.pads := rfl
@[simp] theorem pad_freeBus (j : PadId) : (s.freeBus).pad j = s.pad j := rfl
@[simp] theorem owners_freeBus : (s.freeBus).owners = s.owners := rfl
@[simp] theorem owner_freeBus (j : PadId) : (s.freeBus).owner j = s.owner j := rfl
@[simp] theorem scan_freeBus : (s.freeBus).scan = s.scan := rfl
@[simp] theorem fetchers_freeBus : (s.freeBus).fetchers = s.fetchers := rfl
@[simp] theorem fetcher_freeBus (j : Player) : (s.freeBus).fetcher j = s.fetcher j := rfl
@[simp] theorem judges_freeBus : (s.freeBus).judges = s.judges := rfl
@[simp] theorem judge_freeBus (j : Player) : (s.freeBus).judge j = s.judge j := rfl
@[simp] theorem scores_freeBus : (s.freeBus).scores = s.scores := rfl
@[simp] theorem scoreUnit_freeBus (j : Player) : (s.freeBus).scoreUnit j = s.scoreUnit j := rfl
@[simp] theorem sessions_freeBus : (s.freeBus).sessions = s.sessions := rfl
@[simp] theorem session_freeBus (j : Player) : (s.freeBus).session j = s.session j := rfl
@[simp] theorem writers_freeBus : (s.freeBus).writers = s.writers := rfl
@[simp] theorem writer_freeBus (j : Player) : (s.freeBus).writer j = s.writer j := rfl
@[simp] theorem refresh_freeBus : (s.freeBus).refresh = s.refresh := rfl
@[simp] theorem lamps_freeBus : (s.freeBus).lamps = s.lamps := rfl
@[simp] theorem pending_freeBus : (s.freeBus).pending = s.pending := rfl
@[simp] theorem bus_freeBus : s.freeBus.bus = { s.bus with inFlight := none } := rfl

end freeBus

section ask

variable (s : State) (w : Work)

@[simp] theorem run_ask : (s.ask w).run = s.run := rfl
@[simp] theorem resetHeld_ask : (s.ask w).resetHeld = s.resetHeld := rfl
@[simp] theorem root_ask : (s.ask w).root = s.root := rfl
@[simp] theorem notice_ask : (s.ask w).notice = s.notice := rfl
@[simp] theorem mask_ask : (s.ask w).mask = s.mask := rfl
@[simp] theorem fault_ask : (s.ask w).fault = s.fault := rfl
@[simp] theorem window_ask : (s.ask w).window = s.window := rfl
@[simp] theorem slots_ask : (s.ask w).slots = s.slots := rfl
@[simp] theorem slot_ask (j : SlotId) : (s.ask w).slot j = s.slot j := rfl
@[simp] theorem bus_ask : (s.ask w).bus = s.bus := rfl
@[simp] theorem clock_ask : (s.ask w).clock = s.clock := rfl
@[simp] theorem pads_ask : (s.ask w).pads = s.pads := rfl
@[simp] theorem pad_ask (j : PadId) : (s.ask w).pad j = s.pad j := rfl
@[simp] theorem owners_ask : (s.ask w).owners = s.owners := rfl
@[simp] theorem owner_ask (j : PadId) : (s.ask w).owner j = s.owner j := rfl
@[simp] theorem scan_ask : (s.ask w).scan = s.scan := rfl
@[simp] theorem fetchers_ask : (s.ask w).fetchers = s.fetchers := rfl
@[simp] theorem fetcher_ask (j : Player) : (s.ask w).fetcher j = s.fetcher j := rfl
@[simp] theorem judges_ask : (s.ask w).judges = s.judges := rfl
@[simp] theorem judge_ask (j : Player) : (s.ask w).judge j = s.judge j := rfl
@[simp] theorem scores_ask : (s.ask w).scores = s.scores := rfl
@[simp] theorem scoreUnit_ask (j : Player) : (s.ask w).scoreUnit j = s.scoreUnit j := rfl
@[simp] theorem sessions_ask : (s.ask w).sessions = s.sessions := rfl
@[simp] theorem session_ask (j : Player) : (s.ask w).session j = s.session j := rfl
@[simp] theorem writers_ask : (s.ask w).writers = s.writers := rfl
@[simp] theorem writer_ask (j : Player) : (s.ask w).writer j = s.writer j := rfl
@[simp] theorem refresh_ask : (s.ask w).refresh = s.refresh := rfl
@[simp] theorem lamps_ask : (s.ask w).lamps = s.lamps := rfl
@[simp] theorem pending_ask : (s.ask w).pending = s.pending := rfl
@[simp] theorem work_ask : (s.ask w).work = s.work ++ [w] := rfl

end ask

section complete

variable (s : State) (x : SlotId) (tag : BitVec 16) (status : Status) (result : Word)

@[simp] theorem run_complete : (s.complete x tag status result).run = s.run := rfl
@[simp] theorem resetHeld_complete : (s.complete x tag status result).resetHeld = s.resetHeld := rfl
@[simp] theorem root_complete : (s.complete x tag status result).root = s.root := rfl
@[simp] theorem notice_complete : (s.complete x tag status result).notice = s.notice := rfl
@[simp] theorem mask_complete : (s.complete x tag status result).mask = s.mask := rfl
@[simp] theorem fault_complete : (s.complete x tag status result).fault = s.fault := rfl
@[simp] theorem window_complete : (s.complete x tag status result).window = s.window := rfl
@[simp] theorem bus_complete : (s.complete x tag status result).bus = s.bus := rfl
@[simp] theorem clock_complete : (s.complete x tag status result).clock = s.clock := rfl
@[simp] theorem pads_complete : (s.complete x tag status result).pads = s.pads := rfl
@[simp] theorem pad_complete (j : PadId) : (s.complete x tag status result).pad j = s.pad j := rfl
@[simp] theorem owners_complete : (s.complete x tag status result).owners = s.owners := rfl
@[simp] theorem owner_complete (j : PadId) : (s.complete x tag status result).owner j = s.owner j := rfl
@[simp] theorem scan_complete : (s.complete x tag status result).scan = s.scan := rfl
@[simp] theorem fetchers_complete : (s.complete x tag status result).fetchers = s.fetchers := rfl
@[simp] theorem fetcher_complete (j : Player) : (s.complete x tag status result).fetcher j = s.fetcher j := rfl
@[simp] theorem judges_complete : (s.complete x tag status result).judges = s.judges := rfl
@[simp] theorem judge_complete (j : Player) : (s.complete x tag status result).judge j = s.judge j := rfl
@[simp] theorem scores_complete : (s.complete x tag status result).scores = s.scores := rfl
@[simp] theorem scoreUnit_complete (j : Player) : (s.complete x tag status result).scoreUnit j = s.scoreUnit j := rfl
@[simp] theorem sessions_complete : (s.complete x tag status result).sessions = s.sessions := rfl
@[simp] theorem session_complete (j : Player) : (s.complete x tag status result).session j = s.session j := rfl
@[simp] theorem writers_complete : (s.complete x tag status result).writers = s.writers := rfl
@[simp] theorem writer_complete (j : Player) : (s.complete x tag status result).writer j = s.writer j := rfl
@[simp] theorem refresh_complete : (s.complete x tag status result).refresh = s.refresh := rfl
@[simp] theorem lamps_complete : (s.complete x tag status result).lamps = s.lamps := rfl
@[simp] theorem pending_complete : (s.complete x tag status result).pending = s.pending := rfl
@[simp] theorem work_complete : (s.complete x tag status result).work = s.work ++ [.completion x status tag result] := rfl
@[simp] theorem slot_complete_same :
    (s.complete x tag status result).slot x = { s.slot x with unwritten := (s.slot x).unwritten + 1 } :=
  slot_setSlot_same ..
@[simp] theorem slot_complete_ne (j : SlotId) (h : j ≠ x) : (s.complete x tag status result).slot j = s.slot j :=
  slot_setSlot_ne _ _ _ _ h

end complete

section execute

variable (s : State) (x : SlotId) (r : Request)

@[simp] theorem run_execute : (s.execute x r).run = s.run := rfl
@[simp] theorem resetHeld_execute : (s.execute x r).resetHeld = s.resetHeld := rfl
@[simp] theorem root_execute : (s.execute x r).root = s.root := rfl
@[simp] theorem notice_execute : (s.execute x r).notice = s.notice := rfl
@[simp] theorem mask_execute : (s.execute x r).mask = s.mask := rfl
@[simp] theorem fault_execute : (s.execute x r).fault = s.fault := rfl
@[simp] theorem window_execute : (s.execute x r).window = s.window := rfl
@[simp] theorem work_execute : (s.execute x r).work = s.work := rfl
@[simp] theorem bus_execute : (s.execute x r).bus = s.bus := rfl
@[simp] theorem clock_execute : (s.execute x r).clock = s.clock := rfl
@[simp] theorem pads_execute : (s.execute x r).pads = s.pads := rfl
@[simp] theorem pad_execute (j : PadId) : (s.execute x r).pad j = s.pad j := rfl
@[simp] theorem owners_execute : (s.execute x r).owners = s.owners := rfl
@[simp] theorem owner_execute (j : PadId) : (s.execute x r).owner j = s.owner j := rfl
@[simp] theorem scan_execute : (s.execute x r).scan = s.scan := rfl
@[simp] theorem fetchers_execute : (s.execute x r).fetchers = s.fetchers := rfl
@[simp] theorem fetcher_execute (j : Player) : (s.execute x r).fetcher j = s.fetcher j := rfl
@[simp] theorem judges_execute : (s.execute x r).judges = s.judges := rfl
@[simp] theorem judge_execute (j : Player) : (s.execute x r).judge j = s.judge j := rfl
@[simp] theorem scores_execute : (s.execute x r).scores = s.scores := rfl
@[simp] theorem scoreUnit_execute (j : Player) : (s.execute x r).scoreUnit j = s.scoreUnit j := rfl
@[simp] theorem sessions_execute : (s.execute x r).sessions = s.sessions := rfl
@[simp] theorem session_execute (j : Player) : (s.execute x r).session j = s.session j := rfl
@[simp] theorem writers_execute : (s.execute x r).writers = s.writers := rfl
@[simp] theorem writer_execute (j : Player) : (s.execute x r).writer j = s.writer j := rfl
@[simp] theorem refresh_execute : (s.execute x r).refresh = s.refresh := rfl
@[simp] theorem lamps_execute : (s.execute x r).lamps = s.lamps := rfl
@[simp] theorem pending_execute : (s.execute x r).pending = s.pending := rfl
@[simp] theorem slot_execute_same : (s.execute x r).slot x = { s.slot x with executing := some r } := slot_setSlot_same ..
@[simp] theorem slot_execute_ne (j : SlotId) (h : j ≠ x) : (s.execute x r).slot j = s.slot j := slot_setSlot_ne _ _ _ _ h

end execute

section slotReadOver

variable (s : State) (x : SlotId)

@[simp] theorem run_slotReadOver : (s.slotReadOver x).run = s.run := rfl
@[simp] theorem resetHeld_slotReadOver : (s.slotReadOver x).resetHeld = s.resetHeld := rfl
@[simp] theorem root_slotReadOver : (s.slotReadOver x).root = s.root := rfl
@[simp] theorem notice_slotReadOver : (s.slotReadOver x).notice = s.notice := rfl
@[simp] theorem mask_slotReadOver : (s.slotReadOver x).mask = s.mask := rfl
@[simp] theorem fault_slotReadOver : (s.slotReadOver x).fault = s.fault := rfl
@[simp] theorem window_slotReadOver : (s.slotReadOver x).window = s.window := rfl
@[simp] theorem work_slotReadOver : (s.slotReadOver x).work = s.work := rfl
@[simp] theorem bus_slotReadOver : (s.slotReadOver x).bus = s.bus := rfl
@[simp] theorem clock_slotReadOver : (s.slotReadOver x).clock = s.clock := rfl
@[simp] theorem pads_slotReadOver : (s.slotReadOver x).pads = s.pads := rfl
@[simp] theorem pad_slotReadOver (j : PadId) : (s.slotReadOver x).pad j = s.pad j := rfl
@[simp] theorem owners_slotReadOver : (s.slotReadOver x).owners = s.owners := rfl
@[simp] theorem owner_slotReadOver (j : PadId) : (s.slotReadOver x).owner j = s.owner j := rfl
@[simp] theorem scan_slotReadOver : (s.slotReadOver x).scan = s.scan := rfl
@[simp] theorem fetchers_slotReadOver : (s.slotReadOver x).fetchers = s.fetchers := rfl
@[simp] theorem fetcher_slotReadOver (j : Player) : (s.slotReadOver x).fetcher j = s.fetcher j := rfl
@[simp] theorem judges_slotReadOver : (s.slotReadOver x).judges = s.judges := rfl
@[simp] theorem judge_slotReadOver (j : Player) : (s.slotReadOver x).judge j = s.judge j := rfl
@[simp] theorem scores_slotReadOver : (s.slotReadOver x).scores = s.scores := rfl
@[simp] theorem scoreUnit_slotReadOver (j : Player) : (s.slotReadOver x).scoreUnit j = s.scoreUnit j := rfl
@[simp] theorem sessions_slotReadOver : (s.slotReadOver x).sessions = s.sessions := rfl
@[simp] theorem session_slotReadOver (j : Player) : (s.slotReadOver x).session j = s.session j := rfl
@[simp] theorem writers_slotReadOver : (s.slotReadOver x).writers = s.writers := rfl
@[simp] theorem writer_slotReadOver (j : Player) : (s.slotReadOver x).writer j = s.writer j := rfl
@[simp] theorem refresh_slotReadOver : (s.slotReadOver x).refresh = s.refresh := rfl
@[simp] theorem lamps_slotReadOver : (s.slotReadOver x).lamps = s.lamps := rfl
@[simp] theorem pending_slotReadOver : (s.slotReadOver x).pending = s.pending := rfl
@[simp] theorem slot_slotReadOver_same : (s.slotReadOver x).slot x = { s.slot x with readInFlight := false } :=
  slot_setSlot_same ..
@[simp] theorem slot_slotReadOver_ne (j : SlotId) (h : j ≠ x) : (s.slotReadOver x).slot j = s.slot j :=
  slot_setSlot_ne _ _ _ _ h

end slotReadOver

section raise

variable (s : State) (b : BitVec 8)

@[simp] theorem run_raise : (s.raise b).run = s.run := rfl
@[simp] theorem resetHeld_raise : (s.raise b).resetHeld = s.resetHeld := rfl
@[simp] theorem root_raise : (s.raise b).root = s.root := rfl
@[simp] theorem mask_raise : (s.raise b).mask = s.mask := rfl
@[simp] theorem fault_raise : (s.raise b).fault = s.fault := rfl
@[simp] theorem window_raise : (s.raise b).window = s.window := rfl
@[simp] theorem slots_raise : (s.raise b).slots = s.slots := rfl
@[simp] theorem slot_raise (j : SlotId) : (s.raise b).slot j = s.slot j := rfl
@[simp] theorem work_raise : (s.raise b).work = s.work := rfl
@[simp] theorem bus_raise : (s.raise b).bus = s.bus := rfl
@[simp] theorem clock_raise : (s.raise b).clock = s.clock := rfl
@[simp] theorem pads_raise : (s.raise b).pads = s.pads := rfl
@[simp] theorem pad_raise (j : PadId) : (s.raise b).pad j = s.pad j := rfl
@[simp] theorem owners_raise : (s.raise b).owners = s.owners := rfl
@[simp] theorem owner_raise (j : PadId) : (s.raise b).owner j = s.owner j := rfl
@[simp] theorem scan_raise : (s.raise b).scan = s.scan := rfl
@[simp] theorem fetchers_raise : (s.raise b).fetchers = s.fetchers := rfl
@[simp] theorem fetcher_raise (j : Player) : (s.raise b).fetcher j = s.fetcher j := rfl
@[simp] theorem judges_raise : (s.raise b).judges = s.judges := rfl
@[simp] theorem judge_raise (j : Player) : (s.raise b).judge j = s.judge j := rfl
@[simp] theorem scores_raise : (s.raise b).scores = s.scores := rfl
@[simp] theorem scoreUnit_raise (j : Player) : (s.raise b).scoreUnit j = s.scoreUnit j := rfl
@[simp] theorem sessions_raise : (s.raise b).sessions = s.sessions := rfl
@[simp] theorem session_raise (j : Player) : (s.raise b).session j = s.session j := rfl
@[simp] theorem writers_raise : (s.raise b).writers = s.writers := rfl
@[simp] theorem writer_raise (j : Player) : (s.raise b).writer j = s.writer j := rfl
@[simp] theorem refresh_raise : (s.raise b).refresh = s.refresh := rfl
@[simp] theorem lamps_raise : (s.raise b).lamps = s.lamps := rfl
@[simp] theorem pending_raise : (s.raise b).pending = s.pending := rfl
@[simp] theorem notice_raise : (s.raise b).notice = s.notice ||| b := rfl

end raise

section logFault

variable (s : State) (k : FaultKind) (pl : Option Player) (a b : Nat)

@[simp] theorem run_logFault : (s.logFault k pl a b).run = s.run := rfl
@[simp] theorem resetHeld_logFault : (s.logFault k pl a b).resetHeld = s.resetHeld := rfl
@[simp] theorem root_logFault : (s.logFault k pl a b).root = s.root := rfl
@[simp] theorem mask_logFault : (s.logFault k pl a b).mask = s.mask := rfl
@[simp] theorem window_logFault : (s.logFault k pl a b).window = s.window := rfl
@[simp] theorem slots_logFault : (s.logFault k pl a b).slots = s.slots := rfl
@[simp] theorem slot_logFault (j : SlotId) : (s.logFault k pl a b).slot j = s.slot j := rfl
@[simp] theorem work_logFault : (s.logFault k pl a b).work = s.work := rfl
@[simp] theorem bus_logFault : (s.logFault k pl a b).bus = s.bus := rfl
@[simp] theorem clock_logFault : (s.logFault k pl a b).clock = s.clock := rfl
@[simp] theorem pads_logFault : (s.logFault k pl a b).pads = s.pads := rfl
@[simp] theorem pad_logFault (j : PadId) : (s.logFault k pl a b).pad j = s.pad j := rfl
@[simp] theorem owners_logFault : (s.logFault k pl a b).owners = s.owners := rfl
@[simp] theorem owner_logFault (j : PadId) : (s.logFault k pl a b).owner j = s.owner j := rfl
@[simp] theorem scan_logFault : (s.logFault k pl a b).scan = s.scan := rfl
@[simp] theorem fetchers_logFault : (s.logFault k pl a b).fetchers = s.fetchers := rfl
@[simp] theorem fetcher_logFault (j : Player) : (s.logFault k pl a b).fetcher j = s.fetcher j := rfl
@[simp] theorem judges_logFault : (s.logFault k pl a b).judges = s.judges := rfl
@[simp] theorem judge_logFault (j : Player) : (s.logFault k pl a b).judge j = s.judge j := rfl
@[simp] theorem scores_logFault : (s.logFault k pl a b).scores = s.scores := rfl
@[simp] theorem scoreUnit_logFault (j : Player) : (s.logFault k pl a b).scoreUnit j = s.scoreUnit j := rfl
@[simp] theorem sessions_logFault : (s.logFault k pl a b).sessions = s.sessions := rfl
@[simp] theorem session_logFault (j : Player) : (s.logFault k pl a b).session j = s.session j := rfl
@[simp] theorem writers_logFault : (s.logFault k pl a b).writers = s.writers := rfl
@[simp] theorem writer_logFault (j : Player) : (s.logFault k pl a b).writer j = s.writer j := rfl
@[simp] theorem refresh_logFault : (s.logFault k pl a b).refresh = s.refresh := rfl
@[simp] theorem lamps_logFault : (s.logFault k pl a b).lamps = s.lamps := rfl
@[simp] theorem pending_logFault : (s.logFault k pl a b).pending = s.pending := rfl
@[simp] theorem notice_logFault : (s.logFault k pl a b).notice = s.notice ||| 0x20 := rfl
@[simp] theorem fault_logFault : (s.logFault k pl a b).fault = s.fault.take k pl a b s.clock.songTime := rfl

end logFault

section flag

variable (s : State) (pl : Player) (f : BitVec 16)

@[simp] theorem run_flag : (s.flag pl f).run = s.run := rfl
@[simp] theorem resetHeld_flag : (s.flag pl f).resetHeld = s.resetHeld := rfl
@[simp] theorem root_flag : (s.flag pl f).root = s.root := rfl
@[simp] theorem notice_flag : (s.flag pl f).notice = s.notice := rfl
@[simp] theorem mask_flag : (s.flag pl f).mask = s.mask := rfl
@[simp] theorem fault_flag : (s.flag pl f).fault = s.fault := rfl
@[simp] theorem window_flag : (s.flag pl f).window = s.window := rfl
@[simp] theorem slots_flag : (s.flag pl f).slots = s.slots := rfl
@[simp] theorem slot_flag (j : SlotId) : (s.flag pl f).slot j = s.slot j := rfl
@[simp] theorem work_flag : (s.flag pl f).work = s.work := rfl
@[simp] theorem bus_flag : (s.flag pl f).bus = s.bus := rfl
@[simp] theorem clock_flag : (s.flag pl f).clock = s.clock := rfl
@[simp] theorem pads_flag : (s.flag pl f).pads = s.pads := rfl
@[simp] theorem pad_flag (j : PadId) : (s.flag pl f).pad j = s.pad j := rfl
@[simp] theorem owners_flag : (s.flag pl f).owners = s.owners := rfl
@[simp] theorem owner_flag (j : PadId) : (s.flag pl f).owner j = s.owner j := rfl
@[simp] theorem scan_flag : (s.flag pl f).scan = s.scan := rfl
@[simp] theorem fetchers_flag : (s.flag pl f).fetchers = s.fetchers := rfl
@[simp] theorem fetcher_flag (j : Player) : (s.flag pl f).fetcher j = s.fetcher j := rfl
@[simp] theorem judges_flag : (s.flag pl f).judges = s.judges := rfl
@[simp] theorem judge_flag (j : Player) : (s.flag pl f).judge j = s.judge j := rfl
@[simp] theorem sessions_flag : (s.flag pl f).sessions = s.sessions := rfl
@[simp] theorem session_flag (j : Player) : (s.flag pl f).session j = s.session j := rfl
@[simp] theorem writers_flag : (s.flag pl f).writers = s.writers := rfl
@[simp] theorem writer_flag (j : Player) : (s.flag pl f).writer j = s.writer j := rfl
@[simp] theorem refresh_flag : (s.flag pl f).refresh = s.refresh := rfl
@[simp] theorem lamps_flag : (s.flag pl f).lamps = s.lamps := rfl
@[simp] theorem pending_flag : (s.flag pl f).pending = s.pending := rfl
theorem scoreUnit_flag (j : Player) :
    (s.flag pl f).scoreUnit j = if j = pl then (s.scoreUnit pl).setFlag f else s.scoreUnit j := scoreUnit_setScore ..

end flag

section flagBoth

variable (s : State) (f : BitVec 16)

@[simp] theorem run_flagBoth : (s.flagBoth f).run = s.run := rfl
@[simp] theorem resetHeld_flagBoth : (s.flagBoth f).resetHeld = s.resetHeld := rfl
@[simp] theorem root_flagBoth : (s.flagBoth f).root = s.root := rfl
@[simp] theorem notice_flagBoth : (s.flagBoth f).notice = s.notice := rfl
@[simp] theorem mask_flagBoth : (s.flagBoth f).mask = s.mask := rfl
@[simp] theorem fault_flagBoth : (s.flagBoth f).fault = s.fault := rfl
@[simp] theorem window_flagBoth : (s.flagBoth f).window = s.window := rfl
@[simp] theorem slots_flagBoth : (s.flagBoth f).slots = s.slots := rfl
@[simp] theorem slot_flagBoth (j : SlotId) : (s.flagBoth f).slot j = s.slot j := rfl
@[simp] theorem work_flagBoth : (s.flagBoth f).work = s.work := rfl
@[simp] theorem bus_flagBoth : (s.flagBoth f).bus = s.bus := rfl
@[simp] theorem clock_flagBoth : (s.flagBoth f).clock = s.clock := rfl
@[simp] theorem pads_flagBoth : (s.flagBoth f).pads = s.pads := rfl
@[simp] theorem pad_flagBoth (j : PadId) : (s.flagBoth f).pad j = s.pad j := rfl
@[simp] theorem owners_flagBoth : (s.flagBoth f).owners = s.owners := rfl
@[simp] theorem owner_flagBoth (j : PadId) : (s.flagBoth f).owner j = s.owner j := rfl
@[simp] theorem scan_flagBoth : (s.flagBoth f).scan = s.scan := rfl
@[simp] theorem fetchers_flagBoth : (s.flagBoth f).fetchers = s.fetchers := rfl
@[simp] theorem fetcher_flagBoth (j : Player) : (s.flagBoth f).fetcher j = s.fetcher j := rfl
@[simp] theorem judges_flagBoth : (s.flagBoth f).judges = s.judges := rfl
@[simp] theorem judge_flagBoth (j : Player) : (s.flagBoth f).judge j = s.judge j := rfl
@[simp] theorem sessions_flagBoth : (s.flagBoth f).sessions = s.sessions := rfl
@[simp] theorem session_flagBoth (j : Player) : (s.flagBoth f).session j = s.session j := rfl
@[simp] theorem writers_flagBoth : (s.flagBoth f).writers = s.writers := rfl
@[simp] theorem writer_flagBoth (j : Player) : (s.flagBoth f).writer j = s.writer j := rfl
@[simp] theorem refresh_flagBoth : (s.flagBoth f).refresh = s.refresh := rfl
@[simp] theorem lamps_flagBoth : (s.flagBoth f).lamps = s.lamps := rfl
@[simp] theorem pending_flagBoth : (s.flagBoth f).pending = s.pending := rfl
@[simp] theorem scoreUnit_flagBoth (j : Player) :
    (s.flagBoth f).scoreUnit j = { s.scoreUnit j with flags := (s.scoreUnit j).flags ||| f } := by cases j <;> rfl

end flagBoth

section reportSync

variable (s : State) (f : BitVec 16)

@[simp] theorem run_reportSync : (s.reportSync f).run = s.run := rfl
@[simp] theorem resetHeld_reportSync : (s.reportSync f).resetHeld = s.resetHeld := rfl
@[simp] theorem root_reportSync : (s.reportSync f).root = s.root := rfl
@[simp] theorem mask_reportSync : (s.reportSync f).mask = s.mask := rfl
@[simp] theorem fault_reportSync : (s.reportSync f).fault = s.fault := rfl
@[simp] theorem window_reportSync : (s.reportSync f).window = s.window := rfl
@[simp] theorem slots_reportSync : (s.reportSync f).slots = s.slots := rfl
@[simp] theorem slot_reportSync (j : SlotId) : (s.reportSync f).slot j = s.slot j := rfl
@[simp] theorem work_reportSync : (s.reportSync f).work = s.work := rfl
@[simp] theorem bus_reportSync : (s.reportSync f).bus = s.bus := rfl
@[simp] theorem clock_reportSync : (s.reportSync f).clock = s.clock := rfl
@[simp] theorem pads_reportSync : (s.reportSync f).pads = s.pads := rfl
@[simp] theorem pad_reportSync (j : PadId) : (s.reportSync f).pad j = s.pad j := rfl
@[simp] theorem owners_reportSync : (s.reportSync f).owners = s.owners := rfl
@[simp] theorem owner_reportSync (j : PadId) : (s.reportSync f).owner j = s.owner j := rfl
@[simp] theorem scan_reportSync : (s.reportSync f).scan = s.scan := rfl
@[simp] theorem fetchers_reportSync : (s.reportSync f).fetchers = s.fetchers := rfl
@[simp] theorem fetcher_reportSync (j : Player) : (s.reportSync f).fetcher j = s.fetcher j := rfl
@[simp] theorem judges_reportSync : (s.reportSync f).judges = s.judges := rfl
@[simp] theorem judge_reportSync (j : Player) : (s.reportSync f).judge j = s.judge j := rfl
@[simp] theorem sessions_reportSync : (s.reportSync f).sessions = s.sessions := rfl
@[simp] theorem session_reportSync (j : Player) : (s.reportSync f).session j = s.session j := rfl
@[simp] theorem writers_reportSync : (s.reportSync f).writers = s.writers := rfl
@[simp] theorem writer_reportSync (j : Player) : (s.reportSync f).writer j = s.writer j := rfl
@[simp] theorem refresh_reportSync : (s.reportSync f).refresh = s.refresh := rfl
@[simp] theorem lamps_reportSync : (s.reportSync f).lamps = s.lamps := rfl
@[simp] theorem pending_reportSync : (s.reportSync f).pending = s.pending := rfl
@[simp] theorem notice_reportSync : (s.reportSync f).notice = s.notice ||| 0x40 := rfl
@[simp] theorem scoreUnit_reportSync (j : Player) :
    (s.reportSync f).scoreUnit j = { s.scoreUnit j with flags := (s.scoreUnit j).flags ||| f } := by cases j <;> rfl

end reportSync

section finishExecuting

variable (s : State) (x : SlotId) (status : Status) (result : Word)

@[simp] theorem run_finishExecuting : (s.finishExecuting x status result).run = s.run := by
  unfold State.finishExecuting; split <;> rfl
@[simp] theorem resetHeld_finishExecuting : (s.finishExecuting x status result).resetHeld = s.resetHeld := by
  unfold State.finishExecuting; split <;> rfl
@[simp] theorem root_finishExecuting : (s.finishExecuting x status result).root = s.root := by
  unfold State.finishExecuting; split <;> rfl
@[simp] theorem notice_finishExecuting : (s.finishExecuting x status result).notice = s.notice := by
  unfold State.finishExecuting; split <;> rfl
@[simp] theorem mask_finishExecuting : (s.finishExecuting x status result).mask = s.mask := by
  unfold State.finishExecuting; split <;> rfl
@[simp] theorem fault_finishExecuting : (s.finishExecuting x status result).fault = s.fault := by
  unfold State.finishExecuting; split <;> rfl
@[simp] theorem window_finishExecuting : (s.finishExecuting x status result).window = s.window := by
  unfold State.finishExecuting; split <;> rfl
@[simp] theorem bus_finishExecuting : (s.finishExecuting x status result).bus = s.bus := by
  unfold State.finishExecuting; split <;> rfl
@[simp] theorem clock_finishExecuting : (s.finishExecuting x status result).clock = s.clock := by
  unfold State.finishExecuting; split <;> rfl
@[simp] theorem pads_finishExecuting : (s.finishExecuting x status result).pads = s.pads := by
  unfold State.finishExecuting; split <;> rfl
@[simp] theorem pad_finishExecuting (j : PadId) : (s.finishExecuting x status result).pad j = s.pad j := by
  simp only [State.pad, pads_finishExecuting]
@[simp] theorem owners_finishExecuting : (s.finishExecuting x status result).owners = s.owners := by
  unfold State.finishExecuting; split <;> rfl
@[simp] theorem owner_finishExecuting (j : PadId) : (s.finishExecuting x status result).owner j = s.owner j := by
  simp only [State.owner, owners_finishExecuting]
@[simp] theorem scan_finishExecuting : (s.finishExecuting x status result).scan = s.scan := by
  unfold State.finishExecuting; split <;> rfl
@[simp] theorem fetchers_finishExecuting : (s.finishExecuting x status result).fetchers = s.fetchers := by
  unfold State.finishExecuting; split <;> rfl
@[simp] theorem fetcher_finishExecuting (j : Player) : (s.finishExecuting x status result).fetcher j = s.fetcher j := by
  simp only [State.fetcher, fetchers_finishExecuting]
@[simp] theorem judges_finishExecuting : (s.finishExecuting x status result).judges = s.judges := by
  unfold State.finishExecuting; split <;> rfl
@[simp] theorem judge_finishExecuting (j : Player) : (s.finishExecuting x status result).judge j = s.judge j := by
  simp only [State.judge, judges_finishExecuting]
@[simp] theorem scores_finishExecuting : (s.finishExecuting x status result).scores = s.scores := by
  unfold State.finishExecuting; split <;> rfl
@[simp] theorem scoreUnit_finishExecuting (j : Player) : (s.finishExecuting x status result).scoreUnit j = s.scoreUnit j := by
  simp only [State.scoreUnit, scores_finishExecuting]
@[simp] theorem sessions_finishExecuting : (s.finishExecuting x status result).sessions = s.sessions := by
  unfold State.finishExecuting; split <;> rfl
@[simp] theorem session_finishExecuting (j : Player) : (s.finishExecuting x status result).session j = s.session j := by
  simp only [State.session, sessions_finishExecuting]
@[simp] theorem writers_finishExecuting : (s.finishExecuting x status result).writers = s.writers := by
  unfold State.finishExecuting; split <;> rfl
@[simp] theorem writer_finishExecuting (j : Player) : (s.finishExecuting x status result).writer j = s.writer j := by
  simp only [State.writer, writers_finishExecuting]
@[simp] theorem refresh_finishExecuting : (s.finishExecuting x status result).refresh = s.refresh := by
  unfold State.finishExecuting; split <;> rfl
@[simp] theorem lamps_finishExecuting : (s.finishExecuting x status result).lamps = s.lamps := by
  unfold State.finishExecuting; split <;> rfl
@[simp] theorem pending_finishExecuting : (s.finishExecuting x status result).pending = s.pending := by
  unfold State.finishExecuting; split <;> rfl
theorem work_finishExecuting (r : Request) (h : (s.slot x).executing = some r) :
    (s.finishExecuting x status result).work = s.work ++ [.completion x status r.tag result] := by
  unfold State.finishExecuting; rw [h]; rfl
theorem slot_finishExecuting_same (r : Request) (h : (s.slot x).executing = some r) :
    (s.finishExecuting x status result).slot x =
      { s.slot x with executing := none, unwritten := (s.slot x).unwritten + 1 } := by
  unfold State.finishExecuting; rw [h]; simp
@[simp] theorem slot_finishExecuting_ne (j : SlotId) (h : j ≠ x) :
    (s.finishExecuting x status result).slot j = s.slot j := by
  unfold State.finishExecuting; split <;> simp [h]

end finishExecuting

section readIfReady

variable (s : State) (x : SlotId)

@[simp] theorem run_readIfReady : (s.readIfReady x).run = s.run := by
  unfold State.readIfReady; split <;> rfl
@[simp] theorem resetHeld_readIfReady : (s.readIfReady x).resetHeld = s.resetHeld := by
  unfold State.readIfReady; split <;> rfl
@[simp] theorem root_readIfReady : (s.readIfReady x).root = s.root := by
  unfold State.readIfReady; split <;> rfl
@[simp] theorem notice_readIfReady : (s.readIfReady x).notice = s.notice := by
  unfold State.readIfReady; split <;> rfl
@[simp] theorem mask_readIfReady : (s.readIfReady x).mask = s.mask := by
  unfold State.readIfReady; split <;> rfl
@[simp] theorem fault_readIfReady : (s.readIfReady x).fault = s.fault := by
  unfold State.readIfReady; split <;> rfl
@[simp] theorem window_readIfReady : (s.readIfReady x).window = s.window := by
  unfold State.readIfReady; split <;> rfl
@[simp] theorem bus_readIfReady : (s.readIfReady x).bus = s.bus := by
  unfold State.readIfReady; split <;> rfl
@[simp] theorem clock_readIfReady : (s.readIfReady x).clock = s.clock := by
  unfold State.readIfReady; split <;> rfl
@[simp] theorem pads_readIfReady : (s.readIfReady x).pads = s.pads := by
  unfold State.readIfReady; split <;> rfl
@[simp] theorem pad_readIfReady (j : PadId) : (s.readIfReady x).pad j = s.pad j := by
  simp only [State.pad, pads_readIfReady]
@[simp] theorem owners_readIfReady : (s.readIfReady x).owners = s.owners := by
  unfold State.readIfReady; split <;> rfl
@[simp] theorem owner_readIfReady (j : PadId) : (s.readIfReady x).owner j = s.owner j := by
  simp only [State.owner, owners_readIfReady]
@[simp] theorem scan_readIfReady : (s.readIfReady x).scan = s.scan := by
  unfold State.readIfReady; split <;> rfl
@[simp] theorem fetchers_readIfReady : (s.readIfReady x).fetchers = s.fetchers := by
  unfold State.readIfReady; split <;> rfl
@[simp] theorem fetcher_readIfReady (j : Player) : (s.readIfReady x).fetcher j = s.fetcher j := by
  simp only [State.fetcher, fetchers_readIfReady]
@[simp] theorem judges_readIfReady : (s.readIfReady x).judges = s.judges := by
  unfold State.readIfReady; split <;> rfl
@[simp] theorem judge_readIfReady (j : Player) : (s.readIfReady x).judge j = s.judge j := by
  simp only [State.judge, judges_readIfReady]
@[simp] theorem scores_readIfReady : (s.readIfReady x).scores = s.scores := by
  unfold State.readIfReady; split <;> rfl
@[simp] theorem scoreUnit_readIfReady (j : Player) : (s.readIfReady x).scoreUnit j = s.scoreUnit j := by
  simp only [State.scoreUnit, scores_readIfReady]
@[simp] theorem sessions_readIfReady : (s.readIfReady x).sessions = s.sessions := by
  unfold State.readIfReady; split <;> rfl
@[simp] theorem session_readIfReady (j : Player) : (s.readIfReady x).session j = s.session j := by
  simp only [State.session, sessions_readIfReady]
@[simp] theorem writers_readIfReady : (s.readIfReady x).writers = s.writers := by
  unfold State.readIfReady; split <;> rfl
@[simp] theorem writer_readIfReady (j : Player) : (s.readIfReady x).writer j = s.writer j := by
  simp only [State.writer, writers_readIfReady]
@[simp] theorem refresh_readIfReady : (s.readIfReady x).refresh = s.refresh := by
  unfold State.readIfReady; split <;> rfl
@[simp] theorem lamps_readIfReady : (s.readIfReady x).lamps = s.lamps := by
  unfold State.readIfReady; split <;> rfl
@[simp] theorem pending_readIfReady : (s.readIfReady x).pending = s.pending := by
  unfold State.readIfReady; split <;> rfl
theorem work_readIfReady :
    (s.readIfReady x).work = s.work ++ if s.slotReady x then [.slotRead x] else [] := by
  unfold State.readIfReady; split <;> simp
theorem slot_readIfReady (j : SlotId) :
    (s.readIfReady x).slot j =
      if j = x then { s.slot x with readInFlight := (s.slot x).readInFlight || s.slotReady x } else s.slot j := by
  unfold State.readIfReady
  split <;> by_cases e : j = x <;> simp_all
theorem slotReady_readIfReady (j : SlotId) (h : j ≠ x) : (s.readIfReady x).slotReady j = s.slotReady j := by
  simp [State.slotReady, slot_readIfReady, h]

end readIfReady

section readReadySlots

variable (s : State)

@[simp] theorem run_readReadySlots : (s.readReadySlots).run = s.run := by
  simp [State.readReadySlots]
@[simp] theorem resetHeld_readReadySlots : (s.readReadySlots).resetHeld = s.resetHeld := by
  simp [State.readReadySlots]
@[simp] theorem root_readReadySlots : (s.readReadySlots).root = s.root := by
  simp [State.readReadySlots]
@[simp] theorem notice_readReadySlots : (s.readReadySlots).notice = s.notice := by
  simp [State.readReadySlots]
@[simp] theorem mask_readReadySlots : (s.readReadySlots).mask = s.mask := by
  simp [State.readReadySlots]
@[simp] theorem fault_readReadySlots : (s.readReadySlots).fault = s.fault := by
  simp [State.readReadySlots]
@[simp] theorem window_readReadySlots : (s.readReadySlots).window = s.window := by
  simp [State.readReadySlots]
@[simp] theorem bus_readReadySlots : (s.readReadySlots).bus = s.bus := by
  simp [State.readReadySlots]
@[simp] theorem clock_readReadySlots : (s.readReadySlots).clock = s.clock := by
  simp [State.readReadySlots]
@[simp] theorem pads_readReadySlots : (s.readReadySlots).pads = s.pads := by
  simp [State.readReadySlots]
@[simp] theorem pad_readReadySlots (j : PadId) : (s.readReadySlots).pad j = s.pad j := by
  simp only [State.pad, pads_readReadySlots]
@[simp] theorem owners_readReadySlots : (s.readReadySlots).owners = s.owners := by
  simp [State.readReadySlots]
@[simp] theorem owner_readReadySlots (j : PadId) : (s.readReadySlots).owner j = s.owner j := by
  simp only [State.owner, owners_readReadySlots]
@[simp] theorem scan_readReadySlots : (s.readReadySlots).scan = s.scan := by
  simp [State.readReadySlots]
@[simp] theorem fetchers_readReadySlots : (s.readReadySlots).fetchers = s.fetchers := by
  simp [State.readReadySlots]
@[simp] theorem fetcher_readReadySlots (j : Player) : (s.readReadySlots).fetcher j = s.fetcher j := by
  simp only [State.fetcher, fetchers_readReadySlots]
@[simp] theorem judges_readReadySlots : (s.readReadySlots).judges = s.judges := by
  simp [State.readReadySlots]
@[simp] theorem judge_readReadySlots (j : Player) : (s.readReadySlots).judge j = s.judge j := by
  simp only [State.judge, judges_readReadySlots]
@[simp] theorem scores_readReadySlots : (s.readReadySlots).scores = s.scores := by
  simp [State.readReadySlots]
@[simp] theorem scoreUnit_readReadySlots (j : Player) : (s.readReadySlots).scoreUnit j = s.scoreUnit j := by
  simp only [State.scoreUnit, scores_readReadySlots]
@[simp] theorem sessions_readReadySlots : (s.readReadySlots).sessions = s.sessions := by
  simp [State.readReadySlots]
@[simp] theorem session_readReadySlots (j : Player) : (s.readReadySlots).session j = s.session j := by
  simp only [State.session, sessions_readReadySlots]
@[simp] theorem writers_readReadySlots : (s.readReadySlots).writers = s.writers := by
  simp [State.readReadySlots]
@[simp] theorem writer_readReadySlots (j : Player) : (s.readReadySlots).writer j = s.writer j := by
  simp only [State.writer, writers_readReadySlots]
@[simp] theorem refresh_readReadySlots : (s.readReadySlots).refresh = s.refresh := by
  simp [State.readReadySlots]
@[simp] theorem lamps_readReadySlots : (s.readReadySlots).lamps = s.lamps := by
  simp [State.readReadySlots]
@[simp] theorem pending_readReadySlots : (s.readReadySlots).pending = s.pending := by
  simp [State.readReadySlots]
/-- R192: every slot that is ready is read, and no other. -/
theorem slot_readReadySlots (j : SlotId) :
    s.readReadySlots.slot j = { s.slot j with readInFlight := (s.slot j).readInFlight || s.slotReady j } := by
  cases j <;> simp [State.readReadySlots, slot_readIfReady, slotReady_readIfReady]
/-- R192: the reads join the work list in the order of the slots. -/
theorem work_readReadySlots :
    s.readReadySlots.work = s.work ++ ([SlotId.slot0, .slot1, .slot2].filter s.slotReady).map Work.slotRead := by
  simp only [State.readReadySlots, work_readIfReady, slotReady_readIfReady, ne_eq, reduceCtorEq, not_false_eq_true,
    List.append_assoc]
  congr 1
  cases a : s.slotReady .slot0 <;> cases b : s.slotReady .slot1 <;> cases c : s.slotReady .slot2 <;>
    simp [a, b, c, List.filter]
/-- Afterwards no slot is ready. -/
theorem slotReady_readReadySlots (j : SlotId) : s.readReadySlots.slotReady j = false := by
  have h : s.readReadySlots.slotReady j =
      ((s.slot j).attention && !((s.slot j).readInFlight || s.slotReady j) && (s.slot j).executing.isNone
        && (s.slot j).unwritten == 0 && (j != .slot0 || s.clock.held.isNone)) := by
    simp [State.slotReady, slot_readReadySlots]
  rw [h]
  cases e : s.slotReady j
  · unfold State.slotReady at e
    simpa using e
  · simp
/-- Nothing but slot reads is added. -/
theorem asked_readReadySlots : ∃ reads, s.readReadySlots.work = s.work ++ reads ∧ OnlySlotReads reads := by
  refine ⟨_, work_readReadySlots s, fun w h => ?_⟩
  obtain ⟨x, -, rfl⟩ := List.mem_map.mp h
  exact ⟨x, rfl⟩

end readReadySlots

section endTransfer

variable (s : State) (is : Xfer → Bool) (deal : Xfer → State → State)

/-- What the ending of a transfer can be. -/
theorem endTransfer_cases :
    s.endTransfer is deal = s
      ∨ (∃ x, s.bus.inFlight = some x ∧ x.silent = true ∧ s.endTransfer is deal = s.freeBus)
      ∨ ∃ x, s.bus.inFlight = some x ∧ is x.what = true ∧ x.silent = false ∧ s.endTransfer is deal = deal x.what s.freeBus := by
  unfold State.endTransfer
  split
  · exact .inl rfl
  · rename_i x e
    by_cases h : is x.what
    · by_cases q : x.silent
      · exact .inr (.inl ⟨x, e, q, by simp [h, q]⟩)
      · exact .inr (.inr ⟨x, e, h, by simpa using q, by simp [h, q]⟩)
    · exact .inl (by simp [h])

/-- R200: the transfer in flight ends for its block. -/
theorem endTransfer_carrying {x : Xfer} (h : Carrying s x) (k : is x = true) :
    s.endTransfer is deal = deal x s.freeBus := by
  obtain ⟨t, e, rfl, q⟩ := h
  unfold State.endTransfer
  rw [e]
  simp [k, q]

end endTransfer

section showPads

variable (s : State)

@[simp] theorem run_showPads : (s.showPads).run = s.run := rfl
@[simp] theorem resetHeld_showPads : (s.showPads).resetHeld = s.resetHeld := rfl
@[simp] theorem root_showPads : (s.showPads).root = s.root := rfl
@[simp] theorem notice_showPads : (s.showPads).notice = s.notice := rfl
@[simp] theorem mask_showPads : (s.showPads).mask = s.mask := rfl
@[simp] theorem fault_showPads : (s.showPads).fault = s.fault := rfl
@[simp] theorem window_showPads : (s.showPads).window = s.window := rfl
@[simp] theorem slots_showPads : (s.showPads).slots = s.slots := rfl
@[simp] theorem slot_showPads (j : SlotId) : (s.showPads).slot j = s.slot j := rfl
@[simp] theorem work_showPads : (s.showPads).work = s.work := rfl
@[simp] theorem clock_showPads : (s.showPads).clock = s.clock := rfl
@[simp] theorem pads_showPads : (s.showPads).pads = s.pads := rfl
@[simp] theorem pad_showPads (j : PadId) : (s.showPads).pad j = s.pad j := rfl
@[simp] theorem owners_showPads : (s.showPads).owners = s.owners := rfl
@[simp] theorem owner_showPads (j : PadId) : (s.showPads).owner j = s.owner j := rfl
@[simp] theorem fetchers_showPads : (s.showPads).fetchers = s.fetchers := rfl
@[simp] theorem fetcher_showPads (j : Player) : (s.showPads).fetcher j = s.fetcher j := rfl
@[simp] theorem judges_showPads : (s.showPads).judges = s.judges := rfl
@[simp] theorem judge_showPads (j : Player) : (s.showPads).judge j = s.judge j := rfl
@[simp] theorem scores_showPads : (s.showPads).scores = s.scores := rfl
@[simp] theorem scoreUnit_showPads (j : Player) : (s.showPads).scoreUnit j = s.scoreUnit j := rfl
@[simp] theorem sessions_showPads : (s.showPads).sessions = s.sessions := rfl
@[simp] theorem session_showPads (j : Player) : (s.showPads).session j = s.session j := rfl
@[simp] theorem writers_showPads : (s.showPads).writers = s.writers := rfl
@[simp] theorem writer_showPads (j : Player) : (s.showPads).writer j = s.writer j := rfl
@[simp] theorem refresh_showPads : (s.showPads).refresh = s.refresh := rfl
@[simp] theorem lamps_showPads : (s.showPads).lamps = s.lamps := rfl
@[simp] theorem pending_showPads : (s.showPads).pending = s.pending := rfl
@[simp] theorem bus_showPads : (s.showPads).bus = s.bus := rfl

end showPads

section markServing

variable (s : State) (pl : Player) (on : Bool)

@[simp] theorem run_markServing : (s.markServing pl on).run = s.run := rfl
@[simp] theorem resetHeld_markServing : (s.markServing pl on).resetHeld = s.resetHeld := rfl
@[simp] theorem root_markServing : (s.markServing pl on).root = s.root := rfl
@[simp] theorem notice_markServing : (s.markServing pl on).notice = s.notice := rfl
@[simp] theorem mask_markServing : (s.markServing pl on).mask = s.mask := rfl
@[simp] theorem fault_markServing : (s.markServing pl on).fault = s.fault := rfl
@[simp] theorem window_markServing : (s.markServing pl on).window = s.window := rfl
@[simp] theorem slots_markServing : (s.markServing pl on).slots = s.slots := rfl
@[simp] theorem slot_markServing (j : SlotId) : (s.markServing pl on).slot j = s.slot j := rfl
@[simp] theorem work_markServing : (s.markServing pl on).work = s.work := rfl
@[simp] theorem clock_markServing : (s.markServing pl on).clock = s.clock := rfl
@[simp] theorem pads_markServing : (s.markServing pl on).pads = s.pads := rfl
@[simp] theorem pad_markServing (j : PadId) : (s.markServing pl on).pad j = s.pad j := rfl
@[simp] theorem owners_markServing : (s.markServing pl on).owners = s.owners := rfl
@[simp] theorem owner_markServing (j : PadId) : (s.markServing pl on).owner j = s.owner j := rfl
@[simp] theorem scan_markServing : (s.markServing pl on).scan = s.scan := rfl
@[simp] theorem fetchers_markServing : (s.markServing pl on).fetchers = s.fetchers := rfl
@[simp] theorem fetcher_markServing (j : Player) : (s.markServing pl on).fetcher j = s.fetcher j := rfl
@[simp] theorem scores_markServing : (s.markServing pl on).scores = s.scores := rfl
@[simp] theorem scoreUnit_markServing (j : Player) : (s.markServing pl on).scoreUnit j = s.scoreUnit j := rfl
@[simp] theorem sessions_markServing : (s.markServing pl on).sessions = s.sessions := rfl
@[simp] theorem session_markServing (j : Player) : (s.markServing pl on).session j = s.session j := rfl
@[simp] theorem writers_markServing : (s.markServing pl on).writers = s.writers := rfl
@[simp] theorem writer_markServing (j : Player) : (s.markServing pl on).writer j = s.writer j := rfl
@[simp] theorem refresh_markServing : (s.markServing pl on).refresh = s.refresh := rfl
@[simp] theorem lamps_markServing : (s.markServing pl on).lamps = s.lamps := rfl
@[simp] theorem pending_markServing : (s.markServing pl on).pending = s.pending := rfl
@[simp] theorem bus_markServing : (s.markServing pl on).bus = s.bus := rfl

end markServing

section takeTime

variable (s : State) (pl : Player) (v : Int)

@[simp] theorem run_takeTime : (s.takeTime pl v).run = s.run := rfl
@[simp] theorem resetHeld_takeTime : (s.takeTime pl v).resetHeld = s.resetHeld := rfl
@[simp] theorem root_takeTime : (s.takeTime pl v).root = s.root := rfl
@[simp] theorem notice_takeTime : (s.takeTime pl v).notice = s.notice := rfl
@[simp] theorem mask_takeTime : (s.takeTime pl v).mask = s.mask := rfl
@[simp] theorem fault_takeTime : (s.takeTime pl v).fault = s.fault := rfl
@[simp] theorem window_takeTime : (s.takeTime pl v).window = s.window := rfl
@[simp] theorem slots_takeTime : (s.takeTime pl v).slots = s.slots := rfl
@[simp] theorem slot_takeTime (j : SlotId) : (s.takeTime pl v).slot j = s.slot j := rfl
@[simp] theorem work_takeTime : (s.takeTime pl v).work = s.work := rfl
@[simp] theorem clock_takeTime : (s.takeTime pl v).clock = s.clock := rfl
@[simp] theorem pads_takeTime : (s.takeTime pl v).pads = s.pads := rfl
@[simp] theorem pad_takeTime (j : PadId) : (s.takeTime pl v).pad j = s.pad j := rfl
@[simp] theorem owners_takeTime : (s.takeTime pl v).owners = s.owners := rfl
@[simp] theorem owner_takeTime (j : PadId) : (s.takeTime pl v).owner j = s.owner j := rfl
@[simp] theorem scan_takeTime : (s.takeTime pl v).scan = s.scan := rfl
@[simp] theorem fetchers_takeTime : (s.takeTime pl v).fetchers = s.fetchers := rfl
@[simp] theorem fetcher_takeTime (j : Player) : (s.takeTime pl v).fetcher j = s.fetcher j := rfl
@[simp] theorem scores_takeTime : (s.takeTime pl v).scores = s.scores := rfl
@[simp] theorem scoreUnit_takeTime (j : Player) : (s.takeTime pl v).scoreUnit j = s.scoreUnit j := rfl
@[simp] theorem sessions_takeTime : (s.takeTime pl v).sessions = s.sessions := rfl
@[simp] theorem session_takeTime (j : Player) : (s.takeTime pl v).session j = s.session j := rfl
@[simp] theorem writers_takeTime : (s.takeTime pl v).writers = s.writers := rfl
@[simp] theorem writer_takeTime (j : Player) : (s.takeTime pl v).writer j = s.writer j := rfl
@[simp] theorem refresh_takeTime : (s.takeTime pl v).refresh = s.refresh := rfl
@[simp] theorem lamps_takeTime : (s.takeTime pl v).lamps = s.lamps := rfl
@[simp] theorem pending_takeTime : (s.takeTime pl v).pending = s.pending := rfl
@[simp] theorem bus_takeTime : (s.takeTime pl v).bus = s.bus := rfl

end takeTime

section ownPads

variable (s : State) (pl : Player) (set : PadSet)

/-- R32, R139: becoming the owner of pads tells their profile reads so, and leaves the rest of the work list. -/
theorem work_ownPads : (s.ownPads pl set).work = s.work.map (Work.claim set.pads) := by cases set <;> rfl

/-- R138: the player owns the pads of the set, the other pads keep their owners. -/
theorem owner_ownPads (i : PadId) : (s.ownPads pl set).owner i = if i ∈ set.pads then some pl else s.owner i := by
  cases set <;> cases i <;> rfl

/-- R31, R138: the pads of the set have their hold-active indications cleared, the others stay. -/
theorem pad_ownPads (i : PadId) : (s.ownPads pl set).pad i = if i ∈ set.pads then (s.pad i).clearHolds else s.pad i := by
  cases set <;> cases i <;> rfl

end ownPads

end State

/-! ### Profile reads that learn of an owner (R32, R139) -/

@[simp] theorem Work.claim_settings (pads : List PadId) : Work.claim pads .settings = .settings := rfl
@[simp] theorem Work.claim_slotRead (pads : List PadId) (x : SlotId) : Work.claim pads (.slotRead x) = .slotRead x := rfl
@[simp] theorem Work.claim_profile (pads : List PadId) (pad : PadId) (addr : Nat) (claimed : Bool) :
    Work.claim pads (.profile pad addr claimed) = .profile pad addr (claimed || decide (pad ∈ pads)) := rfl

/-- Only a profile read is changed, and it stays one. -/
theorem Work.claim_of_not_profile (pads : List PadId) (w : Work) (h : ∀ pad addr c, w ≠ .profile pad addr c) :
    Work.claim pads w = w := by
  cases w <;> first | rfl | exact absurd rfl (h _ _ _)

/-- The transfers of a list that are not profile reads are as many as before. -/
theorem Work.count_map_claim (pads : List PadId) (w : Work) (h : ∀ pad addr c, w ≠ .profile pad addr c) (l : List Work) :
    (l.map (Work.claim pads)).count w = l.count w := by
  induction l with
  | nil => rfl
  | cons v l ih =>
    have : (Work.claim pads v == w) = (v == w) := by
      cases v <;> first | rfl | simp [Ne.symm (h _ _ _)]
    simp [List.count_cons, ih, this]

end Sys2Proof.Machine
end

