-- ==== Sys2Proof/WellFormed.lean ====
section
/-! DEFINITION. Which commands are spelled as the table means them: a command outside this still has the meaning its
rules give it (log entry 2). -/

namespace Sys2Proof

/-- A row's operand `entry` names a pool entry: at most 128 (R70). -/
def entryOk (i : Nat) : Bool := decide (i < 2 * Config.poolSize)

/-- A round's order names nothing twice (log entry 4). -/
def RoundOrder.ok (o : RoundOrder) : Bool := decide (o.sensors.Nodup) && decide (o.items.Nodup)

/-- A register of the window: a word offset from 0x00 to 0x14 (R186). -/
def registerOk (offset : Nat) : Bool := decide (offset % 4 = 0) && decide (offset ≤ 0x14)

/-- Whether a command is spelled as its row means it. -/
def wellFormed (i : Instr) : Bool :=
  match i with
  | .roundStrobe _ order => order.ok
  | .heldRequest kind _ => Machine.takenKind .slot0 kind != some .songStop
  | .unknownKind slot kind _ => (Machine.takenKind slot kind).isNone
  | .beatDue _ i => entryOk i
  | .lapseDue _ i => entryOk i
  | .crossingDue _ i => entryOk i
  | .avoidSettleDue _ i => entryOk i
  | .graceDue _ i => entryOk i
  | .settleDue _ i => entryOk i
  | .faultRearm v => v.getLsbD 5
  | .registerWrite offset _ => registerOk offset
  | .songStart w | .songPause w | .songResume w | .songStop w _ | .loadProfile w | .calibrate w | .sensorDump w =>
    w.tag != w.doneTag
  | .arm _ w | .abandon _ w | .refreshNow _ w => w.tag != w.doneTag
  | .syncPulse _ | .anomalyRunReport | .lockLoss | .startFallback _ | .resumeFallback _ | .profileReadDone _
  | .calibrationComplete _ | .baselineTableWriteDone _ | .dumpCapture | .dumpWriteDone _ | .sensorFail _
  | .sensorRecover _ | .pressConfirm _ _ | .releaseConfirm _ _ | .stuckRelease _ _ | .descriptorReadDone _ _
  | .staleRequest _ _ | .slotReadFault _ | .completionWriteDone _ _ | .pageWaitResume _ | .headerReadDone _ _
  | .poolEntryReserve _ | .recordReadDone _ _ | .stalledRecordRetry _ | .pollDue _ | .fillRereadDone _ _
  | .linkReadDone _ _ | .fetchReadDiscarded _ _ | .busGrant | .busTimeout | .resultWriteDone _ | .resultWriteError _
  | .retirementWriteDone _ _ | .refreshPeriodDue | .holdReadDone _ | .nowHoldReadDone _ _ | .scoreboardWriteDone _ _
  | .finalScoreboardWriteDone _ _ | .mirrorWriteDone _ | .faultRecordWriteDone _ | .flashEnd _ _ | .pwmPeriodStart
  | .standbyExit | .settingsReadDone _ | .wakingAbandon | .standbyEntry | .controlReset _ | .resetComplete | .resetN
  | .resetNRise | .root _ | .attn _ | .notice _ | .noticeMask _ => true

end Sys2Proof
end

