-- ==== Sys2Proof/Tests/Slice0.lean ====
section
/-! SUPPORT. Tests: what WellFormed refuses, small steps whose expected results are worked from the spec, and for every
statement with hypotheses a state and operands that meet them, with some of what the spec then gives. -/

namespace Sys2Proof.Tests

open Machine

-- one thread for the kernel's evaluations keeps the memory of a build small
set_option Elab.async false

/-! ### Small states -/

/-- What holds of the state after a command. -/
def after (s : State) (c : Instr) (p : State → Bool) : Bool :=
  match exec c s with
  | .next t => p t
  | _ => false

/-- The state after some commands. -/
def runs (s : State) : List Instr → State
  | [] => s
  | c :: l => match exec c s with
    | .next t => runs t l
    | _ => s

/-- OPERATING, with the window and the root block of the spec's examples. -/
def up : State :=
  { State.reset with
    run := .operating, root := 0x100000, window := ⟨0x100000, 0x13FFFF⟩, clock := { Clock.reset with taking := true } }

/-- A transfer in flight. -/
def busy (s : State) (x : Xfer) : State := s.setBus { s.bus with inFlight := some ⟨x, 0x100000, 32, [], false⟩ }

theorem busy_carrying (s : State) (x : Xfer) : Carrying (busy s x) x := ⟨_, rfl, rfl, rfl⟩

/-- A slot that executes a request of tag 7. -/
def executing (s : State) (x : SlotId) : State := s.setSlot x { s.slot x with executing := some ⟨7, 0, 0, 0⟩ }

/-- The words of a fresh request. -/
def fresh (a0 a1 : Word) : SlotWords := ⟨5, 4, a0, a1⟩

/-- A slot read in flight. -/
def reading (s : State) (x : SlotId) : State := busy s (.request (.slotRead x))

theorem reading_fresh (s : State) (x : SlotId) (a b : Word) : FreshRead (reading s x) x (fresh a b) :=
  ⟨⟨_, rfl, rfl, rfl⟩, fun h => absurd (show (5 : BitVec 16) = 4 from h) (by decide)⟩

def clocked (s : State) (f : Clock → Clock) : State := s.setClock (f s.clock)

def profile : Profile :=
  { Profile.clear with
    panelCount := 4, enables := 0xFFFF, tOn := 900, tOff := 600, dOn := 1, dOff := 3, shift := 6, stuckLimit := 1 }

def active : Pad :=
  { Pad.reset with state := .active, profile, panels := Tab.fill 6 { Panel.reset with state := .up } }

/-- PAD0 ACTIVE, nobody's. -/
def padded : State := up.setPad .pad0 active

/-- PAD0 with panel 0 as given. -/
def panelled (x : Panel) : State := up.setPad .pad0 { active with panels := active.panels.set 0 x }

def params : Params :=
  { Params.zero with
    apex := ⟨10, 10, 64, 5, .add⟩, solid := ⟨20, 20, 48, 3, .add⟩, fair := ⟨30, 30, 32, 0, .keep⟩,
    thin := ⟨40, 40, 16, -2, .break⟩, lapseDelta := -20, heldDelta := 4, droppedDelta := -10, struckDelta := -50,
    depth := 4, grace := 8, avoidWindow := 5 }

def session : Session :=
  { Session.reset with
    state := .playing, padSet := some .pad0, laneCount := 4, laneMap := Tab.ofFn (fun i => BitVec.ofNat 8 i.val) }

/-- P0 owns PAD0 and is PLAYING at song time 1000, with these entries, `lane` being lane 0. -/
def playing (pool : List Entry) (lane : List Nat) : State :=
  { padded with
    owners := ⟨some .p0, none⟩, sessions := ⟨session, Session.reset⟩,
    clock := { Clock.reset with state := .running, songTime := 1000, lastPulse := 1000, phase := 3, taking := true },
    judges := ⟨{ Judge.empty 0 params 1000 with pool, lanes := (Tab.fill 12 []).set 0 lane }, Judge.empty 64 params 0⟩,
    scores := ⟨{ Score.start 100 false 600 with assigned := 10 }, Score.clear .none⟩ }

/-- The due times of P0's judged song time are being served (R87). -/
def serving (s : State) : State := s.setJudge .p0 { s.judge .p0 with serving := true }

/-- A note of lane 0. -/
def note (state : EntryState) (kind : RecordKind) (time : Int) : Entry :=
  { Entry.blank with state, record := { NoteRecord.blank with kind, time }, unit := some 0 }

/-- A panel that stands at its press threshold, with the rise stamp given. -/
def rising (stamp : Int) : Panel := { Panel.reset with state := .rising, riseStamp := stamp, confirm := 2 }

def onPad0 (s : State) (x : Panel) : State := s.setPad .pad0 { active with panels := active.panels.set 0 x }

def idleRound : Instr := .roundStrobe ⟨Tab.fill 24 5, Tab.fill 24 7⟩ ⟨[], [], .p0⟩

/-! ### WellFormed refuses -/

theorem test_wellFormed_refuses_repeated_order :
    wellFormed (.roundStrobe ⟨Tab.fill 24 0, Tab.fill 24 0⟩ ⟨[], [.countdown, .countdown], .p0⟩) = false := by decide

theorem test_wellFormed_refuses_repeated_sensor :
    wellFormed (.roundStrobe ⟨Tab.fill 24 0, Tab.fill 24 0⟩ ⟨[⟨.pad0, 0, 0⟩, ⟨.pad0, 0, 0⟩], [], .p0⟩) = false := by
  decide

theorem test_wellFormed_refuses_held_stop : wellFormed (.heldRequest 4 (fresh 0 0)) = false := by decide

theorem test_wellFormed_refuses_known_kind : wellFormed (.unknownKind .slot1 8 (fresh 0 0)) = false := by decide

theorem test_wellFormed_refuses_entry_128 :
    [Instr.beatDue .p0 128, .lapseDue .p0 128, .crossingDue .p0 128, .avoidSettleDue .p0 128, .graceDue .p0 128,
      .settleDue .p0 128].all (fun c => !wellFormed c) = true := by decide

theorem test_wellFormed_refuses_rearm_without_fault_bit : wellFormed (.faultRearm 0xDF) = false := by decide

theorem test_wellFormed_refuses_odd_register : wellFormed (.registerWrite 0x02 0) = false
    ∧ wellFormed (.registerWrite 0x18 0) = false := by decide

theorem test_wellFormed_refuses_stale_request :
    [Instr.songStart ⟨4, 4, 0, 0⟩, .songPause ⟨4, 4, 0, 0⟩, .songResume ⟨4, 4, 0, 0⟩, .songStop ⟨4, 4, 0, 0⟩ .p0,
      .loadProfile ⟨4, 4, 0, 0⟩, .calibrate ⟨4, 4, 0, 0⟩, .sensorDump ⟨4, 4, 0, 0⟩, .arm .p0 ⟨4, 4, 0, 0⟩,
      .abandon .p0 ⟨4, 4, 0, 0⟩, .refreshNow .p0 ⟨4, 4, 0, 0⟩].all (fun c => !wellFormed c) = true := by decide

/-! ### A request slot's bytes (spec/11): tag 0x0041, kind ARM, descriptor 0x00102000, done tag 0x0040 -/

theorem test_slot_bytes_spell_arm :
    slotCommand .slot1 (BitVec.ofNat 256 (0x0041 + 8 * 2 ^ 16 + 0x00102000 * 2 ^ 32 + 0x0040 * 2 ^ 144)) .p0
      = .arm .p0 ⟨0x41, 0x40, 0x00102000, 0⟩ := by decide +kernel

theorem test_slot_bytes_spell_stale :
    slotCommand .slot1 (BitVec.ofNat 256 (0x0041 + 8 * 2 ^ 16 + 0x0041 * 2 ^ 144)) .p0
      = .staleRequest .slot1 ⟨0x41, 0x41, 0, 0⟩ := by decide +kernel

/-! ### Register window and run states -/

/-- R190, R191: from power-on reset ROOT is written, RUN is written 1, and the settings of R188 bring the part up. -/
theorem test_bring_up :
    let settings : BitVec 512 := BitVec.ofNat 512 (0x100000 + 0x13FFFF * 2 ^ 32 + 70 * 2 ^ 64 + 1 * 2 ^ 72)
    let s := runs State.reset [.root 0x10003F, .standbyExit, .busGrant, .settingsReadDone (some settings)]
    s.run = .operating ∧ s.root = 0x100000 ∧ s.refresh.period = 64 ∧ s.clock.edge = .falling ∧ s.scan.assign = .normal
      ∧ s.window = ⟨0x100000, 0x13FFFF⟩ := by decide +kernel

/-- R188: after the exit a pulse is taken from the first round strobe on, and finds the phase count at 32 (R17). -/
theorem test_pulse_waits_for_the_first_strobe :
    let s := { (up.setRun .waking).setClock Clock.reset with work := [.settings] }
    let o := runs s [.busGrant, .settingsReadDone (some (BitVec.ofNat 512 (0x100000 + 0x13FFFF * 2 ^ 32)))]
    o.run = .operating ∧ o.clock.taking = false ∧ after o (.syncPulse .p0) (fun t => t = o)
      ∧ after (runs o [idleRound]) (.syncPulse .p0) (fun t => t.clock.phase = 0 && t.clock.anomalyRun = 0 && t.fault = o.fault)
      ∧ after (runs o [idleRound]) .standbyEntry (fun t => !t.clock.taking) := by decide +kernel

theorem witness_RootTakesStandbyWritesOnly : State.reset.resetHeld = false ∧ State.reset.run = .standby
    ∧ after State.reset (.root 0xFFFFFFFF) (fun t => t.root = 0xFFFFFFC0)
    ∧ up.resetHeld = false ∧ up.run ≠ .standby ∧ after up (.root 0x200000) (fun t => t.root = 0x100000)
    ∧ (up.setFault { up.fault with writePending := true }).fault.writePending = true := by decide +kernel

theorem witness_NoticeMaskAndAttnWrites : up.resetHeld = false ∧ up.run = .operating
    ∧ after (up.setNotices 0xFF) (.notice 0x21) (fun t => t.notice = 0xDE && t.fault.writePending)
    ∧ after (up.setNotices 0xFF) (.notice 0x01) (fun t => t.notice = 0xFE && !t.fault.writePending)
    ∧ after (up.setNotices 0xFF) (.faultRearm 0x20) (fun t => t.notice = 0xDF && t.fault.writePending)
    ∧ after (up.setNotices 0x40) (.noticeMask 0xC0) (fun t => t.mask = 0xC0 && t.notice = 0x40 && t.alert)
    ∧ after up (.attn 5) (fun t => t.work = [.slotRead .slot0, .slotRead .slot2])
    ∧ after State.reset (.attn 5) (fun t => t.work = [])
    ∧ (up.setRun .resetting).run = .resetting := by decide +kernel

theorem witness_ControlRunWrites : State.reset.resetHeld = false ∧ State.reset.run = .standby
    ∧ after State.reset .standbyExit (fun t => t.run = .waking && t.work = [.settings] && t.readRegister 4 = 1)
    ∧ (up.setRun .waking).run = .waking
    ∧ after ((busy up (.request .settings)).setRun .waking) .wakingAbandon (fun t =>
        t.run = .standby && t.bus.inFlight.any (fun x => x.silent))
    ∧ State.reset.run ≠ .operating ∧ State.reset.run ≠ .waking := by decide +kernel

theorem witness_RegisterWindow : up.resetHeld = false ∧ up.run ≠ .resetting
    ∧ after up (.registerWrite 0x14 0x1FF) (fun t => t.mask = 0xFF && t.readRegister 0x14 = 0xFF)
    ∧ after up (.registerWrite 0x04 0) (fun t => t.run = .standby) ∧ (0x18 : Nat) ∉ [0x04, 0x08, 0x0C, 0x10, 0x14]
    ∧ up.readRegister 0 = 0x5A260001 := by decide +kernel

/-- The settings of R188 at their edges: low one below high is enough, and the root block may end at high. -/
def edgeSettings (high : Nat) : BitVec 512 := BitVec.ofNat 512 (0x100000 + high * 2 ^ 32)

theorem witness_SettingsReadEnds :
    let s := busy (up.setRun .waking) (.request .settings)
    Carrying s (.request .settings) ∧ fieldAt (edgeSettings 0x10017F) 0 4 < fieldAt (edgeSettings 0x10017F) 4 4
      ∧ fieldAt (edgeSettings 0x10017F) 0 4 ≤ s.root.toNat ∧ s.root.toNat + 383 ≤ fieldAt (edgeSettings 0x10017F) 4 4
      ∧ after s (.settingsReadDone (some (edgeSettings 0x10017F))) (fun t =>
          t.run = .operating && t.refresh.period = 1 && t.window = ⟨0x100000, 0x10017F⟩)
      ∧ ¬ s.root.toNat + 383 ≤ fieldAt (edgeSettings 0x10017E) 4 4
      ∧ after s (.settingsReadDone (some (edgeSettings 0x10017E))) (fun t =>
          t.run = .standby && t.fault.kind = .settings && t.notice = 0x20)
      ∧ after s (.settingsReadDone none) (fun t => t.run = .standby && t.fault.kind = .settings) :=
  ⟨busy_carrying _ _, by decide +kernel⟩

theorem witness_StandbyEntryStopsEveryBlock :
    let s := playing [note .waiting .tap 1010] [0]
    s.resetHeld = false ∧ s.run = .operating
      ∧ after s .standbyEntry (fun t => t.run = .standby && (t.scoreUnit .p0).outcome = .aborted
          && (t.session .p0).state = .idle && t.clock.songTime = 1000 && t.owner .pad0 = none
          && (t.judge .p0).pool.length = 64) := by decide +kernel

theorem witness_DeviceReset : up.resetHeld = false ∧ up.run ≠ .resetting ∧ up.bus.inFlight = none
    ∧ after up (.controlReset true) (fun t => t.run = .standby && t.root = 0x100000)
    ∧ (busy up .holds).bus.inFlight ≠ none
    ∧ after (busy up .holds) (.controlReset false) (fun t => t.run = .resetting && t.readRegister 4 = 2)
    ∧ after (up.setRun .resetting) .resetComplete (fun t => t.run = .standby && t.window = ⟨0x100000, 0x13FFFF⟩)
    ∧ after up .resetN (fun t => t.resetHeld && t.root = 0 && t.window = ⟨0, 0⟩) := by decide +kernel

/-! ### Bus Port -/

/-- REQUEST, FETCH0 and REFRESH ask. -/
def asking (last : Client) : State :=
  { up with
    work := [.slotRead .slot1], bus := { up.bus with last },
    fetchers := ⟨{ Fetcher.reset with state := .pageWait, read := some ⟨.header, 0x110000, false⟩ }, Fetcher.reset⟩,
    refresh := { Refresh.reset with jobs := [⟨.periodic, [.holds], false⟩] } }

theorem witness_ArbiterGrantsNextAsker :
    let s := asking .request
    s.run = .operating ∧ s.bus.inFlight = none ∧ s.asks (.fetch .p0) = true
      ∧ after s .busGrant (fun t => t.bus.last = .fetch .p0)
      ∧ after (asking (.fetch .p0)) .busGrant (fun t => t.bus.last = .refresh)
      ∧ after (asking .refresh) .busGrant (fun t => t.bus.last = .request)
      ∧ after up .busGrant (fun t => t.bus.inFlight = none) := by decide +kernel

theorem witness_RequestGrant :
    let s := asking .refresh
    s.run = .operating ∧ s.bus.inFlight = none ∧ s.nextClient = some .request ∧ s.fault.writePending = false
      ∧ s.work = [.slotRead .slot1] ∧ s.window.low ≤ (s.workTransfer (.slotRead .slot1)).addr
      ∧ (s.workTransfer (.slotRead .slot1)).addr + 31 ≤ s.window.high
      ∧ after s .busGrant (fun t => t.bus.inFlight.any (fun x => x.addr = 0x100060 && x.len = 32) && t.work = [])
      ∧ (let f := s.setFault { s.fault with writePending := true }
        f.nextClient = some .request ∧ f.window.low ≤ f.root.toNat + 0xA8 ∧ f.root.toNat + 0xA8 + 23 ≤ f.window.high
          ∧ after f .busGrant (fun t => t.bus.inFlight.any (fun x => x.what = .faultRecord && x.len = 24
              && x.data.length = 24) && !t.fault.writePending)) := by decide +kernel

/-- R188: the settings read is granted in WAKING, whatever the fault record has pending. R167: FINAL first, then the job
begun, then the oldest. -/
theorem witness_waking_grant_and_job_order :
    let s := { up with run := .waking, work := [.settings], fault := { up.fault with writePending := true } }
    let old : Job := ⟨.now .p0, [.nowHold .p0], false⟩
    let begun : Job := ⟨.periodic, [.mirrors], true⟩
    let final : Job := ⟨.final .p1, [.finalBoard .p1], false⟩
    s.bus.inFlight = none ∧ [Client.fetch .p0, .fetch .p1, .write .p0, .write .p1, .refresh].all (fun c => !s.asks c) = true
      ∧ after s .busGrant (fun t => t.bus = ⟨some ⟨.request .settings, 0x100000, 64, [], false⟩, .request⟩ && t.work = [])
      ∧ pickJob [old, begun, final] = some final ∧ pickJob [old, begun] = some begun ∧ pickJob [old] = some old := by
  decide +kernel

/-- R40: a profile applied after a round end shows in the mirrors with the next round end only. -/
theorem test_mirrors_show_the_last_round_end :
    let s := executing (runs padded [idleRound]) .slot0
    let l := runs (busy s (.request (.profile .pad0 0x101000 false))) [.profileReadDone (some (BitVec.ofNat 768 6))]
    s.scan.shown.pad0.panelCount = 4 ∧ l.scan.shown = s.scan.shown ∧ (l.pad .pad0).profile.panelCount = 6
      ∧ (runs l [idleRound]).scan.shown.pad0.panelCount = 6 := by decide +kernel

theorem witness_FetchAndWriteBackGrants :
    let s := asking .request
    let w := (playing [note .final .tap 1010] []).setWriter .p0 ⟨[.result 0], none, false, 0⟩
    let v := { w with judges := ⟨{ w.judges.p0 with pool := [{ note .final .tap 1010 with
      addr := 0x110010, own := .apex, unitGrade := .apex, offset := -2 }] }, w.judges.p1⟩ }
    s.nextClient = some (.fetch .p0) ∧ (s.fetcher .p0).read = some ⟨.header, 0x110000, false⟩
      ∧ s.window.low ≤ 0x110000 ∧ 0x110000 + 16 - 1 ≤ s.window.high
      ∧ after s .busGrant (fun t => t.bus.inFlight = some ⟨.fetch .p0 .header, 0x110000, 16, [], false⟩)
      ∧ v.run = .operating ∧ v.bus.inFlight = none ∧ v.nextClient = some (.write .p0)
      ∧ (v.writer .p0).queue = [.result 0] ∧ v.window.low ≤ 0x11001A ∧ 0x11001A + 6 - 1 ≤ v.window.high
      ∧ after v .busGrant (fun t => t.bus.inFlight = some ⟨.result .p0 0, 0x11001A, 6, [1, 1, 0, 0, 0xFE, 0xFF], false⟩)
      ∧ (let r := v.setWriter .p0 ⟨[.retire 0x110000 20], none, true, 19⟩
        r.nextClient = some (.write .p0) ∧ (r.writer .p0).queue = [.retire 0x110000 20]
          ∧ after r .busGrant (fun t => t.bus.inFlight = some ⟨.retire .p0 20, 0x11000C, 4, [20, 0, 0, 0], false⟩)) := by
  decide +kernel

/-- The Refresh Unit alone asks, for this transfer. -/
def refreshing (kind : JobKind) (x : RefreshXfer) : State :=
  { up with
    refresh := { Refresh.reset with jobs := [⟨kind, [x], true⟩], serial := ⟨4294967295, 3⟩ },
    scores := ⟨{ Score.clear .none with flags := 0x11, life := 600 }, Score.clear .none⟩ }

theorem witness_RefreshGrant :
    let s := refreshing .periodic (.board .p0)
    let n := refreshing (.now .p1) (.nowHold .p1)
    s.run = .operating ∧ s.bus.inFlight = none ∧ s.nextClient = some .refresh
      ∧ pickJob s.refresh.jobs = some ⟨.periodic, [.board .p0], true⟩ ∧ s.window.low ≤ s.root.toNat
      ∧ s.root.toNat + 383 ≤ s.window.high
      ∧ after s .busGrant (fun t => t.refresh.serial = ⟨0, 3⟩ && t.refresh.carried = ⟨0x11, 0⟩
          && (t.scoreUnit .p0).flags = 0 && t.bus.inFlight.any (fun x => x.addr = 0x1000C0 && x.data.length = 64))
      ∧ n.nextClient = some .refresh ∧ after n .busGrant (fun t => t.bus.inFlight.any (fun x => x.addr = 0x1000A4))
      ∧ after (refreshing .periodic .holds) .busGrant (fun t => t.bus.inFlight.any (fun x => x.addr = 0x1000A0))
      ∧ after (refreshing .periodic .mirrors) .busGrant (fun t =>
          t.bus.inFlight.any (fun x => x.addr = 0x100140 && x.data.length = 64))
      ∧ after (refreshing (.final .p1) (.finalBoard .p1)) .busGrant (fun t =>
          t.bus.inFlight.any (fun x => x.addr = 0x100100 && x.data[20]? = some 5)) := by decide +kernel

theorem witness_BusErrors :
    let s := { asking .request with window := ⟨0x100000, 0x110000⟩ }
    Carrying (busy up .holds) .holds ∧ s.run = .operating ∧ s.bus.inFlight = none ∧ s.nextClient = some (.fetch .p0)
      ∧ s.grantOf (.fetch .p0) = some ⟨s, ⟨.fetch .p0 .header, 0x110000, 16, [], false⟩⟩
      ∧ ¬ (0x110000 + 16 - 1 ≤ s.window.high)
      ∧ after s .busGrant (fun t => t.bus = ⟨none, .fetch .p0⟩ && t.fault.kind = .busRead)
      ∧ after (busy up .holds) .busTimeout (fun t => t.fault.kind = .busRead)
      ∧ (let x := up.setBus { up.bus with inFlight := some ⟨.holds, 0, 8, [], true⟩ }
        after x .busTimeout (fun t => t = up))
      ∧ up.bus.inFlight = none :=
  ⟨busy_carrying _ _, by decide +kernel⟩

/-! ### Song Clock -/

/-- RUNNING at song time 1000 = last pulse value, as given. -/
def song (f : Clock → Clock) : State :=
  clocked up (fun c => f { c with state := .running, songTime := 1000, lastPulse := 1000, phase := 3 })

/-- A state that no reset gives, with a round strobe to take. -/
def stepping : State := (playing [note .waiting .tap 1010] [0]).withPending [idleRound]

theorem stepping_goes_on : ∃ t, step stepping = .next t := ⟨_, rfl⟩

theorem stepping_clock : ClockLegal stepping.clock := by
  refine ⟨⟨?_, ?_⟩, ⟨?_, ?_⟩, ⟨?_, ?_⟩, ?_, ?_, ?_, ?_, ?_⟩ <;> decide +kernel

theorem witness_ClockStaysLegal : ClockLegal stepping.clock ∧ ∃ t, step stepping = .next t :=
  ⟨stepping_clock, stepping_goes_on⟩

theorem stepping_slots : SlotLegal stepping := by
  refine ⟨fun x => ?_, fun _ => ⟨fun x => ?_, fun h => absurd rfl h⟩, fun h => ?_, fun _ => ?_, fun h => ?_⟩
  · cases x <;> decide +kernel
  · cases x <;> decide +kernel
  · exact absurd h (by decide +kernel)
  · decide +kernel
  · exact absurd h (by decide +kernel)

theorem witness_SongTimeNeverDecreases : ClockLegal stepping.clock ∧ SlotLegal stepping ∧ idleRound.resets = false
    ∧ stepping.clock.state ≠ .idle ∧ after stepping idleRound (fun t => t.clock.songTime = 1001) :=
  ⟨stepping_clock, stepping_slots, by decide +kernel⟩

theorem witness_ScoreLawsKept : (∀ pl, ScoreLegal (stepping.scoreUnit pl)) ∧ ∃ t, step stepping = .next t := by
  refine ⟨fun pl => ?_, stepping_goes_on⟩
  cases pl <;> (refine ⟨?_, ?_, ?_, ?_, ?_, ?_, ?_⟩ <;> decide +kernel)

theorem witness_PoolsStayBounded : (∀ pl, PoolLegal stepping pl) ∧ ∃ t, step stepping = .next t := by
  refine ⟨fun pl => ?_, stepping_goes_on⟩
  cases pl <;> (constructor <;> decide +kernel)

theorem witness_BusStaysInWindow : BusInWindow (busy stepping .holds) ∧ ∃ t, step (busy stepping .holds) = .next t := by
  refine ⟨fun t h => ?_, _, rfl⟩
  cases h
  exact Or.inr (Or.inr ⟨by decide +kernel, by decide +kernel⟩)

theorem witness_PlayingOnlyWithSong : PlayingWithSong stepping ∧ ReturnsToRest stepping ∧ ∃ t, step stepping = .next t :=
  ⟨fun _ _ => Or.inl rfl, fun pl => by cases pl <;> decide +kernel, stepping_goes_on⟩

theorem witness_SlotProtocolKept : SlotLegal stepping ∧ ∃ t, step stepping = .next t :=
  ⟨stepping_slots, stepping_goes_on⟩

/-- The rows of chapter 1: LOCKED waits at last pulse + 7, the 32nd round without a pulse loses lock (R3, R7). -/
theorem witness_RoundAdvancesClock :
    after (song (fun c => { c with songTime := 1007, phase := 30 })) idleRound (fun t =>
        t.clock.songTime = 1007 && t.clock.mode = .locked && t.clock.phase = 31)
      ∧ after (song (fun c => { c with songTime := 1007, phase := 31 })) idleRound (fun t =>
        t.clock.songTime = 1007 && t.clock.mode = .free && t.notice = 0x40)
      ∧ after (song (fun c => { c with mode := .free, phase := 32 })) idleRound (fun t => t.clock.songTime = 1001)
      ∧ after (song (fun c => { c with mode := .free, songTime := 8388607 })) idleRound (fun t =>
        t.clock.songTime = 8388607)
      ∧ after (song (fun c => { c with state := .starting, wait := 30 })) idleRound (fun t => t.clock.wait = 31)
      ∧ after (song (fun c => { c with state := .paused, change := .resume, wait := 30 })) idleRound (fun t =>
        t.clock.wait = 31 && t.clock.songTime = 1000)
      ∧ after (song (fun c => { c with state := .paused })) idleRound (fun t => t.clock.songTime = 1000)
      ∧ after up idleRound (fun t => t.clock.phase = 32) := by decide +kernel

/-- R5, R6 at the edges 6, 10 and 5, 11, and at the fourth anomaly. -/
theorem witness_PulseSpacing :
    let idle (phase run : Nat) : State := clocked up (fun c => { c with phase, anomalyRun := run })
    (idle 6 3).run = .operating ∧ (idle 6 3).clock.taking = true
      ∧ [6, 10, 32].all (fun n => after (idle n 3) (.syncPulse .p0) (fun t =>
        t.clock.anomalyRun = 0 && !t.fault.held && t.notice = 0)) = true
      ∧ [0, 5, 11, 31].all (fun n => after (idle n 2) (.syncPulse .p0) (fun t =>
        t.clock.anomalyRun = 3 && t.fault.kind = .syncAnomaly && t.notice = 0x20)) = true
      ∧ after (idle 5 3) (.syncPulse .p0) (fun t => t.clock.anomalyRun = 0 && t.notice = 0x60
          && (t.scoreUnit .p1).flags = 1)
      ∧ 4 ≤ (idle 5 4).clock.anomalyRun ∧ after (idle 5 4) .anomalyRunReport (fun t =>
          t.clock.anomalyRun = 0 && t.notice = 0x40) := by decide +kernel

/-- R7, R3, R8: song time 1003 with last pulse value 995 reacquires at 1003, and 1004 at 1011. -/
theorem witness_LockIsLostAndReturns :
    let s := song (fun c => { c with phase := 32 })
    s.clock.taking = true ∧ s.clock.mode = .locked ∧ after s .lockLoss (fun t => t.clock.mode = .free && t.notice = 0x40
        && (t.scoreUnit .p0).flags = 1)
      ∧ s.clock.change ≠ .pause ∧ after s (.syncPulse .p0) (fun t => t.clock.songTime = 1008 && t.clock.phase = 0)
      ∧ [(1003, 1003), (1004, 1011)].all (fun x =>
        after (song (fun c => { c with mode := .free, songTime := x.1, lastPulse := 995, phase := 32 })) (.syncPulse .p0)
          (fun t => t.clock.songTime = x.2 && t.clock.mode = .locked && t.notice = 0x40
            && (t.scoreUnit .p1).flags = 2)) = true
      ∧ after (song (fun c => { c with lastPulse := 8388604, songTime := 8388607 })) (.syncPulse .p0) (fun t =>
          t.clock.songTime = 8388607 && t.clock.lastPulse = 8388607) := by decide +kernel

/-- STARTING with a SONG_START of tag 9 waiting, and P0 ARMED. -/
def starting (phase wait : Nat) : State :=
  { clocked up (fun c =>
      { c with state := .starting, start := -800, songTime := -800, waiting := some ⟨9, 1, 0, 0⟩, phase, wait }) with
    sessions := ⟨{ Session.reset with state := .armed }, Session.reset⟩ }

theorem starting_quiet (phase wait : Nat) : Quiet (starting phase wait) := by
  intro pl h
  cases pl with
  | p1 => exact absurd (show PlayerState.idle = .armed from h) (by decide)
  | p0 =>
    refine ⟨rfl, fun i _ due hd => ?_⟩
    have hp : ((starting phase wait).judge .p0).pool = List.replicate 64 Entry.blank := rfl
    have he : (starting phase wait).entry .p0 i = Entry.blank := by
      show ((starting phase wait).judge .p0).pool.getD i Entry.blank = _
      rw [hp, List.getD_eq_getElem?_getD, List.getElem?_replicate]
      split <;> rfl
    rw [he] at hd
    exact absurd hd (by simp [State.nextDueOf, Entry.blank])

theorem witness_SongStarts :
    let s := starting 32 4
    let f := starting 7 32
    Quiet s ∧ Quiet f ∧ s.run = .operating ∧ s.clock.state = .starting ∧ s.clock.waiting = some ⟨9, 1, 0, 0⟩
      ∧ s.clock.held = none ∧ s.clock.taking = true ∧ s.clock.phase = 32 ∧ f.clock.wait = 32
      ∧ after s (.syncPulse .p0) (fun t => t.clock.state = .running && t.clock.songTime = -800
          && t.clock.mode = .locked && (t.session .p0).state = .playing && (t.session .p1).state = .idle
          && t.work = [.completion .slot0 .ok 9 0])
      ∧ after f (.startFallback .p0) (fun t => t.clock.mode = .free && t.notice = 0x40
          && t.work = [.completion .slot0 .ok 9 1]) :=
  ⟨starting_quiet _ _, starting_quiet _ _, by decide +kernel⟩

/-- R12, R14: the strobe that counts the 32nd wait takes the fallback of a start and of a resume, and a held request then
starts (R10). R5, R6: the anomaly of a RUNNING, STARTING or PAUSED clock is logged, and the fourth reported. -/
theorem witness_fallbacks_in_the_strobe :
    let r (wait : Nat) (mode : LockMode) := song (fun c =>
      { c with state := .paused, change := .resume, waiting := some ⟨9, 3, 0, 0⟩, mode, wait })
    let h (kind : BitVec 16) := clocked (starting 7 31) (fun c => { c with held := some ⟨6, kind, 0, 0⟩ })
    let odd (state : ClockState) := song (fun c => { c with state, phase := 11, anomalyRun := 3 })
    after (starting 7 31) idleRound (fun t => t.clock.state = .running && t.clock.mode = .free && t.clock.songTime = -800
        && t.clock.wait = 32 && t.notice = 0x40 && (t.session .p0).state = .playing
        && t.work = [.completion .slot0 .ok 9 1] && (t.scoreUnit .p1).flags = 1)
      ∧ after (r 31 .locked) idleRound (fun t => t.clock.state = .running && t.clock.mode = .free && t.notice = 0x40
          && t.work = [.completion .slot0 .ok 9 1])
      ∧ after (r 31 .free) idleRound (fun t => t.clock.state = .running && t.notice = 0)
      ∧ after (r 30 .free) idleRound (fun t => t.clock.state = .paused && t.clock.wait = 31)
      ∧ after (h 2) idleRound (fun t => t.clock.waiting = some ⟨6, 2, 0, 0⟩ && t.clock.change = .pause
          && t.clock.held = none)
      ∧ after (h 1) idleRound (fun t => t.work = [.completion .slot0 .ok 9 1, .completion .slot0 .busy 6 0])
      ∧ (h 5).clock.taking = true ∧ after (h 5) (.syncPulse .p0) (fun t => t.work = [.completion .slot0 .ok 9 0, .profile .pad0 0 false]
          && (t.slot .slot0).executing = some ⟨6, 5, 0, 0⟩)
      ∧ after (h 7) (.syncPulse .p0) (fun t => t.scan.dump = some ⟨0, false⟩)
      ∧ [ClockState.starting, .running, .paused].all (fun x => after (odd x) (.syncPulse .p0) (fun t =>
          t.clock.anomalyRun = 0 && t.fault.kind = .syncAnomaly && t.fault.songTime = 1000 && t.notice = 0x60
            && (t.scoreUnit .p0).flags = 1 && (t.scoreUnit .p1).flags = 1)) = true := by decide +kernel

theorem witness_PauseAndResumeTakeEffect :
    let q : Request := ⟨9, 2, 0, 0⟩
    let p (mode : LockMode) := song (fun c => { c with change := .pause, waiting := some q, mode, phase := 8 })
    let r (phase wait : Nat) := song (fun c =>
      { c with state := .paused, change := .resume, waiting := some q, mode := .free, phase, wait })
    (p .locked).clock.taking = true ∧ (r 32 5).clock.taking = true ∧ (p .locked).clock.waiting = some q ∧ (p .locked).clock.held = none
      ∧ after (p .locked) (.syncPulse .p0) (fun t => t.clock.state = .paused && t.clock.songTime = 1008
          && t.work = [.completion .slot0 .ok 9 1008])
      ∧ after (p .free) (.syncPulse .p0) (fun t => t.clock.state = .paused && t.clock.songTime = 1000)
      ∧ after (p .free) idleRound (fun t => t.clock.state = .paused && t.clock.songTime = 1001
          && t.work = [.completion .slot0 .ok 9 1001])
      ∧ (r 32 5).clock.phase = 32 ∧ ((r 32 5).session .p0).state ≠ .playing ∧ ((r 32 5).session .p1).state ≠ .playing
      ∧ after (r 32 5) (.syncPulse .p0) (fun t => t.clock.state = .running && t.clock.mode = .locked
          && t.clock.lastPulse = 1000 && t.notice = 0x40 && (t.scoreUnit .p0).flags = 2
          && t.work = [.completion .slot0 .ok 9 0])
      ∧ (r 4 32).clock.wait = 32
      ∧ after (r 4 32) (.resumeFallback .p0) (fun t => t.clock.state = .running && t.clock.mode = .free
          && t.notice = 0 && t.work = [.completion .slot0 .ok 9 1]) := by decide +kernel

theorem witness_SongRequestsTakenOrRefused :
    let s := reading up .slot0
    let r := reading (song id) .slot0
    let p := reading (song (fun c => { c with state := .paused })) .slot0
    FreshSong s (fresh 0x7FFFFFFF 0) ∧ JudgesAtRest s ∧ s.clock.state = .idle ∧ (∀ pl, (s.session pl).state ≠ .playing)
      ∧ FreshSong r (fresh 0 0) ∧ FreshSong p (fresh 0 0) ∧ r.clock.change = .none
      ∧ (after s (.songStart (fresh 0x7FFFFFFF 0)) (fun t => t.clock.state = .starting && t.clock.start = 8388607
          && (t.judge .p1).judged = 8388607 && t.work = [])
        ∧ after r (.songPause (fresh 0 0)) (fun t => t.clock.change = .pause && t.clock.waiting.isSome)
        ∧ after p (.songResume (fresh 0 0)) (fun t => t.clock.change = .resume && t.clock.wait = 0)
        ∧ after r (.songStart (fresh 0 0)) (fun t => t.work = [.completion .slot0 .busy 5 0])
        ∧ after s (.songPause (fresh 0 0)) (fun t => t.work = [.completion .slot0 .busy 5 0])
        ∧ after r (.songResume (fresh 0 0)) (fun t => t.work = [.completion .slot0 .busy 5 0])) :=
  ⟨⟨reading_fresh _ _ _ _, rfl⟩, fun pl => by cases pl <;> rfl, rfl, fun pl => by cases pl <;> decide +kernel, ⟨reading_fresh _ _ _ _, rfl⟩,
    ⟨reading_fresh _ _ _ _, rfl⟩, rfl, by decide +kernel⟩

theorem witness_SongStop :
    let s := reading up .slot0
    let r := reading (playing [] []) .slot0
    let q := reading (song (fun c => { c with change := .pause, waiting := some ⟨3, 2, 0, 0⟩ })) .slot0
    FreshRead s .slot0 (fresh 0 0) ∧ FreshRead r .slot0 (fresh 0 0) ∧ FreshRead q .slot0 (fresh 0 0)
      ∧ (∀ pl, (q.session pl).state ≠ .playing)
      ∧ (r.clock.state ≠ .idle ∧ r.clock.waiting = none ∧ r.clock.held = none ∧ q.clock.held = none
        ∧ after s (.songStop (fresh 0 0) .p0) (fun t => t.work = [.completion .slot0 .ok 5 0])
        ∧ after q (.songStop (fresh 0 0) .p0) (fun t => t.clock.state = .idle && t.clock.songTime = 1000
            && t.work = [.completion .slot0 .busy 3 0, .completion .slot0 .ok 5 1000])
        ∧ after r (.songStop (fresh 0 0) .p0) (fun t => (t.session .p0).state = .closing
            && (t.scoreUnit .p0).outcome = .aborted && (t.session .p1).state = .idle)) :=
  ⟨reading_fresh _ _ _ _, reading_fresh _ _ _ _, reading_fresh _ _ _ _, fun pl => by cases pl <;> decide +kernel,
    by decide +kernel⟩

theorem witness_HeldRequest :
    let q := reading (song (fun c => { c with change := .pause, waiting := some ⟨3, 2, 0, 0⟩ })) .slot0
    let h (kind : BitVec 16) := clocked up (fun c => { c with
      state := .starting, wait := 32, waiting := some ⟨3, 1, 0, 0⟩, held := some ⟨6, kind, 0, 0⟩ })
    FreshRead q .slot0 (fresh 0 0) ∧ q.clock.waiting = some ⟨3, 2, 0, 0⟩ ∧ (5 : BitVec 16) ≠ 4
      ∧ after q (.heldRequest 5 (fresh 0 0)) (fun t => t.clock.held = some ⟨5, 5, 0, 0⟩ && t.work = [])
      ∧ (h 1).clock.change = .none
      ∧ after (h 1) (.startFallback .p0) (fun t =>
          t.work = [.completion .slot0 .ok 3 1, .completion .slot0 .busy 6 0] && t.clock.held = none)
      ∧ after (h 2) (.startFallback .p0) (fun t => t.work = [.completion .slot0 .ok 3 1]
          && t.clock.waiting = some ⟨6, 2, 0, 0⟩ && t.clock.change = .pause)
      ∧ after (h 99) (.startFallback .p0) (fun t =>
          t.work = [.completion .slot0 .ok 3 1, .completion .slot0 .unknownKind 6 99]) :=
  ⟨reading_fresh _ _ _ _, by decide +kernel⟩

/-! ### Pad Sense -/

/-- PAD0 ACTIVE, sensor 0 of panel 0 as given. -/
def sensed (x : Sensor) : State := up.setPad .pad0 { active with sensors := active.sensors.set 0 x }

/-- A round that reads `v` on sensor 0 of connector A and 5 elsewhere. -/
def round (v : BitVec 12) : Instr := .roundStrobe ⟨(Tab.fill 24 5).set 0 v, Tab.fill 24 5⟩ ⟨[], [], .p0⟩

/-- The runs at 62 and 63, and at 1022 and 1023; 0 and 4095 are extreme, 1 and 4094 are not (R20, R21). -/
theorem witness_RoundUpdatesSensors :
    let s (healthy : Bool) (fail recover : Nat) : State := sensed ⟨0, 0, healthy, fail, recover⟩
    let seen (t : State) : Sensor := (t.pad .pad0).sensors.get 0
    (s true 62 0).run = .operating ∧ ((s true 62 0).pad .pad0).profile.enables.getLsbD 0 = true
      ∧ after (s true 62 0) (round 4095) (fun t => seen t = ⟨4095, 0, true, 63, 0⟩)
      ∧ after (s true 63 0) (round 0) (fun t => seen t = ⟨0, 0, false, 0, 0⟩ && t.notice = 0xA0
          && t.fault.kind = .sensorFail)
      ∧ after (s true 63 0) (round 4094) (fun t => (seen t).failRun = 0 && (seen t).healthy)
      ∧ after (s false 0 1022) (round 1) (fun t => (seen t).recoverRun = 1023 && !(seen t).healthy)
      ∧ after (s false 0 1023) (round 1) (fun t => (seen t).recoverRun = 0 && (seen t).healthy && t.notice = 0x80)
      ∧ after (s false 0 1023) (round 0) (fun t => (seen t).recoverRun = 0 && !(seen t).healthy) := by decide +kernel

/-- The rows of R24, R25, R27, R28 and R30 at D_on = 1, D_off = 3, T_on = 900, T_off = 600. -/
theorem witness_PanelStateMachine :
    let x (state : PanelState) (confirm stuck : Nat) : Panel :=
      { Panel.reset with state, confirm, stuck, riseStamp := 90, fallStamp := 95 }
    ((x .up 0 0).round profile 4 900 100).panel.state = .rising
      ∧ ((x .up 0 0).round profile 4 899 100).panel.state = .up
      ∧ ((x .rising 1 0).round profile 4 900 100).event = some (.press 90)
      ∧ ((x .down 0 0).round profile 4 599 100).panel.state = .falling
      ∧ ((x .down 0 0).round profile 4 600 100).panel.state = .down
      ∧ ((x .falling 3 0).round profile 4 599 100).event = some (.release 95 false)
      ∧ ((x .falling 2 0).round profile 4 599 100).panel.confirm = 3
      ∧ ((x .down 0 0).round profile 0 600 100).event = some (.release 100 true)
      ∧ ((x .dead 0 0).round profile 4 900 100).panel.state = .up
      ∧ ((x .down 0 1998).round profile 4 600 100).panel.stuck = 1999
      ∧ ((x .down 0 1999).round profile 4 600 100).event = some (.release 100 true)
      ∧ ((x .down 0 1999).round profile 4 600 100).absorbs = true
      ∧ ((x .off 0 0).round profile 4 900 100).panel.state = .off
      ∧ ((x .up 0 0).round { profile with dOn := 0 } 4 900 100).event = some (.press 100)
      ∧ ((x .down 0 0).round { profile with dOff := 0 } 4 599 100).event = some (.release 100 false)
      ∧ (0 : Nat) < profile.dOn ∧ 0 < profile.dOff ∧ profile.stuckLimit ≠ 0 := by decide +kernel

theorem witness_RoundEvaluatesPanels :
    let s := sensed ⟨0, 16, true, 0, 0⟩
    s.run = .operating ∧ (s.session .p0).state = .idle ∧ (s.session .p1).state = .idle ∧ s.clock.held = none
      ∧ (s.pad .pad0).state = .active ∧ (s.pad .pad0).cal = none ∧ (3 : Nat) < (s.pad .pad0).profile.panelCount
      ∧ after s (round 5) (fun t => ((t.pad .pad0).panels.get 0).load = 4 + 15
          && ((t.pad .pad0).sensors.get 0).baseline = 17 && ((t.pad .pad0).sensors.get 1).baseline = 1) := by
  decide +kernel

theorem witness_LoadProfileAndCalibrate :
    let s := reading padded .slot0
    let o := { s with owners := ⟨some .p1, none⟩ }
    let c := s.setPad .pad0 { active with state := .calibrating }
    FreshSong s (fresh 0 0x101000) ∧ FreshSong o (fresh 0 0) ∧ FreshSong c (fresh 0 0)
      ∧ (padOfNumber 1 = some .pad1 ∧ padOfNumber 0 = some .pad0 ∧ s.owner .pad0 = none ∧ o.owner .pad0 ≠ none
        ∧ (s.pad .pad0).state = .active ∧ (s.pad .pad1).state ≠ .active ∧ (c.pad .pad0).state = .calibrating
        ∧ after s (.loadProfile (fresh 2 0)) (fun t => t.work = [.completion .slot0 .badArg 5 0])
        ∧ after o (.loadProfile (fresh 0 0)) (fun t => t.work = [.completion .slot0 .padBusy 5 0])
        ∧ after c (.loadProfile (fresh 0 0)) (fun t => t.work = [.completion .slot0 .busy 5 0])
        ∧ after s (.loadProfile (fresh 1 0x101000)) (fun t => t.work = [.profile .pad1 0x101000 false])
        ∧ after s (.calibrate (fresh 2 0)) (fun t => t.work = [.completion .slot0 .badArg 5 0])
        ∧ after s (.calibrate (fresh 1 0)) (fun t => t.work = [.completion .slot0 .noProfile 5 0])
        ∧ after o (.calibrate (fresh 0 0)) (fun t => t.work = [.completion .slot0 .padBusy 5 0])
        ∧ [(63, 64), (64, 64), (65536, 65535)].all (fun n =>
          after s (.calibrate (fresh 0 n.1)) (fun t => t.work = [] && (t.pad .pad0).state = .calibrating
            && (t.pad .pad0).cal.any (fun k => k.wanted = n.2))) = true) :=
  ⟨⟨reading_fresh _ _ _ _, rfl⟩, ⟨reading_fresh _ _ _ _, rfl⟩, ⟨reading_fresh _ _ _ _, rfl⟩, by decide +kernel⟩

/-- A profile of panel count 0 (raised to 1), T_on 0 (raised to 1), T_off 9 (lowered below it), shift 11, stuck limit 241; panel
0 PRESS at level 5 with BEAT and STRIKE, panel 1 with the base mode code 3 (taken as DARK). -/
def wildProfile : BitVec 768 :=
  BitVec.ofNat 768 (9 * 2 ^ 8 + 11 * 2 ^ 24 + 9 * 2 ^ 48 + 241 * 2 ^ 64 + 0x1E * 2 ^ 96 + 5000 * 2 ^ 128
    + 0x03050502 * 2 ^ 512)

theorem witness_ProfileReadEnds :
    let s := busy (executing padded .slot0) (.request (.profile .pad0 0x101000 false))
    let o := { s with owners := ⟨some .p1, none⟩ }
    let c := busy (executing padded .slot0) (.request (.profile .pad0 0x101000 true))
    Carrying c (.request (.profile .pad0 0x101000 true)) ∧ Carrying s (.request (.profile .pad0 0x101000 false)) ∧ Carrying o (.request (.profile .pad0 0x101000 false))
      ∧ ((s.slot .slot0).executing ≠ none ∧ s.owner .pad0 = none ∧ o.owner .pad0 ≠ none
        ∧ after s (.profileReadDone none) (fun t => t.work = [.completion .slot0 .busFault 7 0]
            && t.fault.kind = .busRead && t.pads = s.pads)
        ∧ after o (.profileReadDone (some wildProfile)) (fun t => t.work = [.completion .slot0 .padBusy 7 0])
        ∧ c.owner .pad0 = none ∧ after c (.profileReadDone (some wildProfile)) (fun t =>
            t.work = [.completion .slot0 .padBusy 7 0] && t.pads = c.pads)
        ∧ after s (.profileReadDone (some wildProfile)) (fun t => t.work = [.completion .slot0 .ok 7 1]
            && (t.pad .pad0).profile.tOn = 1 && (t.pad .pad0).profile.tOff = 0 && (t.pad .pad0).profile.dOn = 7
            && (t.pad .pad0).profile.shift = 10 && (t.pad .pad0).profile.stuckLimit = 240
            && (t.pad .pad0).profile.lamps.panels.get 0 = ⟨.press, 5, true, false, true⟩
            && ((t.pad .pad0).profile.lamps.panels.get 1).mode = .dark
            && ((t.pad .pad0).sensors.get 0).baseline = 65520 && ((t.pad .pad0).panels.get 0).state = .up
            && ((t.pad .pad0).panels.get 1).state = .off)) :=
  ⟨busy_carrying _ _, busy_carrying _ _, ⟨_, rfl, rfl, rfl⟩, by decide +kernel⟩

/-- PAD0 CALIBRATING, all sensors at raw 6, `taken` of 64 rounds. -/
def calibrating (taken : Nat) (tOn : Nat) : State :=
  (executing up .slot0).setPad .pad0
    { active with
      state := .calibrating, sensors := Tab.fill 24 { Sensor.reset with raw := 6 }, profile := { profile with tOn },
      profileAddr := 0x101000,
      cal := some { wanted := 64, taken, sums := Tab.fill 24 101, included := Tab.ofFn (fun k => k.val < 16) } }

theorem witness_CalibrationRunsAndCompletes :
    let s := calibrating 62 900
    let d := calibrating 5 24
    let c := calibrating 64 900
    ((s.pad .pad0).cal.map (fun c => c.taken + 1)) = some 63 ∧ (s.pad .pad0).panelLoad 0 = 24
      ∧ ((s.calibrationRound .pad0 0).pad .pad0).cal.any (fun c => c.taken = 63 && c.sums.get 0 = 107) = true
      ∧ (d.slot .slot0).executing ≠ none ∧ (d.pad .pad0).healthyOf 0 ≠ []
      ∧ (d.calibrationRound .pad0 0).work = [.completion .slot0 .disturbed 7 6]
      ∧ c.run = .operating
      ∧ after c (.calibrationComplete .pad0) (fun t => (t.pad .pad0).state = .active
          && ((t.pad .pad0).sensors.get 15).baseline = 25 && ((t.pad .pad0).sensors.get 16).baseline = 0
          && t.work.any (fun w => match w with | .table a data r => a = 0x101010 && data.length = 48 && r = 16 | _ => false))
      := by decide +kernel

/-- The strobe's own calibration round: the last one completes (16 x (101 + 5) / 64 = 26, the sensors past the fourth panel as
they were), a load of 4 x 5 at T_on = 20 disturbs, a DEAD panel disturbs nothing (R23, R36; log entry 32). -/
theorem witness_CalibrationRunsAndCompletes_strobe :
    let s := calibrating 63 21
    let dead := (calibrating 5 20).setPad .pad0 { (calibrating 5 20).pads.pad0 with
      panels := Tab.fill 6 { Panel.reset with state := .dead } }
    s.clock.held = none ∧ (s.pad .pad1).cal = none ∧ (s.pad .pad0).state = .calibrating
      ∧ after (calibrating 62 21) idleRound (fun t => (t.pad .pad0).state = .calibrating
          && (t.pad .pad0).cal.any (fun c => c.taken = 63 && c.sums.get 15 = 106 && c.sums.get 16 = 101))
      ∧ after s idleRound (fun t => (t.pad .pad0).state = .active && ((t.pad .pad0).sensors.get 15).baseline = 26
          && ((t.pad .pad0).sensors.get 16).baseline = 0 && ((t.pad .pad0).panels.get 3).state = .up
          && t.work.any (fun w => match w with | .table a d r => a = 0x101010 && d.length = 48 && r = 16 | _ => false))
      ∧ after (calibrating 5 20) idleRound (fun t => (t.pad .pad0).state = .active
          && t.work = [.completion .slot0 .disturbed 7 6] && ((t.pad .pad0).sensors.get 0).baseline = 0)
      ∧ after dead idleRound (fun t => (t.pad .pad0).state = .calibrating
          && ((t.pad .pad0).panels.get 0).load = 0) := by decide +kernel

/-- R39: a dump taken is captured by the next strobe. -/
theorem witness_SensorDumpAndPadWrites_strobe :
    let s := up.setScan { up.scan with dump := some ⟨0x120000, false⟩, dumpSerial := 7 }
    s.clock.held = none ∧ after s idleRound (fun t => t.scan.dump = none && t.scan.dumpSerial = 8
      && t.work = [.dump 0x120000 (dumpBytes 0 8 t.pads) 8]) := by decide +kernel

theorem witness_SensorDumpAndPadWrites :
    let s := reading up .slot0
    let w := busy (executing up .slot0) (.request (.table 0x101010 [] 16))
    let d := busy (executing up .slot0) (.request (.dump 0x120000 [] 3))
    let c := up.setScan { up.scan with dump := some ⟨0x120000, true⟩, dumpSerial := 4294967295 }
    FreshSong s (fresh 0x120000 0) ∧ Carrying w (.request (.table 0x101010 [] 16))
      ∧ Carrying d (.request (.dump 0x120000 [] 3))
      ∧ ((w.slot .slot0).executing ≠ none ∧ (d.slot .slot0).executing ≠ none
        ∧ after s (.sensorDump (fresh 0x120000 0)) (fun t => t.scan.dump = some ⟨0x120000, false⟩ && t.work = [])
        ∧ c.run = .operating ∧ c.scan.dump = some ⟨0x120000, true⟩
        ∧ after c .dumpCapture (fun t => t.scan.dumpSerial = 0 && t.work.any (fun w => match w with
            | .dump a data r => a = 0x120000 && data.length = 440 && r = 0 | _ => false))
        ∧ up.scan.dump = none
        ∧ after w (.baselineTableWriteDone true) (fun t => t.work = [.completion .slot0 .ok 7 16])
        ∧ after w (.baselineTableWriteDone false) (fun t => t.work = [.completion .slot0 .busFault 7 16]
            && t.fault.kind = .busWrite)
        ∧ after d (.dumpWriteDone true) (fun t => t.work = [.completion .slot0 .ok 7 3])
        ∧ after d (.dumpWriteDone false) (fun t => t.work = [.completion .slot0 .busFault 7 3])) :=
  ⟨⟨reading_fresh _ _ _ _, rfl⟩, busy_carrying _ _, busy_carrying _ _, by decide +kernel⟩

theorem witness_SensorsAndUnownedPanels :
    let f := sensed ⟨0, 0, true, 64, 0⟩
    let r := sensed ⟨9, 0, false, 0, 1024⟩
    let lone := f.setPad .pad0 { f.pads.pad0 with profile := { profile with enables := 1 } }
    let p (x : Panel) := panelled { x with load := 700 }
    f.run = .operating ∧ (f.pad .pad0).state = .active ∧ f.owner .pad0 = none
      ∧ (f.pad .pad0).profile.enables.getLsbD 0 = true ∧ (f.pad .pad0).healthyOf 0 = [0, 1, 2, 3]
      ∧ (lone.pad .pad0).healthyOf 0 = [0]
      ∧ after f (.sensorFail ⟨.pad0, 0, 0⟩) (fun t => ((t.pad .pad0).sensors.get 0).healthy = false
          && t.notice = 0xA0 && t.fault.kind = .sensorFail && ((t.pad .pad0).panels.get 0).state = .up)
      ∧ after lone (.sensorFail ⟨.pad0, 0, 0⟩) (fun t => ((t.pad .pad0).panels.get 0).state = .dead)
      ∧ after r (.sensorRecover ⟨.pad0, 0, 0⟩) (fun t => ((t.pad .pad0).sensors.get 0).healthy && t.notice = 0x80)
      ∧ after (p (rising 90)) (.pressConfirm .pad0 0) (fun t => ((t.pad .pad0).panels.get 0).state = .down
          && ((t.pad .pad0).panels.get 0).lastPress = 90)
      ∧ after (p { Panel.reset with state := .falling, confirm := 4, fallStamp := 95 }) (.releaseConfirm .pad0 0)
          (fun t => ((t.pad .pad0).panels.get 0).lastRelease = 95)
      ∧ after (p { Panel.reset with state := .down, stuck := 2000 }) (.stuckRelease .pad0 0) (fun t =>
          ((t.pad .pad0).panels.get 0).state = .up && ((t.pad .pad0).panels.get 0).lastRelease = 0) := by
  decide +kernel

/-- R22: the round of a release moves the baseline by (16 × 100 − 0) / 2^6 = 25; R30: a stuck release makes it 16 × 100. A FAILED
sensor's is frozen, and no other panel's moves. -/
theorem witness_SensorsAndUnownedPanels_baselines :
    let falling (healthy : Bool) : State := up.setPad .pad0 { active with
      sensors := (active.sensors.set 0 ⟨100, 0, healthy, 0, 0⟩).set 4 ⟨100, 0, true, 0, 0⟩,
      panels := active.panels.set 0 { Panel.reset with state := .falling, confirm := 4, fallStamp := 95, stuck := 2000 } }
    let baselines (c : Instr) (healthy : Bool) (own : Nat) : Bool := after (falling healthy) c (fun t =>
      ((t.pad .pad0).sensors.get 0).baseline = own && ((t.pad .pad0).sensors.get 4).baseline = 0)
    (falling true).owner .pad0 = none ∧ baselines (.releaseConfirm .pad0 0) true 25
      ∧ baselines (.releaseConfirm .pad0 0) false 0 ∧ baselines (.stuckRelease .pad0 0) true 1600
      ∧ baselines (.stuckRelease .pad0 0) false 0 := by decide +kernel

/-- The owner's SENSOR_CHANGE and FORCED_RELEASE (R20, R21, R27, R30). -/
theorem witness_SensorsAndUnownedPanels_owned :
    let owned (s : State) : State := { s with owners := ⟨some .p1, none⟩ }
    let f := owned (sensed ⟨0, 0, true, 64, 0⟩)
    let lone := f.setPad .pad0 { f.pads.pad0 with
      profile := { profile with enables := 1 }, panels := f.pads.pad0.panels.set 0 { Panel.reset with state := .down } }
    let stuck := owned (panelled { Panel.reset with state := .falling, stuck := 2000 })
    f.owner .pad0 = some .p1 ∧ f.laneOf .p1 .pad0 1 = none ∧ (lone.session .p1).state ≠ .playing
      ∧ after f (.sensorFail ⟨.pad0, 0, 0⟩) (fun t => (t.scoreUnit .p1).flags = 0x80 && t.fault.player = some .p1)
      ∧ after lone (.sensorFail ⟨.pad0, 0, 0⟩) (fun t => (t.scoreUnit .p1).flags = 0x180
          && ((t.pad .pad0).panels.get 0).state = .dead
          && (t.pad .pad0).sensors.get 0 = ⟨0, 0, false, 0, 0⟩)
      ∧ [PanelState.up, .rising, .dead, .off].map (fun state =>
          after (lone.setPad .pad0 { lone.pads.pad0 with panels := lone.pads.pad0.panels.set 0 { Panel.reset with state } })
            (.sensorFail ⟨.pad0, 0, 0⟩) (fun t => (t.scoreUnit .p1).flags = 0x80
              && ((t.pad .pad0).panels.get 0).state = (if state = .off then .off else .dead)
              && ((t.pad .pad0).panels.get 0).lastRelease = Panel.reset.lastRelease)) = [true, true, true, true]
      ∧ after (owned (panelled { Panel.reset with state := .falling, confirm := 4, fallStamp := 95 })) (.releaseConfirm .pad0 0)
          (fun t => (t.scoreUnit .p1).flags = 0 && ((t.pad .pad0).panels.get 0).lastRelease = 95)
      ∧ after (owned (sensed ⟨9, 0, false, 0, 1024⟩)) (.sensorRecover ⟨.pad0, 0, 0⟩) (fun t =>
          (t.scoreUnit .p1).flags = 0x80 && t.notice = 0x80)
      ∧ after stuck (.stuckRelease .pad0 0) (fun t => (t.scoreUnit .p1).flags = 0x100) := by decide +kernel

/-! ### Chart Fetcher -/

/-- P0 PLAYING, its fetcher in a page of sequence 1 with fill 3, the read given in flight. -/
def fetching (f : Fetcher → Fetcher) (kind : FetchKind) : State :=
  let s := playing [{ Entry.blank with state := .reserved }, Entry.blank] []
  busy (s.setFetcher .p0 (f
    { Fetcher.reset with
      state := .fetching, page := 0x110000, seq := 1, fill := 3, reserved := some 0, read := some ⟨kind, 0, false⟩,
      tracker := [⟨0x110000, 1, 0, 0, false⟩], unitCounter := 10 })) (.fetch .p0 kind)

def header (tag seq fill : Nat) : BitVec 128 := BitVec.ofNat 128 (tag + 0x111000 * 2 ^ 32 + seq * 2 ^ 64 + fill * 2 ^ 80)

/-- A record's words: time (not negative), kind, length, lane, chord size and cue. -/
def record (time kind length lane chord cue : Nat) : BitVec 128 :=
  BitVec.ofNat 128 (time + kind * 2 ^ 24 + length * 2 ^ 32 + lane * 2 ^ 56 + chord * 2 ^ 64 + cue * 2 ^ 72)

/-- P0's fetcher in this state, nothing on the bus, two free entries. -/
def fetcherIn (f : Fetcher) : State := (playing [Entry.blank, Entry.blank] []).setFetcher .p0 f

theorem witness_FetcherReadsAndWalks :
    let w := fetcherIn { Fetcher.reset with state := .pageWait, page := 0x110000, tracker := List.replicate 7 ⟨0, 0, 0, 0, false⟩ }
    let full := fetcherIn { Fetcher.reset with state := .pageWait, tracker := List.replicate 8 ⟨0, 0, 0, 0, false⟩ }
    let g := fetcherIn { Fetcher.reset with state := .fetching, page := 0x110000, index := 2, fill := 3 }
    let p (state : FetchState) (poll : Nat) := fetcherIn { Fetcher.reset with state, page := 0x110000, poll }
    let h (fill : Nat) := fetching (fun f => { f with state := .pageWait, reserved := none, tracker := [], fill }) .header
    let r := fetching (fun f => { f with state := .fillPoll, reserved := none, index := 3 }) .reread
    let l := fetching (fun f => { f with state := .linkPoll, reserved := none, seq := 65535 }) .link
    after w (.pageWaitResume .p0) (fun t => (t.fetcher .p0).read = some ⟨.header, 0x110000, false⟩)
      ∧ after full (.pageWaitResume .p0) (fun t => t = full)
      ∧ (g.entry .p0 0).state = .free ∧ 0 < (g.judge .p0).pool.length
      ∧ after g (.poolEntryReserve .p0) (fun t => (t.fetcher .p0).read = some ⟨.record, 0x110030, false⟩
          && (t.fetcher .p0).reserved = some 0 && (t.entry .p0 0).state = .reserved)
      ∧ after (p .fillPoll 8) (.pollDue .p0) (fun t => (t.fetcher .p0).read = some ⟨.reread, 0x110000, false⟩)
      ∧ after (p .linkPoll 8) (.pollDue .p0) (fun t => (t.fetcher .p0).read = some ⟨.link, 0x110004, false⟩)
      ∧ after (p .fillPoll 7) (.pollDue .p0) (fun t => (t.fetcher .p0).read = none)
      ∧ after (p .fillPoll 6) idleRound (fun t => (t.fetcher .p0).poll = 7 && (t.fetcher .p0).read = none)
      ∧ after (p .fillPoll 7) idleRound (fun t => (t.fetcher .p0).read = some ⟨.reread, 0x110000, false⟩)
      ∧ after (p .linkPoll 7) idleRound (fun t => (t.fetcher .p0).read = some ⟨.link, 0x110004, false⟩
          && (t.fetcher .p0).poll = 8)
      ∧ ((h 0).fetcher .p0).read = some ⟨.header, 0, false⟩ ∧ fieldAt (header 0x3147504B 1 31) 10 2 ≤ 31
      ∧ after (h 0) (.headerReadDone .p0 (some (header 0x3147504B 1 31))) (fun t =>
          (t.fetcher .p0).tracker = [⟨0x110000, 1, 0, 0, false⟩] && (t.fetcher .p0).fill = 31
            && (t.fetcher .p0).read = some ⟨.record, 0x110010, false⟩)
      ∧ after (h 0) (.headerReadDone .p0 (some (header 0x3147504B 1 0))) (fun t => (t.fetcher .p0).state = .fillPoll)
      ∧ after r (.fillRereadDone .p0 (some (header 0x3147504B 1 3))) (fun t => (t.fetcher .p0).state = .fillPoll)
      ∧ after r (.fillRereadDone .p0 (some (header 0x3147504B 1 4))) (fun t => (t.fetcher .p0).fill = 4
          && (t.fetcher .p0).state = .fetching)
      ∧ after l (.linkReadDone .p0 (some 0)) (fun t => (t.fetcher .p0).state = .linkPoll && (t.fetcher .p0).read = none)
      ∧ after l (.linkReadDone .p0 (some 0x13FE00)) (fun t => (t.fetcher .p0).page = 0x13FE00 && (t.fetcher .p0).seq = 0
          && (t.fetcher .p0).read = some ⟨.header, 0x13FE00, false⟩) := by decide +kernel

theorem witness_FaultsAndDiscardedReads :
    let h := fetching (fun f => { f with state := .pageWait, reserved := none, tracker := [] }) .header
    let r := fetching (fun f => { f with state := .fillPoll, reserved := none, index := 3 }) .reread
    let l := fetching (fun f => { f with state := .linkPoll, reserved := none }) .link
    let c := fetching (fun f => { f with state := .idle, reserved := none, read := some ⟨.record, 0, true⟩ }) .record
    let broken (kind : FaultKind) (t : State) : Bool := (t.fetcher .p0).state = .halted && t.fault.kind = kind
      && (t.session .p0).state = .closing && (t.scoreUnit .p0).outcome = .faulted
    Carrying h (.fetch .p0 .header) ∧ Carrying r (.fetch .p0 .reread) ∧ Carrying l (.fetch .p0 .link)
      ∧ Carrying c (.fetch .p0 .record) ∧ Carrying (fetching id .record) (.fetch .p0 .record)
      ∧ (after h (.headerReadDone .p0 (some (header 1 1 0))) (broken .pageTag)
        ∧ after h (.headerReadDone .p0 (some (header 0x3147504B 2 0))) (broken .pageSeq)
        ∧ after h (.headerReadDone .p0 (some (header 0x3147504B 1 32))) (broken .pageFill)
        ∧ after h (.headerReadDone .p0 none) (broken .busRead)
        ∧ after r (.fillRereadDone .p0 (some (header 0x3147504B 1 2))) (fun t => broken .pageFill t && t.fault.recordIndex = 3)
        ∧ after r (.fillRereadDone .p0 none) (broken .busRead)
        ∧ after (fetching id .record) (.recordReadDone .p0 none) (broken .busRead)
        ∧ after l (.linkReadDone .p0 (some 0x111008)) (fun t => broken .pageLink t && t.fault.recordIndex = 31)
        ∧ after l (.linkReadDone .p0 (some 0x13FE10)) (broken .pageLink)
        ∧ (c.fetcher .p0).read = some ⟨.record, 0, true⟩
        ∧ after c (.fetchReadDiscarded .p0 false) (fun t => (t.fetcher .p0).read = none && t.fault.kind = .none)
        ∧ after (c.setSession .p0 { session with state := .closing }) (.fetchReadDiscarded .p0 true) (fun t =>
            (t.session .p0).finalAsked && t.refresh.jobs = [⟨.final .p0, [.finalBoard .p0], false⟩])) :=
  ⟨busy_carrying _ _, busy_carrying _ _, busy_carrying _ _, busy_carrying _ _, busy_carrying _ _, by decide +kernel⟩

theorem witness_FaultyRecordsAndRepairs :
    let s := fetching (fun f => { f with lastTime := some 1500, laneLast := f.laneLast.set 1 (some 1500) }) .record
    let voids (d : BitVec 128) (kind : FaultKind) : Bool := after s (.recordReadDone .p0 (some d)) (fun t =>
      (t.entry .p0 0).own = .void && (t.entry .p0 0).state = .final && t.fault.kind = kind
        && (t.scoreUnit .p0).recordFaults = 1 && (t.scoreUnit .p0).flags = 0x20 && (t.fetcher .p0).index = 1
        && (t.writer .p0).queue = [.result 0])
    (s.fetcher .p0).read = some ⟨.record, 0, false⟩ ∧ (s.fetcher .p0).reserved = some 0
      ∧ (s.entry .p0 0).state = .reserved ∧ 0 < (s.judge .p0).pool.length ∧ (s.fetcher .p0).state = .fetching
      ∧ (s.scoreUnit .p0).outcome ≠ .failed ∧ voids (record 1600 6 0 0 1 0) .recordKind
      ∧ voids (record 1600 1 0 4 1 0) .laneRange ∧ voids (record 1499 1 0 3 1 0) .order
      ∧ voids (record 1500 1 0 1 1 0) .overlap ∧ voids (record 1600 1 0 3 5 0) .chordSize
      ∧ repairRecord ⟨8388600, .hold, 100, 0, 0, 0⟩ = (⟨8388600, .tap, 7, 0, 1, 0⟩, ⟨false, true, false, true, false⟩)
      ∧ repairRecord ⟨100, .hold, 16, 0, 2, 0⟩ = (⟨100, .hold, 16, 0, 2, 0⟩, ⟨false, false, false, false, false⟩)
      ∧ repairRecord ⟨100, .hold, 15, 0, 2, 0⟩ = (⟨100, .tap, 15, 0, 2, 0⟩, ⟨false, true, false, false, false⟩)
      ∧ repairRecord ⟨100, .avoid, 15, 0, 0, 0⟩ = (⟨100, .avoid, 15, 0, 0, 0⟩, ⟨false, false, false, false, false⟩) := by
  decide +kernel

/-- P0 STALLED with this record in entry 0, after a report of room. -/
def stalled (x : NoteRecord) (lane : List Nat) (report : Bool) : State :=
  (playing [{ Entry.blank with state := .reserved, record := x, addr := 0x110010, tracker := 1 }] lane).setFetcher .p0
    { Fetcher.reset with
      state := .stalled, page := 0x110000, seq := 1, fill := 3, reserved := some 0, inHand := some x,
      tracker := [⟨0x110000, 1, 0, 0, false⟩], unitCounter := 10, roomReport := report }

/-- The lapse due of lane 0's tap at 1000 is 1000 + 40 + 1 + 1 = 1042 (R88): at song time 1000 it is in time. -/
theorem witness_RecordsArePlacedOrStall :
    let s := fetching id .record
    let x : NoteRecord := ⟨1000, .tap, 0, 0, 1, 9⟩
    let v := stalled x [] true
    let full := stalled x [7, 8, 9, 10] true
    Carrying s (.fetch .p0 .record)
      ∧ ((s.fetcher .p0).assembly = none ∧ (s.fetcher .p0).recordFault 4 (parseRecord (record 1000 1 0 0 0 9)) = none
        ∧ repairRecord (parseRecord (record 1000 1 0 0 0 9)) = (x, ⟨false, false, false, false, false⟩)
        ∧ s.clock.songTime < min 8388607 (x.time + (s.params .p0).offset + (s.params .p0).thin.late
            + s.laneDOn .p0 0 + 1)
        ∧ ((s.judge .p0).lane 0).length < (s.params .p0).depth ∧ (s.scoreUnit .p0).assigned ≤ 65535
        ∧ after s (.recordReadDone .p0 (some (record 1000 1 0 0 0 9))) (fun t => (t.entry .p0 0).state = .waiting
            && (t.entry .p0 0).unit = some 10 && (t.judge .p0).lane 0 = [0] && (t.fetcher .p0).unitCounter = 11
            && (t.scoreUnit .p0).assigned = 11)
        ∧ after s (.recordReadDone .p0 (some (record 1000 2 16 1 1 9))) (fun t => (t.entry .p0 0).tailUnit = some 11
            && (t.judge .p0).lane 1 = [0] && (t.fetcher .p0).unitCounter = 12 && (t.scoreUnit .p0).assigned = 12)
        ∧ after s (.recordReadDone .p0 (some (record 1000 3 0 2 0 9))) (fun t => (t.entry .p0 0).state = .watching)
        ∧ after s (.recordReadDone .p0 (some (record 1000 4 0 0 0 9))) (fun t => (t.judge .p0).beats = [0])
        ∧ (v.fetcher .p0).roomReport = true ∧ (v.entry .p0 0).record = x ∧ (v.entry .p0 0).unit = none
        ∧ after v (.stalledRecordRetry .p0) (fun t => (t.entry .p0 0).state = .waiting && (t.judge .p0).lane 0 = [0]
            && (t.fetcher .p0).index = 1)
        ∧ full.isLate .p0 x = false ∧ (full.params .p0).depth ≤ ((full.judge .p0).lane 0).length
        ∧ after full (.stalledRecordRetry .p0) (fun t => (t.fetcher .p0).state = .stalled
            && !(t.fetcher .p0).roomReport)
        ∧ (let first := s.setJudge .p0 { s.judge .p0 with lanes := (Tab.fill 12 []).set 0 [7, 8, 9, 10] }
          first.isLate .p0 x = false ∧ after first (.recordReadDone .p0 (some (record 1000 1 0 0 0 9))) (fun t =>
            (t.fetcher .p0).state = .stalled && (t.fetcher .p0).inHand = some x && (t.fetcher .p0).lastTime = some 1000
              && (t.fetcher .p0).index = 0 && (t.fetcher .p0).unitCounter = 10 && (t.entry .p0 0).state = .reserved
              && (t.entry .p0 0).record = x && t.bus.inFlight = none))
        ∧ after (stalled x [] false) (.stalledRecordRetry .p0) (fun t => (t.fetcher .p0).roomReport = false)) :=
  ⟨busy_carrying _ _, by decide +kernel⟩

/-- Late at the edges: a tap at 958 has its due at song time 1000 (958 + 40 + 1 + 1); an avoid at 993 (993 + 5 + 2); a beat
is late only after 64 marks (R61, R65). -/
theorem witness_LateAndEndRecords :
    let s (kind : RecordKind) (time : Int) (length : Nat) := stalled ⟨time, kind, length, 0, 1, 9⟩ [] true
    let e := fetching (fun f => { f with lastTime := some 1500 }) .record
    (958 : Int) + 0 + 40 + (s .tap 958 0).laneDOn .p0 0 + 1 ≤ (s .tap 958 0).clock.songTime
      ∧ ((s .tap 958 0).entry .p0 0).chord = none ∧ ((s .tap 958 0).scoreUnit .p0).settledTotal ≤ 10
      ∧ (10 : Nat) + 1 < ((s .hold 958 20).scoreUnit .p0).n
      ∧ after (s .tap 958 0) (.stalledRecordRetry .p0) (fun t => (t.entry .p0 0).own = .void
          && (t.entry .p0 0).flags.lateFetch && (t.scoreUnit .p0).voided = 1 && (t.scoreUnit .p0).flags = 0x10
          && t.fault.kind = .starved && (t.scoreUnit .p0).life = 600)
      ∧ after (s .tap 959 0) (.stalledRecordRetry .p0) (fun t => (t.entry .p0 0).state = .waiting)
      ∧ ((fetching id .record).fetcher .p0).assembly = none
      ∧ [(1, 958, 1), (2, 958, 2), (3, 993, 0)].all (fun k => after (fetching id .record)
          (.recordReadDone .p0 (some (record k.2.1 k.1 20 0 0 9))) (fun t => (t.entry .p0 0).own = .void
            && (t.entry .p0 0).flags.lateFetch && (t.fetcher .p0).index = 1 && t.bus.inFlight = none
            && t.fault.kind = .starved && (t.scoreUnit .p0).voided = k.2.2)) = true
      ∧ after (fetching id .record) (.recordReadDone .p0 (some (record 935 4 0 0 0 9))) (fun t =>
          (t.entry .p0 0).own = .passed && (t.entry .p0 0).flags.lateFetch && t.fault.kind = .none)
      ∧ after (s .hold 958 20) (.stalledRecordRetry .p0) (fun t => (t.scoreUnit .p0).voided = 2
          && (t.entry .p0 0).tailUnit = some 11)
      ∧ after (s .avoid 993 0) (.stalledRecordRetry .p0) (fun t => (t.entry .p0 0).own = .void
          && (t.scoreUnit .p0).voided = 0)
      ∧ after (s .beat 935 0) (.stalledRecordRetry .p0) (fun t => (t.entry .p0 0).own = .passed
          && (t.entry .p0 0).flags.lateFetch)
      ∧ after (s .beat 936 0) (.stalledRecordRetry .p0) (fun t => (t.entry .p0 0).state = .scheduled)
      ∧ (e.fetcher .p0).read = some ⟨.record, 0, false⟩ ∧ (parseRecord (record 1500 5 0 0 0 0)).kind = .chartEnd
      ∧ after e (.recordReadDone .p0 (some (record 1500 5 0 0 0 0))) (fun t => (t.fetcher .p0).state = .ended
          && (t.scoreUnit .p0).endTime = some 1500 && (t.entry .p0 0).own = .passed) := by decide +kernel

theorem witness_ChordsAreAssembled :
    let s := stalled ⟨1000, .tap, 0, 0, 2, 9⟩ [] true
    let a := s.numberHead .p0 0 ⟨1000, .tap, 0, 0, 2, 9⟩
    let b := a.numberHead .p0 0 ⟨1000, .tap, 0, 1, 2, 9⟩
    (s.fetcher .p0).assembly = none ∧ s.chord .p0 0 = none ∧ (s.fetcher .p0).unitCounter < 65535
      ∧ (a.fetcher .p0).assembly = some ⟨0, 2, 1000, [0], 1⟩ ∧ a.chord .p0 0 = some ⟨10, 2, 0, none, [0]⟩
      ∧ (b.fetcher .p0).assembly = none ∧ (b.fetcher .p0).unitCounter = 11
      ∧ (0 : Nat) ≠ 1 ∧ (a.assemblyTest .p0 ⟨1001, .tap, 0, 1, 2, 9⟩).fault.kind = .chordShort
      ∧ (a.assemblyTest .p0 ⟨1000, .tap, 0, 1, 2, 9⟩) = a
      ∧ (a.assemblyTest .p0 ⟨1001, .beat, 0, 1, 0, 9⟩) = a := by decide +kernel

/-- A chord of 2 at time 1000: its first member, a TAP, opens it with unit 10 in table entry 0 (R58), and the second, a HOLD,
joins it and takes its tail unit (R57, R59). -/
theorem witness_RecordsArePlacedOrStall_chord :
    let s := fetching id .record
    let c := fetching (fun f => { f with assembly := some ⟨0, 2, 1000, [0], 1⟩ }) .record
    let m := c.setJudge .p0 { c.judge .p0 with chords := (Tab.fill 8 none).set 0 (some ⟨9, 2, 0, none, [1]⟩) }
    let x : NoteRecord := ⟨1000, .tap, 0, 0, 2, 9⟩
    let y : NoteRecord := ⟨1000, .hold, 16, 1, 2, 9⟩
    Carrying s (.fetch .p0 .record) ∧ Carrying m (.fetch .p0 .record)
      ∧ (repairRecord (parseRecord (record 1000 1 0 0 2 9)) = (x, ResultFlags.clear) ∧ s.isLate .p0 x = false
        ∧ (s.fetcher .p0).recordFault 4 (parseRecord (record 1000 1 0 0 2 9)) = none ∧ (s.fetcher .p0).assembly = none
        ∧ s.chord .p0 0 = none ∧ ((s.judge .p0).lane 0).length < (s.params .p0).depth
        ∧ after s (.recordReadDone .p0 (some (record 1000 1 0 0 2 9))) (fun t => (t.entry .p0 0).state = .waiting
            && (t.entry .p0 0).unit = some 10 && (t.entry .p0 0).chord = some 0 && (t.judge .p0).lane 0 = [0]
            && t.chord .p0 0 = some ⟨10, 2, 0, none, [0]⟩ && (t.fetcher .p0).assembly = some ⟨0, 2, 1000, [0], 1⟩
            && (t.fetcher .p0).unitCounter = 11 && (t.scoreUnit .p0).assigned = 11)
        ∧ repairRecord (parseRecord (record 1000 2 16 1 2 9)) = (y, ResultFlags.clear) ∧ m.isLate .p0 y = false
        ∧ (m.fetcher .p0).recordFault 4 (parseRecord (record 1000 2 16 1 2 9)) = none
        ∧ m.chord .p0 0 = some ⟨9, 2, 0, none, [1]⟩ ∧ (1 : Nat) ∉ [0]
        ∧ after m (.recordReadDone .p0 (some (record 1000 2 16 1 2 9))) (fun t => (t.entry .p0 0).unit = some 9
            && (t.entry .p0 0).tailUnit = some 10 && (t.judge .p0).lane 1 = [0]
            && t.chord .p0 0 = some ⟨9, 2, 0, none, [1, 0]⟩ && (t.fetcher .p0).assembly = none
            && (t.fetcher .p0).unitCounter = 11 && (t.scoreUnit .p0).assigned = 11)) :=
  ⟨busy_carrying _ _, busy_carrying _ _, by decide +kernel⟩

/-- R60: a chord of 3 of which 2 were found is closed short by a TAP standing alone. With both members JUDGED it settles at once
with its worst grade; the late one of them is not marked CHORD_SHORT (R63, R71). -/
theorem witness_ChordsAreAssembled_short :
    let late := { note .judged .tap 900 with
      chord := some 0, own := .void, flags := { ResultFlags.clear with lateFetch := true } }
    let s (judged : Nat) (state : EntryState) := ((fetching (fun f => { f with
        assembly := some ⟨0, 3, 900, [1, 2], 2⟩ }) .record).setJudge .p0 { ((fetching id .record).judge .p0) with
      pool := [late, { note state .tap 900 with chord := some 0, own := .apex }],
      chords := (Tab.fill 8 none).set 0 (some ⟨9, 3, judged, some .void, [0, 1]⟩) })
    let a := (s 2 .judged).assemblyTest .p0 ⟨901, .tap, 0, 0, 1, 9⟩
    let b := (s 1 .waiting).assemblyTest .p0 ⟨901, .tap, 0, 0, 1, 9⟩
    a.chord .p0 0 = none ∧ (a.entry .p0 0).flags.chordShort = false ∧ (a.entry .p0 1).flags.chordShort = true
      ∧ (a.entry .p0 1).unitGrade = .void ∧ (a.writer .p0).queue = [.result 0, .result 1]
      ∧ (a.scoreUnit .p0).recordFaults = 1 ∧ (a.scoreUnit .p0).voided = 1 ∧ (a.fetcher .p0).assembly = none
      ∧ b.chord .p0 0 = some ⟨9, 2, 1, some .void, [0, 1]⟩ ∧ (b.entry .p0 0).flags.chordShort = false
      ∧ (b.entry .p0 1).flags.chordShort = true := by decide +kernel

/-- R56, R60: RECORD_READ_DONE with a TAP standing alone at 1010 closes the open chord of 3 short and places the TAP, with unit 10;
an END closes it too. A joining TAP with a place in its lane is placed by a retry as well (R56, R59). -/
theorem witness_ChordsAreAssembled_read :
    let s := (fetching (fun f => { f with assembly := some ⟨0, 3, 1000, [1, 2], 1⟩ }) .record).setJudge .p0
      { ((fetching id .record).judge .p0) with
        pool := [{ Entry.blank with state := .reserved }, { note .waiting .tap 1000 with chord := some 0 }],
        chords := (Tab.fill 8 none).set 0 (some ⟨9, 3, 0, none, [1]⟩) }
    let x : NoteRecord := ⟨1010, .tap, 0, 0, 1, 9⟩
    let closed := s.assemblyTest .p0 x
    let reads (d : BitVec 128) (p : State → Bool) : Bool := after s (.recordReadDone .p0 (some d)) p
    let short (t : State) : Bool := t.chord .p0 0 = some ⟨9, 1, 0, none, [1]⟩ && (t.entry .p0 1).flags.chordShort
      && (t.scoreUnit .p0).recordFaults = 1 && t.fault.kind = .chordShort && (t.fetcher .p0).assembly = none
    let joiner := ((stalled ⟨1000, .tap, 0, 0, 3, 9⟩ [] true).onFetcher .p0 (fun f => { f with
      assembly := some ⟨0, 3, 1000, [1, 2], 1⟩ })).setChord .p0 0 (some ⟨9, 3, 0, none, [1]⟩)
    (0 : Nat) ∉ [1] ∧ (s.fetcher .p0).recordFault 4 (parseRecord (record 1010 1 0 0 1 9)) = none
      ∧ repairRecord (parseRecord (record 1010 1 0 0 1 9)) = (x, ResultFlags.clear)
      ∧ reads (record 1010 1 0 0 1 9) (fun t => short t && (t.entry .p0 0).state = .waiting && (t.entry .p0 0).unit = some 10
          && after closed (.recordReadDone .p0 (some (record 1010 1 0 0 1 9))) (fun u => u = t))
      ∧ reads (record 1010 5 0 0 0 0) (fun t => short t && (t.fetcher .p0).state = .ended)
      ∧ joiner.isLate .p0 ⟨1000, .tap, 0, 0, 3, 9⟩ = false
      ∧ after joiner (.stalledRecordRetry .p0) (fun t => (t.entry .p0 0).state = .waiting && (t.entry .p0 0).unit = some 9
          && t.chord .p0 0 = some ⟨9, 3, 0, none, [1, 0]⟩ && (t.judge .p0).lane 0 = [0]) := by decide +kernel

/-! ### Lane Judge -/

/-- P0's lane 0 holds this entry, and panel 0 stands at its press threshold with this rise stamp. -/
def pressed (e : Entry) (stamp : Int) : State := onPad0 (playing [e] [0]) (rising stamp)

/-- Grades at the edges of the windows 10, 20, 30 and 40 (R80, R81); 41 marks off is a free step (R84). -/
theorem witness_PressesAreMatched :
    let tap := note .waiting .tap 1010
    let hold := { note .waiting .hold 1010 with
      record := { NoteRecord.blank with kind := .hold, time := 1010, length := 100 }, tailUnit := some 1 }
    let s := pressed tap 1000
    let free := pressed tap 969
    let graded (stamp : Int) (g : Grade) : Bool := after (pressed tap stamp) (.pressConfirm .pad0 0) (fun t =>
      (t.entry .p0 0).own = g && (t.entry .p0 0).offset = stamp - 1010 && (t.entry .p0 0).state = .final
        && (t.judge .p0).lane 0 = [] && (t.scoreUnit .p0).offsetCount = 1 && (t.writer .p0).queue = [.result 0])
    s.run = .operating ∧ (s.pad .pad0).state = .active ∧ s.owner .pad0 = some .p0 ∧ s.laneOf .p0 .pad0 0 = some 0
      ∧ ((s.pad .pad0).panels.get 0).state = .rising
      ∧ (s.pad .pad0).profile.dOn + 1 ≤ ((s.pad .pad0).panels.get 0).confirm ∧ (s.session .p0).state = .playing
      ∧ s.clock.state = .running ∧ (s.judge .p0).lane 0 = [] ++ 0 :: [] ∧ (s.entry .p0 0).unit = some 0
      ∧ (s.entry .p0 0).chord = none ∧ (s.scoreUnit .p0).outcome ≠ .failed
      ∧ [1000, 1010, 1020].all (fun x => graded x .apex) = true ∧ [990, 1030].all (fun x => graded x .solid) = true
      ∧ [980, 1040].all (fun x => graded x .fair) = true ∧ [970, 1050].all (fun x => graded x .thin) = true
      ∧ (969 : Int) - (1010 + 0) < -40
      ∧ [969, 1051].all (fun x => after (pressed tap x) (.pressConfirm .pad0 0) (fun t =>
          (t.scoreUnit .p0).freeSteps = 1 && t.entry .p0 0 = tap)) = true
      ∧ after (clocked free (fun c => { c with state := .paused })) (.pressConfirm .pad0 0) (fun t =>
          (t.scoreUnit .p0).freeSteps = 1)
      ∧ after (free.setSession .p0 { session with laneCount := 0 }) (.pressConfirm .pad0 0) (fun t =>
          (t.scoreUnit .p0).freeSteps = 0 && ((t.pad .pad0).panels.get 0).state = .down)
      ∧ (1000 : Int) < min 8388607 (1010 + 100 + 0 + (pressed hold 1000).laneDOff .p0 0 + 1)
      ∧ after (pressed hold 1005) (.pressConfirm .pad0 0) (fun t => (t.entry .p0 0).state = .held
          && (t.entry .p0 0).own = .apex && ((t.pad .pad0).panels.get 0).holdActive
          && (t.scoreUnit .p0).apex = 1) := by decide +kernel

/-- R81, R181: a graded press flashes the lane's panel at the record's cue, a free step does not. -/
theorem test_graded_press_flashes :
    let tap := note .waiting .tap 1010
    let s (stamp : Int) :=
      let s := pressed { tap with record := { tap.record with cue := 77 } } stamp
      s.setLamps { s.lamps with fields := ⟨⟨Tab.fill 6 ⟨.dark, 0, false, true, false⟩, 400⟩, LampFields.unconfigured⟩ }
    after (s 1010) (.pressConfirm .pad0 0) (fun t => t.lamps = ((s 1010).trigger .p0 .grade 77 .pad0 0).lamps
        && t.lamps.panel .pad0 0 = ⟨0, 77, 400⟩)
      ∧ after (s 969) (.pressConfirm .pad0 0) (fun t => t.lamps.panel .pad0 0 = ⟨0, 0, 0⟩) := by decide +kernel

/-- The avoid window is 5 marks on both sides (R105); the press that strikes is still a free step (R79). -/
theorem witness_PressesAreMatched_avoid :
    let s (stamp : Int) := pressed (note .watching .avoid 1000) stamp
    ((s 995).judge .p0).lane 0 = [0] ∧ (((s 995).scoreUnit .p0).apply (.struck (-50))).outcome ≠ .failed
      ∧ [995, 1005].all (fun p => after (s p) (.pressConfirm .pad0 0) (fun t => (t.entry .p0 0).own = .struck
          && (t.entry .p0 0).offset = p - 1000 && (t.entry .p0 0).state = .final && (t.judge .p0).lane 0 = []
          && (t.scoreUnit .p0).struck = 1 && (t.scoreUnit .p0).life = 550 && (t.scoreUnit .p0).freeSteps = 1
          && (t.writer .p0).queue = [.result 0])) = true
      ∧ [994, 1006].all (fun p => after (s p) (.pressConfirm .pad0 0) (fun t =>
          t.entry .p0 0 = note .watching .avoid 1000 && (t.scoreUnit .p0).freeSteps = 1)) = true := by decide +kernel

/-- Due times reached exactly at song time 1000 and one mark before (R88, R74, R104, R107). -/
theorem witness_DueTimesAreServed :
    let tap (t : Int) := serving (playing [note .waiting .tap t] [0])
    let beat (t : Int) :=
      let s := serving (playing [note .scheduled .beat t] [])
      s.setJudge .p0 { s.judge .p0 with beats := [0] }
    let avoid (t : Int) (crossed : Bool) := serving (playing [{ note .watching .avoid t with crossed }] [0])
    (tap 958).run = .operating ∧ ((tap 958).session .p0).state = .playing ∧ (tap 958).clock.state = .running
      ∧ ((tap 958).entry .p0 0).chord = none
      ∧ min 8388607 ((958 : Int) + 0 + 40 + (tap 958).laneDOn .p0 0 + 1) ≤ ((tap 958).judge .p0).judged
      ∧ after (tap 958) (.lapseDue .p0 0) (fun t => (t.entry .p0 0).own = .lapse && (t.scoreUnit .p0).lapse = 1
          && (t.scoreUnit .p0).life = 580 && (t.writer .p0).queue = [.result 0] && (t.judge .p0).lane 0 = [])
      ∧ after (tap 959) (.lapseDue .p0 0) (fun t => t = tap 959)
      ∧ (let h := serving (playing [{ note .waiting .hold 958 with tailUnit := some 1 }] [0])
        after h (.lapseDue .p0 0) (fun t => (t.entry .p0 0).own = .lapse && (t.entry .p0 0).tail = .dropped
          && (t.entry .p0 0).state = .final && (t.scoreUnit .p0).lapse = 1 && (t.scoreUnit .p0).dropped = 1
          && (t.scoreUnit .p0).life = 580 && (t.judge .p0).lane 0 = []))
      ∧ (let u := playing [note .waiting .tap 958] [0]; (u.judge .p0).serving = false
        ∧ after u (.lapseDue .p0 0) (fun t => t = u))
      ∧ after (beat 1000) (.beatDue .p0 0) (fun t => (t.entry .p0 0).own = .passed && (t.judge .p0).beats = [])
      ∧ after (beat 1001) (.beatDue .p0 0) (fun t => t = beat 1001)
      ∧ ((avoid 1000 false).lanePanelIn (avoid 1000 false).pads .p0 0).pressed = false
      ∧ after (avoid 1000 false) (.crossingDue .p0 0) (fun t => (t.entry .p0 0).crossed && (t.entry .p0 0).state = .watching)
      ∧ (let d := onPad0 (avoid 1000 false) { Panel.reset with state := .falling }
        (d.lanePanelIn d.pads .p0 0).pressed = true ∧ after d (.crossingDue .p0 0) (fun t =>
          (t.entry .p0 0).own = .struck && (t.scoreUnit .p0).life = 550 && (t.scoreUnit .p0).struck = 1))
      ∧ after (avoid 993 true) (.avoidSettleDue .p0 0) (fun t => (t.entry .p0 0).own = .avoided
          && (t.scoreUnit .p0).avoided = 1)
      ∧ after (avoid 994 true) (.avoidSettleDue .p0 0) (fun t => t = avoid 994 true) := by decide +kernel

/-- Of two taps whose dues 1001 and 1000 the value 1001 reaches, the lower is served first (R89); a beat due at 1009 is not
reached by the pulse that makes song time 1008, and one at 1008 is (R3, R87). An avoid note's crossing and settle due
both capped at 8388607 are served in this order (log entry 12). -/
theorem witness_DueTimesAreServed_handOver :
    let s := playing [note .waiting .tap 959, { note .waiting .tap 958 with chartNo := 1 }] [0, 1]
    let ready := s.setJudge .p0 { s.judge .p0 with judged := 1001, serving := true }
    let beat (t : Int) := clocked (playing [note .scheduled .beat t] []) (fun c => { c with phase := 8 })
    s.nextDueOf .p0 (s.entry .p0 0) = some 1001 ∧ s.nextDueOf .p0 (s.entry .p0 1) = some 1000
      ∧ after ready (.lapseDue .p0 1) (fun t =>
          t.handOver s.pads .p0 1001 = s.handOver s.pads .p0 1001 && (t.entry .p0 0).state = .waiting)
      ∧ (let h := s.handOver s.pads .p0 1001; (h.scoreUnit .p0).lapse = 2 ∧ (h.writer .p0).queue = [.result 1, .result 0]
        ∧ (h.judge .p0).serving = false ∧ (h.judge .p0).judged = 1001)
      ∧ (let h := s.handOver s.pads .p0 999; h = s.setJudge .p0 { s.judge .p0 with judged := 999 })
      ∧ (let a := playing [note .watching .avoid 8388607] [0]
        let last := a.setJudge .p0 { a.judge .p0 with judged := 8388607, serving := true }
        a.nextDueOf .p0 (a.entry .p0 0) = some 8388607
          ∧ a.nextDueOf .p0 { a.entry .p0 0 with crossed := true } = some 8388607
          ∧ after last (.crossingDue .p0 0) (fun t => (t.entry .p0 0).crossed && (t.entry .p0 0).state = .watching
              && t.handOver a.pads .p0 8388607 = a.handOver a.pads .p0 8388607)
          ∧ ((a.handOver a.pads .p0 8388607).entry .p0 0).own = .avoided)
      ∧ (beat 1008).clock.taking = true ∧ (beat 1008).clock.mode = .locked ∧ (beat 1008).clock.change ≠ .pause ∧ (beat 1008).clock.phase = 8
      ∧ after (beat 1008) (.syncPulse .p0) (fun t => (t.entry .p0 0).own = .passed)
      ∧ after (beat 1009) (.syncPulse .p0) (fun t => (t.entry .p0 0).own = .pending && (t.judge .p0).judged = 1008) := by
  decide +kernel

/-- R104, R108: the round makes song time 1001, the crossing of an avoid note at 1001. A press that the round confirms strikes
in either order, with its offset or with 0; one stamped before the window strikes by the crossing alone. -/
theorem witness_DueTimesAreServed_strobe :
    let s (x : Panel) := onPad0 (playing [note .watching .avoid 1001] [0]) x
    let strobe (v : BitVec 12) (items : List RoundItem) : Instr := .roundStrobe ⟨Tab.fill 24 v, Tab.fill 24 5⟩ ⟨[], items, .p0⟩
    let up : Panel := { Panel.reset with state := .up }
    let struck (x : Panel) (v : BitVec 12) (items : List RoundItem) (offset : Int) : Bool :=
      after (s x) (strobe v items) (fun t => (t.entry .p0 0).own = .struck && (t.entry .p0 0).offset = offset
        && (t.entry .p0 0).state = .final && (t.scoreUnit .p0).struck = 1)
    (s up).clock.mode = .locked ∧ ((s up).session .p1).state = .idle ∧ ((s up).pad .pad0).cal = none
      ∧ (s up).laneOf .p0 .pad0 0 = some 0 ∧ (s up).laneDOn .p0 0 = 1
      ∧ struck { rising 1000 with confirm := 1 } 4000 [.panel .pad0 0] (-1)
      ∧ struck { rising 1000 with confirm := 1 } 4000 [.handOver .p0] 0
      ∧ struck { rising 990 with confirm := 1 } 4000 [.panel .pad0 0] 0
      ∧ struck { rising 990 with confirm := 1 } 4000 [.handOver .p0] 0
      ∧ struck { Panel.reset with state := .down } 5 [] 0
      ∧ after (s up) (strobe 4000 []) (fun t => t.entry .p0 0 = { note .watching .avoid 1001 with crossed := true })
      ∧ after (s up) (strobe 5 []) (fun t => t.entry .p0 0 = { note .watching .avoid 1001 with crossed := true }) := by
  decide +kernel

/-- A hold of lane 0 that ends at `stop`, slipped at `slip` if any. -/
def held (state : EntryState) (stop : Int) (slip : Option Int) : Entry :=
  { note state .hold (stop - 100) with
    record := { NoteRecord.blank with kind := .hold, time := stop - 100, length := 100 }, tailUnit := some 1, slip,
    own := .apex, unitGrade := .apex }

/-- D_off = 3, so a hold that ends at 996 has its settle due at 1000 (R100); grace 8 and D_on = 1 put the grace due of a slip
at 990 at 1000 (R99). -/
theorem witness_HoldsCompleteOrSlip :
    let s (e : Entry) := serving (playing [e] [0])
    let p (e : Entry) (x : Panel) := onPad0 (s e) x
    (s (held .held 996 none)).run = .operating ∧ ((s (held .held 996 none)).entry .p0 0).tailUnit = some 1
      ∧ min 8388607 ((996 : Int) + 0 + (s (held .held 996 none)).laneDOff .p0 0 + 1) ≤ 1000
      ∧ after (s (held .held 996 none)) (.settleDue .p0 0) (fun t => (t.entry .p0 0).tail = .held
          && (t.scoreUnit .p0).held = 1 && (t.scoreUnit .p0).life = 604 && (t.entry .p0 0).state = .final)
      ∧ after (s { held .held 996 none with chord := some 0 }) (.settleDue .p0 0) (fun t => (t.entry .p0 0).tail = .held
          && (t.entry .p0 0).state = .judged && (t.scoreUnit .p0).held = 1 && (t.writer .p0).queue = [])
      ∧ after (s (held .held 997 none)) (.settleDue .p0 0) (fun t => t = s (held .held 997 none))
      ∧ after (s (held .slipping 996 (some 988))) (.settleDue .p0 0) (fun t => (t.entry .p0 0).tail = .held)
      ∧ (990 : Int) + 8 < 999 ∧ min 8388607 ((990 : Int) + 8 + (s (held .slipping 999 none)).laneDOn .p0 0 + 1) ≤ 1000
      ∧ after (s (held .slipping 999 (some 990))) (.graceDue .p0 0) (fun t => (t.entry .p0 0).tail = .dropped
          && (t.scoreUnit .p0).dropped = 1 && (t.scoreUnit .p0).life = 590)
      ∧ after (s (held .slipping 1200 (some 991))) (.graceDue .p0 0) (fun t => t = s (held .slipping 1200 (some 991)))
      ∧ (let r := p (held .held 1200 none) { Panel.reset with state := .falling, confirm := 4, fallStamp := 995 }
        r.laneOf .p0 .pad0 0 = some 0 ∧ r.laneTargetOf .p0 0 = some (.pad0, 0) ∧ (r.judge .p0).firstIn 0 .held = some 0
          ∧ after r (.releaseConfirm .pad0 0) (fun t => (t.entry .p0 0).state = .slipping
              && (t.entry .p0 0).slip = some 995))
      ∧ [998, 999].map (fun stamp => after (p (held .slipping 1200 (some 990)) (rising stamp)) (.pressConfirm .pad0 0)
          (fun t => (t.entry .p0 0).state = .held && ((t.pad .pad0).panels.get 0).holdActive)) = [true, false]
      ∧ ((s (held .held 1200 none)).reconcileEntry .p0 0).entry .p0 0 = held .slipping 1200 (some 1000)
      ∧ (let d := p (held .slipping 1200 (some 900)) { Panel.reset with state := .down }
        ((d.reconcileEntry .p0 0).entry .p0 0).state = .held) := by decide +kernel

/-- R27, R30, R96: a stuck release and a panel's death slip at the song time, FORCED. R92: a resume at the song time 1000, by a pulse and by its
fallback. -/
theorem witness_HoldsCompleteOrSlip_resume :
    let stuck := onPad0 (playing [held .held 1200 none] [0]) { Panel.reset with state := .down, stuck := 2000 }
    let paused (e : Entry) (state : PanelState) := clocked (onPad0 (playing [e] [0]) { Panel.reset with state })
      (fun c => { c with state := .paused, change := .resume, phase := 10, wait := 32, waiting := some ⟨9, 3, 0, 0⟩ })
    let both (s : State) (p : State → Bool) : Bool :=
      after s (.syncPulse .p0) p && after s (.resumeFallback .p1) p
    let dying := (playing [held .held 1200 none] [0]).setPad .pad0 { active with
      profile := { profile with enables := 0xFFF1 }, sensors := active.sensors.set 0 ⟨0, 0, true, 64, 0⟩,
      panels := active.panels.set 0 { Panel.reset with state := .falling } }
    (dying.judge .p0).firstIn 0 .held = some 0 ∧ (dying.pad .pad0).healthyOf 0 = [0]
      ∧ after dying (.sensorFail ⟨.pad0, 0, 0⟩) (fun t => t.entry .p0 0 = { held .slipping 1200 (some 1000) with
            flags := { ResultFlags.clear with forced := true } } && (t.scoreUnit .p0).flags = 0x180
            && ((t.pad .pad0).panels.get 0).state = .dead && t.fault.player = some .p0)
      ∧ (stuck.judge .p0).firstIn 0 .held = some 0 ∧ (2000 : Nat) * 1 ≤ 2000
      ∧ after stuck (.stuckRelease .pad0 0) (fun t => t.entry .p0 0 = { held .slipping 1200 (some 1000) with
            flags := { ResultFlags.clear with forced := true } } && (t.scoreUnit .p0).flags = 0x100)
      ∧ (paused (held .held 1200 none) .up).clock.held = none ∧ (paused (held .held 1200 none) .up).clock.taking = true
      ∧ ((paused (held .held 1200 none) .up).session .p1).state ≠ .playing
      ∧ both (paused (held .held 1200 none) .up) (fun t => t.entry .p0 0 = held .slipping 1200 (some 1000)
          && t.clock.state = .running)
      ∧ both (paused (held .held 1200 none) .falling) (fun t => t.entry .p0 0 = held .held 1200 none)
      ∧ both (paused (held .slipping 1200 (some 900)) .rising) (fun t => t.entry .p0 0 = held .slipping 1200 (some 900))
      ∧ both (paused (held .slipping 1200 (some 900)) .down) (fun t => t.entry .p0 0 = held .held 1200 none
          && ((t.pad .pad0).panels.get 0).holdActive)
      ∧ (paused (held .slipping 1200 (some 900)) .down).laneDOff .p0 0 = 3
      ∧ both (paused (held .slipping 996 (some 900)) .down) (fun t => (t.entry .p0 0).tail = .held
          && (t.entry .p0 0).state = .final) := by decide +kernel

/-- A chord of two: entry 1 is JUDGED already with the worst grade given, entry 0 is a TAP whose lapse due is reached. -/
def chorded (judged expected : Nat) (worst : Option Grade) : State :=
  let e := { note .waiting .tap 958 with chord := some 0 }
  let s := serving (playing [e, { e with state := .judged, own := .fair }] [0])
  s.setJudge .p0 { s.judge .p0 with chords := (Tab.fill 8 none).set 0 (some ⟨0, expected, judged, worst, [0, 1]⟩) }

theorem witness_ChordsSettleWithWorstGrade :
    let s := chorded 1 2 (some .fair)
    s.run = .operating ∧ (s.entry .p0 0).state = .waiting ∧ (s.entry .p0 0).chord = some 0
      ∧ s.chord .p0 0 = some ⟨0, 2, 1, some .fair, [0, 1]⟩ ∧ (0 : Nat) ∈ [0, 1] ∧ [0, 1].Nodup
      ∧ (s.entry .p0 1).state = .judged
      ∧ min 8388607 ((958 : Int) + 0 + 40 + s.laneDOn .p0 0 + 1) ≤ (s.judge .p0).judged
      ∧ after s (.lapseDue .p0 0) (fun t => (t.scoreUnit .p0).lapse = 1 && (t.entry .p0 0).unitGrade = .lapse
          && (t.entry .p0 1).unitGrade = .lapse && (t.entry .p0 1).own = .fair && t.chord .p0 0 = none
          && (t.writer .p0).queue = [.result 0, .result 1])
      ∧ after (chorded 1 3 (some .fair)) (.lapseDue .p0 0) (fun t => (t.entry .p0 0).state = .judged
          && t.chord .p0 0 = some ⟨0, 3, 2, some .lapse, [0, 1]⟩)
      ∧ after (chorded 1 2 (some .void)) (.lapseDue .p0 0) (fun t => (t.scoreUnit .p0).voided = 1
          && (t.entry .p0 0).unitGrade = .void && (t.scoreUnit .p0).life = 600)
      ∧ WorstOf (some .fair) .lapse .lapse ∧ WorstOf (some .void) .lapse .void ∧ WorstOf none .thin .thin := by
  simp only [WorstOf]
  decide +kernel

/-- R110: presses at the offsets 10, 20, 30 and 40 report APEX, SOLID, FAIR and THIN to a chord whose worst grade stands at
SOLID; R63: a late member reports VOID, and settles the chord when it is the last. -/
theorem witness_ChordsSettleWithWorstGrade_press :
    let s (stamp : Int) (worst : Option Grade) := onPad0 (chorded 1 2 worst) (rising stamp)
    let settles (offset : Int) (own unitGrade : Grade) : Bool :=
      after (s (958 + offset) (some .solid)) (.pressConfirm .pad0 0) (fun t => (t.entry .p0 0).own = own
        && (t.entry .p0 0).unitGrade = unitGrade && (t.entry .p0 1).unitGrade = unitGrade
        && (t.entry .p0 0).offset = offset && t.chord .p0 0 = none && (t.scoreUnit .p0).offsetCount = 1
        && (t.writer .p0).queue = [.result 0, .result 1])
    let late (expected : Nat) := (fetching (fun f => { f with
        assembly := some ⟨0, 3, 900, [1, 2], 2⟩ }) .record).setJudge .p0 { ((fetching id .record).judge .p0) with
      pool := [{ Entry.blank with state := .reserved }, { note .judged .tap 900 with chord := some 0, own := .apex }],
      chords := (Tab.fill 8 none).set 0 (some ⟨9, expected, 1, some .apex, [1]⟩) }
    settles 10 .apex .solid ∧ settles 20 .solid .solid ∧ settles 30 .fair .fair ∧ settles (-40) .thin .thin
      ∧ WorstOf (some .solid) .apex .solid ∧ WorstOf (some .solid) .thin .thin
      ∧ (((late 3).fetcher .p0).recordFault 4 (parseRecord (record 900 1 0 0 3 9)) = none
        ∧ after (late 3) (.recordReadDone .p0 (some (record 900 1 0 0 3 9))) (fun t =>
            (t.entry .p0 0).own = .void && (t.entry .p0 0).state = .judged && (t.fetcher .p0).assembly = none
              && t.chord .p0 0 = some ⟨9, 3, 2, some .void, [1, 0]⟩ && (t.scoreUnit .p0).voided = 0
              && (t.scoreUnit .p0).flags = 0x10)
        ∧ after (late 2) (.recordReadDone .p0 (some (record 900 1 0 0 3 9))) (fun t =>
            t.chord .p0 0 = none && (t.entry .p0 0).unitGrade = .void && (t.entry .p0 1).unitGrade = .void
              && (t.scoreUnit .p0).voided = 1 && (t.writer .p0).queue = [.result 1, .result 0])) :=
  ⟨by decide +kernel, by decide +kernel, by decide +kernel, by decide +kernel, ⟨.inl rfl, by decide, by decide⟩,
    ⟨.inr rfl, by decide, by decide⟩, by decide +kernel⟩

/-- The first report of a chord of two, the other member WAITING still; a HOLD member that is pressed, and one that lapses, as
first and as last to report (R83, R103, R110 to R112); a HOLD that joins late, and one that opens a chord late (R58, R63). -/
theorem witness_ChordsSettleWithWorstGrade_holds :
    let hold (time : Int) : Entry := { note .waiting .hold time with
      record := { NoteRecord.blank with kind := .hold, time, length := 100 }, tailUnit := some 1, chord := some 0 }
    let s (e : Entry) (other : EntryState) (judged : Nat) (worst : Option Grade) : State :=
      let s := serving (playing [e, { note other .tap 958 with chord := some 0, own := .fair }] [0])
      s.setJudge .p0 { s.judge .p0 with chords := (Tab.fill 8 none).set 0 (some ⟨0, 2, judged, worst, [0, 1]⟩) }
    let press (other : EntryState) (judged : Nat) (worst : Option Grade) (p : State → Bool) : Bool :=
      after (onPad0 (s (hold 990) other judged worst) (rising 1000)) (.pressConfirm .pad0 0) p
    let late (f : Fetcher → Fetcher) (chords : Tab 8 (Option Chord)) (p : State → Bool) : Bool :=
      let s := fetching f .record
      after (s.setJudge .p0 { s.judge .p0 with
          pool := [{ Entry.blank with state := .reserved }, { note .judged .tap 900 with chord := some 0, own := .apex }],
          chords }) (.recordReadDone .p0 (some (record 900 2 16 0 3 9))) p
    after (s { note .waiting .tap 958 with chord := some 0 } .waiting 0 none) (.lapseDue .p0 0) (fun t =>
        (t.entry .p0 0).state = .judged && (t.entry .p0 1).state = .waiting
          && t.chord .p0 0 = some ⟨0, 2, 1, some .lapse, [0, 1]⟩ && (t.writer .p0).queue = [])
      ∧ press .waiting 0 none (fun t => (t.entry .p0 0).state = .held && (t.entry .p0 0).own = .apex
          && t.chord .p0 0 = some ⟨0, 2, 1, some .apex, [0, 1]⟩ && ((t.pad .pad0).panels.get 0).holdActive
          && (t.judge .p0).lane 0 = [0])
      ∧ press .judged 1 (some .fair) (fun t => (t.entry .p0 0).state = .held && (t.entry .p0 0).unitGrade = .fair
          && t.chord .p0 0 = none && (t.writer .p0).queue = [.result 1] && (t.scoreUnit .p0).fair = 1)
      ∧ after (s (hold 958) .waiting 0 none) (.lapseDue .p0 0) (fun t => (t.entry .p0 0).state = .judged
          && (t.entry .p0 0).tail = .dropped && (t.scoreUnit .p0).dropped = 1 && (t.scoreUnit .p0).lapse = 0
          && (t.scoreUnit .p0).life = 600)
      ∧ after (s (hold 958) .judged 1 (some .fair)) (.lapseDue .p0 0) (fun t => (t.entry .p0 0).state = .final
          && (t.entry .p0 0).unitGrade = .lapse && (t.writer .p0).queue = [.result 1, .result 0]
          && (t.scoreUnit .p0).dropped = 1 && (t.scoreUnit .p0).lapse = 1 && (t.scoreUnit .p0).life = 580)
      ∧ late (fun f => { f with assembly := some ⟨0, 3, 900, [1, 2], 2⟩ })
          ((Tab.fill 8 none).set 0 (some ⟨9, 3, 1, some .apex, [1]⟩)) (fun t => (t.entry .p0 0).state = .judged
            && (t.entry .p0 0).tail = .none && (t.entry .p0 0).tailUnit = some 10 && (t.scoreUnit .p0).voided = 1
            && (t.scoreUnit .p0).assigned = 11 && t.chord .p0 0 = some ⟨9, 3, 2, some .void, [1, 0]⟩)
      ∧ late id ((Tab.fill 8 none).set 0 (some ⟨9, 1, 1, none, [1]⟩)) (fun t => (t.entry .p0 0).state = .judged
            && (t.entry .p0 0).unit = some 10 && (t.entry .p0 0).tailUnit = some 11 && (t.scoreUnit .p0).voided = 1
            && (t.scoreUnit .p0).assigned = 12 && t.chord .p0 1 = some ⟨10, 3, 1, some .void, [0]⟩) := by decide +kernel

/-- Life 20 takes a LAPSE of -20: at 20 the player fails, at 21 it plays on. -/
theorem witness_FailureClosesStage :
    let s (life : Int) := (serving (playing [note .waiting .tap 958, note .waiting .tap 1010] [0, 1])).onScore .p0 (fun c =>
      { c with life })
    ((s 20).fetcher .p0).reserved ≠ some 0 ∧ ((s 20).scoreUnit .p0).outcome = .none
      ∧ ((s 20).scoreUnit .p0).noFail = false ∧ ((s 20).scoreUnit .p0).life + ((s 20).params .p0).lapseDelta ≤ 0
      ∧ after (s 20) (.lapseDue .p0 0) (fun t => (t.session .p0).state = .closing && (t.scoreUnit .p0).outcome = .failed
          && (t.entry .p0 1).own = .void && (t.writer .p0).queue = [.result 0, .result 1])
      ∧ after (s 21) (.lapseDue .p0 0) (fun t => (t.session .p0).state = .playing && (t.scoreUnit .p0).life = 1) := by
  decide +kernel

/-! ### Score Unit -/

/-- R123: 995 takes +10 and then -10 and ends at 990. -/
theorem test_life_clamps_at_each_settlement :
    let c := { Score.start 100 false 995 with assigned := 9 }
    ((c.apply (.unit 0 .apex 64 10 .add)).apply (.unit 1 .thin 0 (-10) .break)).life = 990 := by decide

/-- R118, R120: N = 786 gives V = 1272 and Rm = 208; a full fraction earns 1273 below index 208 and 1272 from it on. -/
theorem test_unit_worths_of_786 :
    let c := { Score.start 786 false 600 with assigned := 786 }
    c.unitValue = 1272 ∧ c.remainder = 208 ∧ (c.apply (.unit 207 .apex 64 0 .add)).score = 1273
      ∧ (c.apply (.unit 208 .apex 64 0 .add)).score = 1272 ∧ (c.apply (.unit 786 .apex 64 0 .add)).score = 0
      ∧ (c.apply (.unit 786 .apex 64 0 .add)).flags = 8 := by decide +kernel

/-- R118 at both ends of N. -/
theorem witness_StageStart : (0 : Nat) < 65535 ∧ (65535 : Nat) ≤ 65535 ∧ (Score.start 65535 false 600).unitValue = 15
    ∧ (Score.start 1 false 600).unitValue = 1000000 ∧ (Score.start 65535 false 600).remainder = 16975 := by
  decide +kernel

/-- R124, R125 at life 0. -/
theorem test_life_floor_under_no_fail :
    let c := { Score.start 100 true 5 with assigned := 9 }
    let f := { Score.start 100 false 5 with assigned := 9 }
    (c.apply (.unit 0 .lapse 0 (-10) .break)).flags = 0x40 ∧ (c.apply (.unit 0 .lapse 0 (-10) .break)).outcome = .none
      ∧ (f.apply (.unit 0 .lapse 0 (-10) .break)).outcome = .failed
      ∧ ((f.apply (.unit 0 .lapse 0 (-10) .break)).apply (.unit 1 .apex 64 10 .add)).life = 0 := by decide +kernel

/-! ### Player sessions -/

/-- P0 at rest in this state, its slot's read in flight. -/
def resting (state : PlayerState) (outcome : StageOutcome) : State :=
  reading { up with sessions := ⟨{ Session.reset with state }, Session.reset⟩, scores := ⟨Score.clear outcome, Score.clear .none⟩ }
    .slot1

theorem witness_PlayerRequestsAreTaken :
    let s := resting .done .cleared
    let p := reading (playing [] []) .slot1
    FreshRead s (slotOf .p0) (fresh 0x102000 0) ∧ FreshRead p (slotOf .p0) (fresh 0 0)
      ∧ FreshRead (resting .arming .none) (slotOf .p0) (fresh 0 0)
      ∧ FreshRead (resting .closing .failed) (slotOf .p0) (fresh 0 0)
      ∧ FreshRead (resting .armed .none) (slotOf .p0) (fresh 0 0)
      ∧ (∀ k, (p.entry .p0 k).state ∈ [EntryState.free, .final])
      ∧ (after s (.arm .p0 (fresh 0x102000 0)) (fun t => (t.session .p0).state = .arming
            && (t.session .p0).returnState = some .done && t.work = [.descriptor .p0 0x102000])
        ∧ after p (.arm .p0 (fresh 0 0)) (fun t => t.work = [.completion .slot1 .busy 5 1])
        ∧ after s (.abandon .p0 (fresh 0 0)) (fun t => t.work = [.completion .slot1 .ok 5 1])
        ∧ after (resting .arming .none) (.abandon .p0 (fresh 0 0)) (fun t => t.work = [.completion .slot1 .busy 5 0])
        ∧ after (resting .closing .failed) (.abandon .p0 (fresh 0 0)) (fun t => t.work = []
            && (t.session .p0).waitingAbandon = some 5)
        ∧ after p (.abandon .p0 (fresh 0 0)) (fun t => t.work = [] && (t.session .p0).state = .closing
            && (t.session .p0).finalAsked && (t.scoreUnit .p0).outcome = .aborted
            && t.refresh.jobs = [⟨.final .p0, [.finalBoard .p0], false⟩])
        ∧ after p (.refreshNow .p0 (fresh 0 0)) (fun t => t.refresh.jobs = [⟨.now .p0, [.nowHold .p0], false⟩]
            && (t.slot .slot1).executing.isSome)) :=
  ⟨reading_fresh _ _ _ _, reading_fresh _ _ _ _, reading_fresh _ _ _ _, reading_fresh _ _ _ _, reading_fresh _ _ _ _,
    fun k => by cases k <;> exact List.mem_cons_self, by decide +kernel⟩

/-- The descriptor of the example of chapter 7, with a pad set, a lane count, a fifth and sixth lane, and a first page. -/
def descriptor (set lanes lane45 n page life : Nat) : BitVec 640 :=
  BitVec.ofNat 640 (set + lanes * 2 ^ 8 + 0x03020100 * 2 ^ 32 + lane45 * 2 ^ 64 + page * 2 ^ 128 + 1 * 2 ^ 160
    + n * 2 ^ 176 + life * 2 ^ 192)

/-- P0 ARMING out of DONE, both pads ACTIVE with 4 and 6 panels, `owner` owning PAD0. -/
def arming (owner : Option Player) (pad0 : PadState) (clock : ClockState) : State :=
  let s := executing padded .slot1
  busy { s with
    sessions := ⟨{ Session.reset with state := .arming, returnState := some .done }, Session.reset⟩,
    owners := ⟨owner, none⟩,
    pads := ⟨{ active with state := pad0 }, { active with profile := { profile with panelCount := 6 } }⟩,
    clock := { Clock.reset with state := clock, songTime := 77 } } (.request (.descriptor .p0 0x102000))

/-- Each check of R141 at its edge, and the ARM of the example of chapter 7. -/
theorem witness_DescriptorDecidesArm :
    let s := arming none .active .idle
    let refused (s : State) (d : BitVec 640) (status : Status) (check : BitVec 32) : Bool :=
      after s (.descriptorReadDone .p0 (some d)) (fun t => (t.session .p0).state = .done && t.owner .pad0 = s.owner .pad0
        && t.work = [.completion .slot1 status 7 check])
    Carrying s (.request (.descriptor .p0 0x102000))
      ∧ ((s.slot .slot1).executing = some ⟨7, 0, 0, 0⟩ ∧ (s.session .p0).returnState = some .done
        ∧ after s (.descriptorReadDone .p0 none) (fun t => t.fault.kind = .busRead && t.fault.player = some .p0
            && t.work = [.completion .slot1 .busFault 7 2])
        ∧ refused s (descriptor 3 4 0 786 0x110000 600) .badArg 3
        ∧ refused (arming none .unconfigured .idle) (descriptor 0 4 0 786 0x110000 600) .noProfile 4
        ∧ refused (arming none .calibrating .idle) (descriptor 0 4 0 786 0x110000 600) .busy 5
        ∧ refused (arming (some .p1) .active .idle) (descriptor 2 4 0 786 0x110000 600) .padBusy 6
        ∧ refused (s.setSession .p1 { Session.reset with state := .arming }) (descriptor 2 4 0 786 0x110000 600) .padBusy 7
        ∧ refused s (descriptor 0 5 0 786 0x110000 600) .badArg 8 ∧ refused s (descriptor 0 0 0 786 0x110000 600) .badArg 8
        ∧ refused s (descriptor 2 13 0 786 0x110000 600) .badArg 8
        ∧ refused s (descriptor 2 5 0x04 786 0x110000 600) .badArg 9
        ∧ refused s (descriptor 1 4 0 786 0x110000 600) .badArg 9
        ∧ refused s (descriptor 2 6 0x1515 786 0x110000 600) .badArg 10
        ∧ refused s (descriptor 0 4 0 0 0x110000 600) .badArg 11
        ∧ refused s (descriptor 0 4 0 786 0x110008 600) .badArg 12
        ∧ refused s (descriptor 0 4 0 786 0x13FE10 600) .badArg 12
        ∧ after s (.descriptorReadDone .p0 (some (descriptor 0 4 0xFFFF 786 0x13FE00 0))) (fun t =>
            (t.session .p0).state = .armed && t.owner .pad0 = some .p0 && t.owner .pad1 = none
              && (t.fetcher .p0).read = some ⟨.header, 0x13FE00, false⟩ && (t.scoreUnit .p0).life = 1
              && (t.writer .p0).retiredThrough = 0 && (t.judge .p0).pool.length = 64 && (t.judge .p0).judged = 77
              && t.work = [.completion .slot1 .ok 7 0])
        ∧ after (s.setWork [.profile .pad0 5 false, .profile .pad1 6 false]) (.descriptorReadDone .p0 (some
            (descriptor 0 4 0 786 0x110000 600))) (fun t =>
              t.work = [.profile .pad0 5 true, .profile .pad1 6 false, .completion .slot1 .ok 7 0])
        ∧ after (arming none .active .paused) (.descriptorReadDone .p0 (some (descriptor 2 6 0x1514 1 0x110000 2000)))
            (fun t => (t.session .p0).state = .playing && t.owner .pad1 = some .p0 && (t.judge .p0).pool.length = 128
              && (t.judge .p1).pool.length = 0 && (t.scoreUnit .p0).life = 1000
              && t.work = [.completion .slot1 .ok 7 1])) :=
  ⟨busy_carrying _ _, by decide +kernel⟩

/-! ### The slot protocol -/

theorem witness_SlotReadsEnd :
    let s := reading up .slot1
    let z := reading up .slot0
    let q := reading (clocked up (fun c => { c with waiting := some ⟨3, 1, 0, 0⟩ })) .slot0
    let again := s.setSlot .slot1 { s.slot .slot1 with attention := true, readInFlight := true }
    Carrying s (.request (.slotRead .slot1)) ∧ Carrying z (.request (.slotRead .slot0))
      ∧ Carrying q (.request (.slotRead .slot0))
      ∧ ((7 : BitVec 16) ∉ [(8 : BitVec 16), 9, 10] ∧ (8 : BitVec 16) ∉ [(1 : BitVec 16), 2, 3, 4, 5, 6, 7]
        ∧ after s (.unknownKind .slot1 7 (fresh 0 0)) (fun t => t.work = [.completion .slot1 .unknownKind 5 7])
        ∧ after z (.unknownKind .slot0 8 (fresh 0 0)) (fun t => t.work = [.completion .slot0 .unknownKind 5 8])
        ∧ after q (.unknownKind .slot0 8 (fresh 0 0)) (fun t => t.work = [] && t.clock.held = some ⟨5, 8, 0, 0⟩)
        ∧ after s (.unknownKind .slot1 8 (fresh 0 0)) (fun t => t = s)
        ∧ after s (.staleRequest .slot1 ⟨4, 4, 0, 0⟩) (fun t => t.work = [] && t.bus.inFlight = none)
        ∧ after q (.staleRequest .slot0 ⟨3, 4, 0, 0⟩) (fun t => t.work = [] && t.bus.inFlight = none)
        ∧ after s (.staleRequest .slot1 (fresh 0 0)) (fun t => t = s)
        ∧ after s (.slotReadFault .slot1) (fun t => t.fault.kind = .busRead && t.fault.player = some .p0 && t.work = [])
        ∧ (again.slot .slot1).attention = true ∧ (again.slot .slot1).executing = none
        ∧ after again (.slotReadFault .slot1) (fun t => t.work = [.slotRead .slot1])) :=
  ⟨busy_carrying _ _, busy_carrying _ _, busy_carrying _ _, by decide +kernel⟩

theorem witness_CompletionAndFaultWritesEnd :
    let s := busy (up.setSlot .slot1 { Slot.clear with attention := true, unwritten := 1 })
      (.request (.completion .slot1 .ok 0x41 0))
    Carrying s (.request (.completion .slot1 .ok 0x41 0)) ∧ Carrying (busy up .faultRecord) .faultRecord
      ∧ ((s.slot .slot1).unwritten = 1 ∧ (s.slot .slot1).readInFlight = false
        ∧ after s (.completionWriteDone .slot1 true) (fun t => t.notice = 2 && (t.slot .slot1).unwritten = 0
            && t.work = [.slotRead .slot1])
        ∧ after s (.completionWriteDone .slot1 false) (fun t => t.notice = 0x20 && t.fault.kind = .busWrite
            && t.fault.player = some .p0 && t.work = [.slotRead .slot1])
        ∧ after (busy up .faultRecord) (.faultRecordWriteDone false) (fun t => t = up)) :=
  ⟨busy_carrying _ _, busy_carrying _ _, by decide +kernel⟩

/-- The example of chapter 10, a request read twice, with an ARM that check 11 refuses. -/
theorem test_request_read_twice :
    let s := { up with sessions := ⟨{ Session.reset with state := .done }, Session.reset⟩, pads := ⟨active, active⟩, mask := 0x22 }
    let s2 := runs s [.attn 2, .busGrant, .arm .p0 ⟨0x41, 0x40, 0x102000, 0⟩, .attn 2, .busGrant]
    let s6 := runs (runs s2 [.descriptorReadDone .p0 (some (descriptor 0 4 0 0 0x110000 600)), .busGrant,
      .completionWriteDone .slot1 true]) [.busGrant, .staleRequest .slot1 ⟨0x41, 0x41, 0, 0⟩]
    (s2.slot .slot1) = ⟨true, false, some ⟨0x41, 8, 0x102000, 0⟩, 0⟩
      ∧ (s6.slot .slot1) = ⟨false, false, none, 0⟩ ∧ s6.notice = 2 ∧ s6.alert = true := by decide +kernel

/-! ### Write-back Unit and Refresh Unit -/

/-- P0 in this player state, a result write of entry 0 of page 20 in flight, the tracker as in the example of chapter 8. -/
def writing (state : PlayerState) (written : Nat) : State :=
  let s := playing [{ note .final .tap 1010 with tracker := 20, slot := 5 }] []
  busy { s with
    sessions := ⟨{ session with state }, Session.reset⟩,
    writers := ⟨⟨[], some (.result 0), false, 19⟩, Writer.reset⟩,
    fetchers := ⟨{ Fetcher.reset with
      tracker := [⟨0x112000, 20, 31, written, true⟩, ⟨0x112200, 21, 31, 31, true⟩] }, Fetcher.reset⟩ } (.result .p0 0)

theorem writing_alone (state : PlayerState) (n : Nat) : ∀ k, k ≠ 0 → ((writing state n).entry .p0 k).state = .free := by
  intro k h
  cases k with
  | zero => exact absurd rfl h
  | succ _ => rfl

/-- The example of chapter 8: the hold's result retires page 20, and its retirement lets page 21 be retired. -/
theorem witness_WriteBackEnds :
    let s := writing .playing 30
    let ended := (writing .playing 29).onScore .p0 (fun c => { c with endTime := some 1000 })
    let r := busy ((writing .playing 31).setWriter .p0 ⟨[], some (.retire 0x112000 20), true, 19⟩) (.retire .p0 20)
    Carrying s (.result .p0 0) ∧ Carrying r (.retire .p0 20) ∧ Carrying ended (.result .p0 0)
      ∧ ((s.session .p0).state ≠ .closing ∧ (s.scoreUnit .p0).endTime = none
        ∧ after s (.resultWriteDone .p0) (fun t => (t.entry .p0 0).state = .free && (t.scoreUnit .p0).finalized = 1
            && (t.writer .p0) = ⟨[.retire 0x112000 20], none, true, 19⟩)
        ∧ after s (.resultWriteError .p0) (fun t => (t.scoreUnit .p0).flags = 4 && t.fault.kind = .busWrite
            && t.fault.pageSeq = 20 && t.fault.recordIndex = 5 && (t.scoreUnit .p0).finalized = 1)
        ∧ after (writing .playing 29) (.resultWriteDone .p0) (fun t => (t.writer .p0).queue = [])
        ∧ (ended.scoreUnit .p0).outcome = .none ∧ (1000 : Int) ≤ (ended.judge .p0).judged
        ∧ after ended (.resultWriteDone .p0) (fun t => (t.session .p0).state = .closing
            && (t.scoreUnit .p0).outcome = .cleared && (t.session .p0).finalAsked)
        ∧ ((writing .closing 29).session .p0).finalAsked = false ∧ ((writing .closing 29).fetcher .p0).read = none
        ∧ after (writing .closing 29) (.resultWriteDone .p0) (fun t => (t.session .p0).finalAsked)
        ∧ after r (.retirementWriteDone .p0 true) (fun t => (t.writer .p0) = ⟨[.retire 0x112200 21], none, true, 20⟩
            && (t.fetcher .p0).tracker = [⟨0x112200, 21, 31, 31, true⟩])
        ∧ after r (.retirementWriteDone .p0 false) (fun t => t.fault.recordIndex = 31 && t.fault.pageSeq = 20
            && (t.scoreUnit .p0).flags = 4 && (t.writer .p0).retiredThrough = 20)) :=
  ⟨busy_carrying _ _, busy_carrying _ _, ⟨_, rfl, rfl, rfl⟩, by decide +kernel⟩

def withJobs (s : State) (jobs : List Job) : State := s.setRefresh { s.refresh with jobs }

theorem witness_RefreshJobsProceed :
    let timed (timer : Nat) : State := up.setRefresh { up.refresh with timer, period := 2 }
    let job : Job := ⟨.periodic, [], true⟩
    let now : Job := ⟨.now .p0, [], true⟩
    let h := busy (withJobs up [now, job]) .holds
    let m := busy (withJobs up [now, job]) .mirrors
    let n := busy (withJobs (executing up .slot1) [job, now]) (.nowHold .p0)
    Carrying h .holds ∧ Carrying m .mirrors ∧ Carrying n (.nowHold .p0)
      ∧ (8 * (timed 16).refresh.period ≤ (timed 16).refresh.timer
        ∧ after (timed 16) .refreshPeriodDue (fun t => t.refresh.timer = 0 && t.refresh.jobs = [⟨.periodic, [.holds], false⟩])
        ∧ after (withJobs (timed 16) [job]) .refreshPeriodDue (fun t => t.refresh.jobs = [job] && t.refresh.timer = 0)
        ∧ after (timed 15) .refreshPeriodDue (fun t => t = timed 15)
        ∧ after (timed 14) idleRound (fun t => t.refresh.timer = 15)
        ∧ after (timed 15) idleRound (fun t => t.refresh.timer = 0 && t.refresh.jobs = [⟨.periodic, [.holds], false⟩])
        ∧ after h (.holdReadDone (some 0)) (fun t =>
            t.refresh.jobs = [now, ⟨.periodic, [.board .p0, .board .p1, .mirrors], true⟩])
        ∧ after h (.holdReadDone (some 1)) (fun t => t.refresh.jobs = [now, ⟨.periodic, [.board .p1, .mirrors], true⟩])
        ∧ after h (.holdReadDone (some (1#64 <<< 63))) (fun t =>
            t.refresh.jobs = [now, ⟨.periodic, [.board .p0, .mirrors], true⟩])
        ∧ after h (.holdReadDone none) (fun t => t.refresh.jobs = [now, ⟨.periodic, [.mirrors], true⟩]
            && t.fault.kind = .busRead)
        ∧ after m (.mirrorWriteDone true) (fun t => t.refresh.jobs = [now] && t.notice = 8)
        ∧ after m (.mirrorWriteDone false) (fun t => t.refresh.jobs = [now] && t.notice = 0x28)
        ∧ (n.slot (slotOf .p0)).executing = some ⟨7, 0, 0, 0⟩
        ∧ after n (.nowHoldReadDone .p0 (some 1)) (fun t => t.refresh.jobs = [job]
            && t.work = [.completion .slot1 .busy 7 0])
        ∧ after n (.nowHoldReadDone .p0 (some 0)) (fun t => t.refresh.jobs = [job, ⟨.now .p0, [.board .p0], true⟩])
        ∧ after n (.nowHoldReadDone .p0 none) (fun t => t.refresh.jobs = [job] && t.fault.kind = .busRead
            && t.work = [.completion .slot1 .busFault 7 0])) :=
  ⟨busy_carrying _ _, busy_carrying _ _, busy_carrying _ _, by decide +kernel⟩

theorem witness_ScoreboardWritesEnd :
    let c (s : State) : State := s.setRefresh { s.refresh with carried := ⟨0x81, 0⟩ }
    let b := busy (c (withJobs (executing up .slot1) [⟨.periodic, [.mirrors], true⟩])) (.board .p0 6)
    let n := busy (c (withJobs (executing up .slot1) [⟨.periodic, [.holds], false⟩, ⟨.now .p0, [], true⟩])) (.board .p0 6)
    let f := busy (withJobs (executing { playing [] [] with
      sessions := ⟨{ session with state := .closing, waitingAbandon := some 7 }, Session.reset⟩,
      scores := ⟨Score.clear .aborted, Score.clear .none⟩,
      fetchers := ⟨{ Fetcher.reset with state := .ended, tracker := [⟨0, 1, 2, 2, false⟩] }, Fetcher.reset⟩ } .slot1)
      [⟨.final .p0, [], true⟩]) (.finalBoard .p0 9)
    Carrying b (.board .p0 6) ∧ Carrying n (.board .p0 6) ∧ Carrying f (.finalBoard .p0 9)
      ∧ (after b (.scoreboardWriteDone .p0 true) (fun t => t.refresh.carried = ⟨0, 0⟩ && (t.scoreUnit .p0).flags = 0
            && t.refresh.jobs = b.refresh.jobs && t.work = [])
        ∧ after b (.scoreboardWriteDone .p0 false) (fun t => (t.scoreUnit .p0).flags = 0x85 && t.fault.kind = .busWrite)
        ∧ (n.slot (slotOf .p0)).executing = some ⟨7, 0, 0, 0⟩
        ∧ after n (.scoreboardWriteDone .p0 true) (fun t => t.refresh.jobs = [⟨.periodic, [.holds], false⟩]
            && t.work = [.completion .slot1 .ok 7 6])
        ∧ after n (.scoreboardWriteDone .p0 false) (fun t => t.work = [.completion .slot1 .busFault 7 6])
        ∧ after f (.finalScoreboardWriteDone .p0 true) (fun t => (t.session .p0).state = .done && t.notice = 0x10
            && t.owner .pad0 = none && (t.fetcher .p0).state = .idle && (t.fetcher .p0).tracker = []
            && t.work = [.completion .slot1 .ok 7 3])
        ∧ after f (.finalScoreboardWriteDone .p0 false) (fun t => (t.session .p0).state = .done && t.notice = 0x30
            && (t.scoreUnit .p0).flags = 4)) :=
  ⟨busy_carrying _ _, busy_carrying _ _, busy_carrying _ _, by decide +kernel⟩

/-! ### Lamp Driver -/

/-- PAD0 of the example of chapter 9: panel 2 PRESS at 60, panel 4 STEADY at 30, flash length 400. -/
def lit : Pad :=
  let f : LampField := { mode := .press, level := 60, beat := true, grade := true, strike := true }
  let g : LampField := { mode := .steady, level := 30, beat := true, grade := false, strike := false }
  { active with
    profile := { profile with
      panelCount := 6,
      lamps := { panels := ((LampFields.unconfigured.panels.set 2 f).set 4 g), flashLength := 400 } } }

/-- The example of chapter 9: the beat of round 1000 and the press of round 1150, with panel 2 DOWN after it. -/
theorem test_lamp_example :
    let s := runs { padded with owners := ⟨some .p0, none⟩, pads := ⟨lit, Pad.reset⟩ } [idleRound]
    let beat := s.triggerBeat .p0 100
    let r := runs beat [idleRound]
    let hit := { r.trigger .p0 .grade 200 .pad0 2 with
      pads := ⟨{ lit with panels := lit.panels.set 2 { Panel.reset with state := .down, holdActive := true } }, Pad.reset⟩ }
    let h := runs (hit.trigger .p0 .grade 200 .pad0 4)
      [.roundStrobe ⟨Tab.fill 24 4000, Tab.fill 24 0⟩ ⟨[], [], .p0⟩]
    s.lamps.output.get 2 = 0 ∧ s.lamps.output.get 4 = 30
      ∧ r.lamps.output.get 2 = 100 ∧ r.lamps.output.get 4 = 100 ∧ (r.lamps.panel .pad0 2).remaining = 399
      ∧ h.lamps.panel .pad0 2 = ⟨60, 200, 399⟩ ∧ h.lamps.output.get 2 = 200 ∧ (h.lamps.panel .pad0 4).level = 100 := by
  decide +kernel

theorem witness_LampsShowBaseAndFlash :
    let s := { up with owners := ⟨some .p0, none⟩, pads := ⟨lit, Pad.reset⟩ }
    let l := s.setLamps { s.lamps with
      fields := ⟨lit.profile.lamps, LampFields.unconfigured⟩, enabled := true, output := (Tab.fill 12 0).set 2 255 }
    let flash (n : Nat) := l.setLamps (l.lamps.setPanel .pad0 2 ⟨7, 90, n⟩)
    l.owner .pad0 = some .p0 ∧ ((l.pad .pad0).panels.get 2).state ≠ .off
      ∧ ((l.lamps.fields.get .pad0).panels.get 2).beat = true ∧ (l.session .p0).state = .idle
      ∧ ((flash 1).trigger .p0 .beat 80 .pad0 2).lamps.panel .pad0 2 = ⟨7, 90, 400⟩
      ∧ (l.trigger .p0 .grade 80 .pad0 4) = l ∧ (l.trigger .p1 .beat 80 .pad0 2) = l
      ∧ after l .pwmPeriodStart (fun t => t.lampPin 2 254 && !t.lampPin 3 0)
      ∧ after up .pwmPeriodStart (fun t => !t.lampPin 2 0)
      ∧ ((flash 0).lamps.panel .pad0 2).remaining = 0
      ∧ after (flash 0) (.flashEnd .pad0 2) (fun t => t.lamps.panel .pad0 2 = ⟨7, 0, 0⟩ && t.lamps.output.get 2 = 7)
      ∧ after (flash 1) (.flashEnd .pad0 2) (fun t => t = flash 1)
      ∧ after (flash 1) idleRound (fun t => t.lamps.panel .pad0 2 = ⟨0, 0, 0⟩)
      ∧ after (flash 2) idleRound (fun t => t.lamps.panel .pad0 2 = ⟨0, 90, 1⟩ && t.lamps.output.get 2 = 90)
      ∧ (let t := (flash 1).triggerBeat .p0 80
        t.lamps.panel .pad0 2 = ⟨7, 90, 400⟩ ∧ t.lamps.panel .pad0 4 = ⟨0, 80, 400⟩ ∧ t.lamps.output.get 4 = 80
          ∧ t.lamps.panel .pad0 0 = ⟨0, 0, 0⟩ ∧ t.lamps.panel .pad1 2 = ⟨0, 0, 0⟩)
      ∧ lampOf .swapped .pad1 3 = 3 ∧ lampOf .swapped .pad0 3 = 9 := by decide +kernel

end Sys2Proof.Tests
end

namespace Sys2Proof.Machine

/-! ### The updates an inner step is made of

`Inner` of Laws/Frame.lean names what a judge's, a fetcher's or a closing's step keeps; event flags, notices, a decided
outcome, return states, pad states and the blocks of the other player are not among it. `Moves` keeps the updates themselves,
so that each such law is one induction over ten updates, and `Moves.inner` gives back all of `Inner`. -/

/-- A change of a Score Unit that keeps its laws, drops no event flag and leaves a decided outcome (R131, R132). -/
structure ScoreMove (a b : Score) : Prop where
  step : ScoreStep a b
  flags : ∀ i, a.flags.getLsbD i = true → b.flags.getLsbD i = true
  outcome : a.outcome ≠ .none → b.outcome = a.outcome

namespace ScoreMove

theorem refl (a : Score) : ScoreMove a a := ⟨.refl a, fun _ h => h, fun _ => rfl⟩

theorem trans {a b c : Score} (h : ScoreMove a b) (k : ScoreMove b c) : ScoreMove a c where
  step := h.step.trans k.step
  flags i x := k.flags i (h.flags i x)
  outcome x := by
    have e := h.outcome x
    rw [k.outcome (by rwa [e]), e]

/-- A change outside flags and outcome. -/
theorem of_same {a b : Score} (step : ScoreStep a b) (flags : b.flags = a.flags) (outcome : b.outcome = a.outcome) :
    ScoreMove a b := ⟨step, fun i h => by rwa [flags], fun _ => outcome⟩

theorem setFlag (c : Score) (f : BitVec 16) : ScoreMove c (c.setFlag f) :=
  ⟨.setFlag c f, fun i h => by simp [Score.setFlag, h], fun _ => rfl⟩

theorem countUnit (c : Score) (k : UnitCount) : ScoreMove c (c.countUnit k) := by
  have step := ScoreStep.countUnit c k
  unfold Score.countUnit at step ⊢
  split
  · exact setFlag c _
  · rw [if_neg ‹_›] at step
    exact of_same step (by cases k <;> rfl) (by cases k <;> rfl)

theorem countVoid (c : Score) : ScoreMove c c.countVoid := by
  have step := ScoreStep.countVoid c
  unfold Score.countVoid at step ⊢
  split
  · exact setFlag c _
  · rw [if_neg ‹_›] at step
    exact of_same step rfl rfl

theorem overrun (c : Score) (index : Nat) : ScoreMove c (c.overrun index) := by
  unfold Score.overrun
  split
  · exact setFlag c _
  · exact refl c

theorem addPoints (c : Score) (index fraction : Nat) : ScoreMove c (c.addPoints index fraction) :=
  of_same (.addPoints c index fraction) (by unfold Score.addPoints; split <;> rfl)
    (by unfold Score.addPoints; split <;> rfl)

theorem addLife (c : Score) (delta : Int) : ScoreMove c (c.addLife delta) :=
  of_same (.addLife c delta) (by unfold Score.addLife; split <;> rfl) (by unfold Score.addLife; split <;> rfl)

theorem addCombo (c : Score) (a : ComboAction) : ScoreMove c (c.addCombo a) := of_same (.addCombo c a) rfl rfl

theorem checkLife (c : Score) : ScoreMove c c.checkLife := by
  have step := ScoreStep.checkLife c
  unfold Score.checkLife at step ⊢
  split
  · exact refl c
  · rw [if_neg ‹_›] at step
    split
    · exact setFlag c _
    · rw [if_neg ‹_›] at step
      split
      · rename_i undecided
        rw [if_pos undecided] at step
        exact ⟨step, fun _ h => h, fun h => absurd undecided h⟩
      · exact refl c

theorem apply (c : Score) (x : Settlement) : ScoreMove c (c.apply x) := by
  cases x with
  | unit index count fraction delta action =>
    exact (countUnit c count).trans ((overrun _ index).trans ((addPoints _ index fraction).trans
      ((addLife _ delta).trans ((addCombo _ action).trans (checkLife _)))))
  | void index => exact (countVoid c).trans (overrun _ index)
  | struck delta =>
    exact (of_same (.countAvoid rfl) rfl rfl : ScoreMove c { c with struck := satAdd Config.top16 c.struck }).trans
      ((addLife _ delta).trans (checkLife _))
  | avoided =>
    exact (of_same (.countAvoid rfl) rfl rfl : ScoreMove c { c with avoided := satAdd Config.top16 c.avoided }).trans
      ((addLife _ 0).trans (checkLife _))

theorem takeOffset (c : Score) (d : Int) : ScoreMove c (c.takeOffset d) := of_same (.takeOffset c d) rfl rfl
theorem freeStep (c : Score) : ScoreMove c c.freeStep := of_same (.freeStep c) rfl rfl
theorem finalize (c : Score) : ScoreMove c c.finalize := of_same (.finalize c) rfl rfl
theorem setEnd (c : Score) (t : Option Int) : ScoreMove c { c with endTime := t } := of_same (.setEnd c t) rfl rfl
theorem assign (c : Score) : ScoreMove c c.assign := of_same (.assign c) rfl rfl

theorem recordFault (c : Score) : ScoreMove c c.recordFault :=
  ⟨.recordFault c, fun i h => by simp [Score.recordFault, Score.setFlag, h], fun _ => rfl⟩

theorem conclude (c : Score) (o : StageOutcome) (h : o = .failed → c.outcome = .failed) : ScoreMove c (c.conclude o) := by
  have step := ScoreStep.conclude c o h
  unfold Score.conclude at step ⊢
  split
  · rename_i undecided
    rw [if_pos undecided] at step
    exact ⟨step, fun _ h => h, fun h => absurd undecided h⟩
  · exact refl c

end ScoreMove

/-- What an inner step makes of a session: it may enter CLOSING, and PLAYING from ARMED (R12, R152). -/
structure SessionMove (a b : Session) : Prop where
  returns : b.returnState = a.returnState
  padSet : b.padSet = a.padSet
  state : b.state = a.state ∨ b.state = .closing ∨ (b.state = .playing ∧ a.state = .armed)

/-- `t` is reached from `s` by updates of the blocks of players in `P`, of lamps, pads, refresh jobs, faults and notices. -/
inductive Moves (P : Player → Prop) (s : State) : State → Prop where
  | refl : Moves P s s
  | setJudge {t : State} (h : Moves P s t) {pl : Player} (hp : P pl) (j : Judge)
      (k : j.pool.length = (t.judge pl).pool.length) : Moves P s (t.setJudge pl j)
  | setScore {t : State} (h : Moves P s t) {pl : Player} (hp : P pl) (c : Score) (k : ScoreMove (t.scoreUnit pl) c) :
      Moves P s (t.setScore pl c)
  | setSession {t : State} (h : Moves P s t) {pl : Player} (hp : P pl) (x : Session) (k : SessionMove (t.session pl) x)
      (song : x.state = .playing →
        (t.session pl).state = .playing ∨ t.clock.state = .running ∨ t.clock.state = .paused) :
      Moves P s (t.setSession pl x)
  | setFetcher {t : State} (h : Moves P s t) {pl : Player} (hp : P pl) (x : Fetcher) : Moves P s (t.setFetcher pl x)
  | setWriter {t : State} (h : Moves P s t) {pl : Player} (hp : P pl) (x : Writer) : Moves P s (t.setWriter pl x)
  | setRefresh {t : State} (h : Moves P s t) (x : Refresh) : Moves P s (t.setRefresh x)
  | setLamps {t : State} (h : Moves P s t) (x : Lamps) : Moves P s (t.setLamps x)
  | setPad {t : State} (h : Moves P s t) (i : PadId) (x : Pad) (k : x.state = (t.pad i).state) : Moves P s (t.setPad i x)
  | setFault {t : State} (h : Moves P s t) (x : FaultRecord) : Moves P s (t.setFault x)
  | raise {t : State} (h : Moves P s t) (b : BitVec 8) : Moves P s (t.raise b)

/-- The updates may be of either player. -/
abbrev Moved (s t : State) : Prop := Moves (fun _ => True) s t

namespace Moves

variable {P : Player → Prop} {s t : State} {pl : Player}

/-! ### What every chain of updates keeps -/

theorem inner (h : Moves P s t) : Inner s t := by
  induction h with
  | refl => exact .refl s
  | setJudge _ _ j k ih => exact ih.setJudge _ j k
  | setScore _ _ c k ih => exact ih.setScore _ c k.step
  | setSession _ _ x k song ih => exact ih.setSession _ x k.padSet song
  | setFetcher _ _ x ih => exact ih.setFetcher _ x
  | setWriter _ _ x ih => exact ih.setWriter _ x
  | setRefresh _ x ih => exact ih.setRefresh x
  | setLamps _ x ih => exact ih.setLamps x
  | setPad _ i x _ ih => exact ih.setPad i x
  | setFault _ x ih => exact ih.setFault x
  | raise _ b ih => exact ih.raise b

theorem trans {u : State} (h : Moves P s t) (k : Moves P t u) : Moves P s u := by
  induction k with
  | refl => exact h
  | setJudge _ hp j k ih => exact ih.setJudge hp j k
  | setScore _ hp c k ih => exact ih.setScore hp c k
  | setSession _ hp x k song ih => exact ih.setSession hp x k song
  | setFetcher _ hp x ih => exact ih.setFetcher hp x
  | setWriter _ hp x ih => exact ih.setWriter hp x
  | setRefresh _ x ih => exact ih.setRefresh x
  | setLamps _ x ih => exact ih.setLamps x
  | setPad _ i x k ih => exact ih.setPad i x k
  | setFault _ x ih => exact ih.setFault x
  | raise _ b ih => exact ih.raise b

/-- The moves of one Score Unit. -/
theorem score (h : Moves P s t) (q : Player) : ScoreMove (s.scoreUnit q) (t.scoreUnit q) := by
  induction h with
  | refl => exact .refl _
  | @setScore _ _ pl _ c k ih =>
    refine ih.trans ?_
    rw [State.scoreUnit_setScore]
    split
    · subst q; exact k
    · exact .refl _
  | _ => assumption

/-- A notice that is set stays set (R196). -/
theorem notice (h : Moves P s t) (i : Nat) (k : s.notice.getLsbD i = true) : t.notice.getLsbD i = true := by
  induction h with
  | refl => exact k
  | raise _ b ih => exact (BitVec.getLsbD_or).trans (by rw [ih]; rfl)
  | _ => assumption

theorem padState (h : Moves P s t) (i : PadId) : (t.pad i).state = (s.pad i).state := by
  induction h with
  | refl => rfl
  | setPad _ j x k ih =>
    rw [State.pad_setPad]
    split
    · subst i; exact k.trans ih
    · exact ih
  | _ => assumption

theorem returns (h : Moves P s t) (q : Player) : (t.session q).returnState = (s.session q).returnState := by
  induction h with
  | refl => rfl
  | setSession _ _ x k _ ih =>
    rw [State.session_setSession]
    split
    · subst q; exact k.returns.trans ih
    · exact ih
  | _ => assumption

/-- A player in a stage stays in it: PLAYING or CLOSING. -/
theorem staging (h : Moves P s t) (q : Player) (k : (s.session q).state ∈ [PlayerState.playing, .closing]) :
    (t.session q).state ∈ [PlayerState.playing, .closing] := by
  induction h with
  | refl => exact k
  | setSession _ _ x move _ ih =>
    rw [State.session_setSession]
    split
    · subst q
      rcases move.state with e | e | ⟨e, -⟩
      · rwa [e]
      · simp [e]
      · simp [e]
    · exact ih
  | _ => assumption

/-- A CLOSING player stays CLOSING. -/
theorem closing (h : Moves P s t) (q : Player) (k : (s.session q).state = .closing) : (t.session q).state = .closing := by
  induction h with
  | refl => exact k
  | setSession _ _ x move _ ih =>
    rw [State.session_setSession]
    split
    · subst q
      rcases move.state with e | e | ⟨-, e⟩
      · rwa [e]
      · exact e
      · rw [ih] at e; nomatch e
    · exact ih
  | _ => assumption

/-- The session and the Score Unit of a player outside `P` are left alone. -/
theorem others (h : Moves P s t) {q : Player} (k : ¬ P q) : t.session q = s.session q ∧ t.scoreUnit q = s.scoreUnit q := by
  induction h with
  | refl => exact ⟨rfl, rfl⟩
  | @setScore _ _ pl hp c _ ih =>
    refine ⟨ih.1, Eq.trans ?_ ih.2⟩
    rw [State.scoreUnit_setScore, if_neg]
    rintro rfl; exact k hp
  | @setSession _ _ pl hp c _ _ ih =>
    refine ⟨Eq.trans ?_ ih.1, ih.2⟩
    rw [State.session_setSession, if_neg]
    rintro rfl; exact k hp
  | _ => assumption

end Moves
end Sys2Proof.Machine

namespace Sys2Proof.Machine
namespace Moves

variable {P : Player → Prop} {s t : State} {pl : Player}

/-! ### Blocks, flags, faults and lamps -/

theorem onFetcher (h : Moves P s t) (hp : P pl) (f : Fetcher → Fetcher) : Moves P s (t.onFetcher pl f) := h.setFetcher hp _
theorem onWriter (h : Moves P s t) (hp : P pl) (f : Writer → Writer) : Moves P s (t.onWriter pl f) := h.setWriter hp _
theorem onJudge (h : Moves P s t) (hp : P pl) (f : Judge → Judge)
    (k : (f (t.judge pl)).pool.length = (t.judge pl).pool.length) : Moves P s (t.onJudge pl f) := h.setJudge hp _ k
theorem onScore (h : Moves P s t) (hp : P pl) (f : Score → Score) (k : ∀ c, ScoreMove c (f c)) :
    Moves P s (t.onScore pl f) := h.setScore hp _ (k _)
theorem onPanel (h : Moves P s t) (pad : PadId) (p : PanelId) (f : Panel → Panel) : Moves P s (t.onPanel pad p f) :=
  h.setPad pad _ rfl
theorem onEntry (h : Moves P s t) (hp : P pl) (i : Nat) (f : Entry → Entry) : Moves P s (t.onEntry pl i f) :=
  h.onJudge hp _ (List.length_modify _ _ _)
theorem setChord (h : Moves P s t) (hp : P pl) (k : Fin 8) (c : Option Chord) : Moves P s (t.setChord pl k c) :=
  h.onJudge hp _ rfl

theorem foldl {α : Type} (f : State → α → State) (step : ∀ t a, Moves P s t → Moves P s (f t a)) (l : List α) :
    ∀ t, Moves P s t → Moves P s (l.foldl f t) := by
  induction l with
  | nil => exact fun _ h => h
  | cons a l ih => exact fun t h => ih _ (step t a h)

theorem logFaultAt (h : Moves P s t) (k : FaultKind) (q : Option Player) (a b : Nat) (v : Int) :
    Moves P s (t.logFaultAt k q a b v) := (h.setFault _).raise _
theorem logFault (h : Moves P s t) (k : FaultKind) (q : Option Player) (a b : Nat) : Moves P s (t.logFault k q a b) :=
  h.logFaultAt k q a b _
theorem flag (h : Moves P s t) (hp : P pl) (f : BitVec 16) : Moves P s (t.flag pl f) := h.setScore hp _ (.setFlag _ f)
theorem settle (h : Moves P s t) (hp : P pl) (x : Settlement) : Moves P s (t.settle pl x) :=
  h.onScore hp _ (fun c => .apply c x)

theorem trigger (h : Moves P s t) (k : Trigger) (level : Nat) (pad : PadId) (p : PanelId) :
    Moves P s (t.trigger pl k level pad p) := by
  unfold State.trigger; split
  exacts [h.setLamps _, h]

theorem triggerBeat (h : Moves P s t) (level : Nat) : Moves P s (t.triggerBeat pl level) :=
  foldl _ (fun _ _ k => k.trigger .beat level _ _) _ _ h

theorem triggerLane (h : Moves P s t) (k : Trigger) (level lane : Nat) : Moves P s (t.triggerLane pl k level lane) := by
  unfold State.triggerLane; split
  exacts [h, h.trigger ..]

theorem markHold (h : Moves P s t) (lane : Nat) (on : Bool) : Moves P s (t.markHold pl lane on) := by
  unfold State.markHold; split
  exacts [h, h.onPanel ..]

/-! ### Entries, lists and chords (Judge.lean) -/

theorem reportRoom (h : Moves P s t) (hp : P pl) (lane : Option Nat) : Moves P s (t.reportRoom pl lane) := h.onFetcher hp _
theorem makeFinal (h : Moves P s t) (hp : P pl) (i : Nat) : Moves P s (t.makeFinal pl i) := (h.onEntry hp i _).onWriter hp _
theorem leaveLane (h : Moves P s t) (hp : P pl) (i : Nat) : Moves P s (t.leaveLane pl i) :=
  (h.onJudge hp _ (congrArg List.length (Inner.dropFromLane_pool _ _ _))).reportRoom hp _
theorem leaveBeats (h : Moves P s t) (hp : P pl) (i : Nat) : Moves P s (t.leaveBeats pl i) :=
  (h.onJudge hp _ rfl).reportRoom hp none

theorem finishMember (h : Moves P s t) (hp : P pl) (i : Nat) : Moves P s (t.finishMember pl i) := by
  unfold State.finishMember; split
  exacts [h.makeFinal hp i, h]

theorem settleChord (h : Moves P s t) (hp : P pl) (k : Fin 8) : Moves P s (t.settleChord pl k) := by
  unfold State.settleChord; split
  · exact h
  · refine ((foldl _ (fun _ _ k => k.onEntry hp _ _) _ _ ?_).setChord hp k none).reportRoom hp none
    refine foldl _ (fun _ _ k => k.finishMember hp _) _ _ ?_
    exact foldl _ (fun _ _ k => k.onEntry hp _ _) _ _ (h.settle hp _)

theorem settleChordIfComplete (h : Moves P s t) (hp : P pl) (k : Fin 8) : Moves P s (t.settleChordIfComplete pl k) := by
  unfold State.settleChordIfComplete; split
  · exact h
  · split
    exacts [h.settleChord hp k, h]

theorem reportGrade (h : Moves P s t) (hp : P pl) (k : Fin 8) (g : Grade) : Moves P s (t.reportGrade pl k g) := by
  unfold State.reportGrade; split
  exacts [h, (h.setChord hp k _).settleChordIfComplete hp k]

theorem settleUnitOf (h : Moves P s t) (hp : P pl) (u : Option Nat) (g : Grade) : Moves P s (t.settleUnitOf pl u g) := by
  unfold State.settleUnitOf; split
  exacts [h, h.settle hp _]

theorem finishTap (h : Moves P s t) (hp : P pl) (i : Nat) : Moves P s (t.finishTap pl i) := by
  unfold State.finishTap; dsimp only; split
  · exact (((h.leaveLane hp i).onEntry hp i _).makeFinal hp i).settleUnitOf hp _ _
  · exact ((h.leaveLane hp i).onEntry hp i _).reportGrade hp _ _

theorem settleHead (h : Moves P s t) (hp : P pl) (i : Nat) : Moves P s (t.settleHead pl i) := by
  unfold State.settleHead; dsimp only; split
  · exact (h.onEntry hp i _).settleUnitOf hp _ _
  · exact h.reportGrade hp _ _

theorem settleTail (h : Moves P s t) (hp : P pl) (u : Option Nat) (held : Bool) (delta : Int) :
    Moves P s (t.settleTail pl u held delta) := by
  unfold State.settleTail; split
  exacts [h, h.settle hp _]

theorem finalOrJudged (h : Moves P s t) (hp : P pl) (i : Nat) : Moves P s (t.finalOrJudged pl i) := by
  unfold State.finalOrJudged; split
  exacts [h.makeFinal hp i, h.onEntry hp i _]

theorem completeTail (h : Moves P s t) (hp : P pl) (i : Nat) (held : Bool) : Moves P s (t.completeTail pl i held) :=
  ((((h.onEntry hp i _).settleTail hp _ held _).markHold _ false).leaveLane hp i).finalOrJudged hp i

theorem enterHeld (h : Moves P s t) (hp : P pl) (i : Nat) : Moves P s (t.enterHeld pl i) := by
  have held := fun lane => (h.onEntry hp i (fun e => { e with state := .held, slip := none })).markHold (pl := pl) lane true
  unfold State.enterHeld; dsimp only; split
  exacts [(held _).completeTail hp i true, held _]

theorem endSlip (h : Moves P s t) (hp : P pl) (i : Nat) (q : Int) : Moves P s (t.endSlip pl i q) := h.completeTail hp i _
theorem slipAt (h : Moves P s t) (hp : P pl) (i : Nat) (q : Int) (forced : Bool) : Moves P s (t.slipAt pl i q forced) :=
  h.onEntry hp i _

theorem slipHold (h : Moves P s t) (hp : P pl) (i : Nat) (q : Int) (forced : Bool) :
    Moves P s (t.slipHold pl i q forced) := by
  have slipped := h.slipAt hp i q forced
  unfold State.slipHold; dsimp only; split
  · exact slipped
  · split
    exacts [slipped.endSlip hp i q, slipped]

theorem gradeEntry (h : Moves P s t) (hp : P pl) (i : Nat) (d : Int) : Moves P s (t.gradeEntry pl i d) := by
  have graded := fun g level lane => ((h.onEntry hp i (fun e => { e with own := g, offset := d })).onScore hp _
    (fun c => .takeOffset c d)).triggerLane (pl := pl) .grade level lane
  unfold State.gradeEntry; dsimp only; split
  · exact (((graded _ _ _).onEntry hp i _).settleHead hp i).enterHeld hp i
  · exact (graded _ _ _).finishTap hp i

theorem lapseEntry (h : Moves P s t) (hp : P pl) (i : Nat) : Moves P s (t.lapseEntry pl i) := by
  have lapsed := h.onEntry hp i (fun e => { e with own := .lapse, offset := 0 })
  unfold State.lapseEntry; dsimp only; split
  · exact ((((lapsed.leaveLane hp i).settleHead hp i).onEntry hp i _).settleTail hp _ false 0).finalOrJudged hp i
  · exact lapsed.finishTap hp i

theorem strikeEntry (h : Moves P s t) (hp : P pl) (i : Nat) (d : Int) : Moves P s (t.strikeEntry pl i d) :=
  ((((h.onEntry hp i _).leaveLane hp i).makeFinal hp i).settle hp _).triggerLane .strike 255 _

theorem avoidEntry (h : Moves P s t) (hp : P pl) (i : Nat) : Moves P s (t.avoidEntry pl i) :=
  (((h.onEntry hp i _).leaveLane hp i).makeFinal hp i).settle hp .avoided

theorem crossEntry (h : Moves P s t) (hp : P pl) (i : Nat) (p : PanelState) : Moves P s (t.crossEntry pl i p) := by
  unfold State.crossEntry; split
  exacts [h.strikeEntry hp i 0, h.onEntry hp i _]

theorem passBeat (h : Moves P s t) (hp : P pl) (i : Nat) : Moves P s (t.passBeat pl i) :=
  (((h.onEntry hp i _).makeFinal hp i).leaveBeats hp i).triggerBeat _

/-! ### Closing (Closing.lean) -/

theorem freeEntry (h : Moves P s t) (hp : P pl) (i : Nat) : Moves P s (t.freeEntry pl i) := h.onEntry hp i _

theorem returnReserved (h : Moves P s t) (hp : P pl) : Moves P s (t.returnReserved pl) := by
  unfold State.returnReserved; split
  exacts [h, (h.freeEntry hp _).onFetcher hp _]

theorem stopFetcher (h : Moves P s t) (hp : P pl) : Moves P s (t.stopFetcher pl) := (h.returnReserved hp).onFetcher hp _

theorem voidChord (h : Moves P s t) (hp : P pl) (k : Fin 8) : Moves P s (t.voidChord pl k) := by
  unfold State.voidChord; split
  exacts [h, (foldl _ (fun _ _ k => k.onEntry hp _ _) _ _ (h.settle hp _)).setChord hp k none]

theorem voidUnit (h : Moves P s t) (hp : P pl) (u : Option Nat) : Moves P s (t.voidUnit pl u) := by
  unfold State.voidUnit; split
  exacts [h, h.settle hp _]

theorem dropEntry (h : Moves P s t) (hp : P pl) (i lane : Nat) :
    Moves P s (((t.onEntry pl i (fun e => { e with chord := none })).onJudge pl (fun j =>
      { j.dropFromLane lane i with beats := j.beats.erase i })).makeFinal pl i) :=
  ((h.onEntry hp i _).onJudge hp _ (congrArg List.length (Inner.dropFromLane_pool _ _ _))).makeFinal hp i

theorem finishEntry (h : Moves P s t) (hp : P pl) (i : Nat) : Moves P s (t.finishEntry pl i) := by
  have cut := fun unit => (h.onEntry hp i (fun e => { e with tail := .cut })).voidUnit hp unit
  have void := h.onEntry hp i (fun e => { e with own := .void, offset := 0 })
  unfold State.finishEntry; dsimp only; split
  · refine dropEntry ?_ hp i _
    split <;> split
    · exact (((void.onEntry hp i _).voidUnit hp _).onEntry hp i _).voidUnit hp _
    · exact (void.onEntry hp i _).voidUnit hp _
    · exact (void.onEntry hp i _).voidUnit hp _
    · exact void
  · exact dropEntry (h.onEntry hp i _) hp i _
  · exact dropEntry (h.onEntry hp i _) hp i _
  · exact dropEntry ((cut _).markHold _ false) hp i _
  · exact dropEntry ((cut _).markHold _ false) hp i _
  · exact dropEntry h hp i _
  · exact h

theorem finishEntries (h : Moves P s t) (hp : P pl) : Moves P s (t.finishEntries pl) :=
  foldl _ (fun _ _ k => k.finishEntry hp _) _ _ (foldl _ (fun _ _ k => k.voidChord hp _) _ _ h)

theorem askFinal (h : Moves P s t) (hp : P pl) : Moves P s (t.askFinal pl) := by
  unfold State.askFinal; split
  · exact (h.setSession hp { t.session pl with finalAsked := true } ⟨rfl, rfl, .inl rfl⟩ .inl).setRefresh _
  · exact h

theorem concluded (h : Moves P s t) (hp : P pl) (o : StageOutcome) (k : o = .failed → (t.scoreUnit pl).outcome = .failed) :
    Moves P s ((t.onScore pl (fun c => c.conclude o)).onSession pl
      (fun x => { x with state := .closing, finalAsked := false })) :=
  (h.setScore hp _ (.conclude _ o k)).setSession hp _ ⟨rfl, rfl, .inr (.inl rfl)⟩ (fun e => nomatch e)

theorem enterClosing (h : Moves P s t) (hp : P pl) (o : StageOutcome)
    (k : o = .failed → (t.scoreUnit pl).outcome = .failed) : Moves P s (t.enterClosing pl o) :=
  (((h.concluded hp o k).stopFetcher hp).finishEntries hp).askFinal hp

theorem endJudgeStep (h : Moves P s t) (hp : P pl) : Moves P s (t.endJudgeStep pl) := by
  unfold State.endJudgeStep; split
  · rename_i failed
    exact h.enterClosing hp .failed (fun _ => failed.2)
  · exact h

theorem clearingCheck (h : Moves P s t) (hp : P pl) : Moves P s (t.clearingCheck pl) := by
  unfold State.clearingCheck; split
  · exact h
  · split
    exacts [h.enterClosing hp .cleared (fun e => nomatch e), h]

/-! ### Presses, releases and due times (Matching.lean) -/

theorem testAvoid (h : Moves P s t) (hp : P pl) (p : Int) (i : Nat) : Moves P s (t.testAvoid pl p i) := by
  unfold State.testAvoid; dsimp only; split
  exacts [h.strikeEntry hp i _, h]

theorem freeStep (h : Moves P s t) (hp : P pl) : Moves P s (t.onScore pl Score.freeStep) := h.onScore hp _ .freeStep

theorem matchOrFree (h : Moves P s t) (hp : P pl) (l : Nat) (p : Int) : Moves P s (t.matchOrFree pl l p) := by
  have tested := foldl (s := s) (fun t i => t.testAvoid pl p i) (fun _ _ k => k.testAvoid hp p _) ((t.judge pl).lane l) t h
  unfold State.matchOrFree; dsimp only; split
  exacts [tested.gradeEntry hp _ _, tested.freeStep hp]

theorem usePress (h : Moves P s t) (hp : P pl) (l : Nat) (p : Int) : Moves P s (t.usePress pl l p) := by
  unfold State.usePress; split
  · split
    exacts [h.enterHeld hp _, h.matchOrFree hp l p]
  · exact h.matchOrFree hp l p

theorem judgePress (h : Moves P s t) (hp : P pl) (pad : PadId) (p : PanelId) (stamp : Int) :
    Moves P s (t.judgePress pl pad p stamp) := by
  unfold State.judgePress; split
  · exact h
  · split
    · split
      exacts [(h.usePress hp _ stamp).endJudgeStep hp, h.freeStep hp, h]
    · exact h

theorem judgeRelease (h : Moves P s t) (hp : P pl) (pad : PadId) (p : PanelId) (stamp : Int) (forced : Bool) :
    Moves P s (t.judgeRelease pl pad p stamp forced) := by
  unfold State.judgeRelease; split
  · exact h
  · split
    · split
      exacts [h, (h.slipHold hp _ stamp forced).endJudgeStep hp]
    · exact h

theorem serveDue (h : Moves P s t) (hp : P pl) (seen : PerPad Pad) (i : Nat) : Moves P s (t.serveDue seen pl i) := by
  unfold State.serveDue; dsimp only; split
  · exact h.lapseEntry hp i
  · exact h.passBeat hp i
  · split
    exacts [h.avoidEntry hp i, h.crossEntry hp i _]
  · exact h.completeTail hp i true
  · split
    exacts [h, h.endSlip hp i _]
  · exact h

theorem serveDues (hp : P pl) (seen : PerPad Pad) (v : Int) (fuel : Nat) :
    ∀ t, Moves P s t → Moves P s (t.serveDues seen pl v fuel) := by
  induction fuel with
  | zero => exact fun _ h => h
  | succ n ih =>
    intro t h
    unfold State.serveDues; split
    · split
      exacts [h, ih _ ((h.serveDue hp seen _).endJudgeStep hp)]
    · exact h

theorem handOver (h : Moves P s t) (hp : P pl) (seen : PerPad Pad) (v : Int) : Moves P s (t.handOver seen pl v) :=
  ((serveDues hp seen v _ _ (h.onJudge hp (fun j => { j with judged := v, serving := true }) rfl)).onJudge hp
    (fun j => { j with serving := false }) rfl).clearingCheck hp

/-- The dues of a player that has just become PLAYING, and its clearing check (R12, R133). -/
theorem playOn (h : Moves P s t) (hp : P pl) (seen : PerPad Pad) (v : Int) (fuel : Nat) :
    Moves P s ((t.serveDues seen pl v fuel).clearingCheck pl) := (serveDues hp seen v fuel t h).clearingCheck hp

theorem becomePlaying (h : Moves P s t) (hp : P pl) (armed : (t.session pl).state = .armed)
    (k : t.clock.state = .running ∨ t.clock.state = .paused) : Moves P s (t.becomePlaying pl) :=
  (h.setSession hp { t.session pl with state := .playing } ⟨rfl, rfl, .inr (.inr ⟨rfl, armed⟩)⟩
    (fun _ => .inr k)).playOn hp _ _ _

theorem reconcileEntry (h : Moves P s t) (hp : P pl) (i : Nat) : Moves P s (t.reconcileEntry pl i) := by
  unfold State.reconcileEntry; dsimp only; split
  · split
    exacts [h, h.slipAt hp i _ false]
  · split
    exacts [h.enterHeld hp i, h]
  · exact h

theorem reconcile (h : Moves P s t) (hp : P pl) : Moves P s (t.reconcile pl) := by
  unfold State.reconcile; split
  exacts [(foldl _ (fun _ _ k => k.reconcileEntry hp _) _ _ h).endJudgeStep hp, h]

theorem abortIfPlaying (h : Moves P s t) (hp : P pl) : Moves P s (t.abortIfPlaying pl) := by
  unfold State.abortIfPlaying; split
  exacts [h.enterClosing hp .aborted (fun e => nomatch e), h]

/-! ### The fetcher (Fetcher.lean) -/

theorem askHeader (h : Moves P s t) (hp : P pl) : Moves P s (t.askHeader pl) := by
  unfold State.askHeader; dsimp only; split
  exacts [h.onFetcher hp _, h]

theorem reserveNext (h : Moves P s t) (hp : P pl) : Moves P s (t.reserveNext pl) := by
  unfold State.reserveNext; dsimp only; split
  · split
    exacts [h, (h.onEntry hp _ _).onFetcher hp _]
  · exact h

theorem askPoll (h : Moves P s t) (hp : P pl) : Moves P s (t.askPoll pl) := by
  unfold State.askPoll; dsimp only; split
  · split
    exacts [h.onFetcher hp _, h.onFetcher hp _, h]
  · exact h

theorem pollRound (h : Moves P s t) (hp : P pl) : Moves P s (t.pollRound pl) := by
  unfold State.pollRound; dsimp only; split
  exacts [(h.onFetcher hp _).askPoll hp, h]

theorem structuralFault (h : Moves P s t) (hp : P pl) (k : FaultKind) (a b : Nat) :
    Moves P s (t.structuralFault pl k a b) :=
  (((h.returnReserved hp).onFetcher hp _).logFault k _ a b).enterClosing hp .faulted (fun e => nomatch e)

theorem continueFetch (h : Moves P s t) (hp : P pl) : Moves P s (t.continueFetch pl) := by
  unfold State.continueFetch; dsimp only; split
  · split
    · exact (h.onFetcher hp _).reserveNext hp
    · split
      exacts [h.onFetcher hp _, h.onFetcher hp _]
  · exact h

theorem takeRecord (h : Moves P s t) (hp : P pl) : Moves P s (t.takeRecord pl) :=
  ((h.onFetcher hp _).endJudgeStep hp).continueFetch hp

theorem voidRecord (h : Moves P s t) (hp : P pl) (i : Nat) (k : FaultKind) : Moves P s (t.voidRecord pl i k) :=
  ((((h.onEntry hp i _).makeFinal hp i).logFault k _ _ _).onScore hp _ .recordFault).takeRecord hp

theorem closeShort (h : Moves P s t) (hp : P pl) (a : Assembly) : Moves P s (t.closeShort pl a) := by
  unfold State.closeShort; dsimp only; split
  · exact h
  · refine ((((foldl _ (fun _ _ k => k.onEntry hp _ _) _ _ ?_).logFault .chordShort _ _ _).onScore hp _
      .recordFault).onFetcher hp _).settleChordIfComplete hp a.chord
    exact h.setChord hp a.chord _

theorem assemblyTest (h : Moves P s t) (hp : P pl) (r : NoteRecord) : Moves P s (t.assemblyTest pl r) := by
  unfold State.assemblyTest; split
  · exact h
  · split
    exacts [h.closeShort hp _, h]

theorem bumpUnit (h : Moves P s t) (hp : P pl) : Moves P s (t.bumpUnit pl) := by
  unfold State.bumpUnit; split
  exacts [(h.onFetcher hp _).onScore hp _ .assign, h]

theorem numberHead (h : Moves P s t) (hp : P pl) (i : Nat) (r : NoteRecord) : Moves P s (t.numberHead pl i r) := by
  unfold State.numberHead; dsimp only; split
  · exact (h.onEntry hp i _).bumpUnit hp
  · split
    · split
      exacts [h, (((h.setChord hp _ _).onFetcher hp _).onEntry hp i _).bumpUnit hp]
    · split
      exacts [h, ((h.setChord hp _ _).onFetcher hp _).onEntry hp i _]

theorem numberTail (h : Moves P s t) (hp : P pl) (i : Nat) (r : NoteRecord) : Moves P s (t.numberTail pl i r) := by
  unfold State.numberTail; split
  exacts [(h.onEntry hp i _).bumpUnit hp, h]

theorem joinLane_pool (j : Judge) (lane i : Nat) : (j.joinLane lane i).pool = j.pool := by
  unfold Judge.joinLane; split <;> rfl

theorem place (h : Moves P s t) (hp : P pl) (i : Nat) (st : EntryState) : Moves P s (t.place pl i st) :=
  (h.onEntry hp i _).onJudge hp (fun j => j.joinLane (t.entry pl i).record.lane i)
    (congrArg List.length (joinLane_pool _ _ _))

theorem starve (h : Moves P s t) (hp : P pl) : Moves P s (t.starve pl) := by
  unfold State.starve; dsimp only; split
  exacts [h.flag hp _, ((h.flag hp _).logFault .starved _ _ _).onFetcher hp _]

theorem voidLateNote (h : Moves P s t) (hp : P pl) (i : Nat) : Moves P s (t.voidLateNote pl i) := by
  unfold State.voidLateNote; dsimp only; split
  · exact ((((((h.onEntry hp i _).onEntry hp i _).makeFinal hp i).voidUnit hp _)).voidUnit hp _).starve hp
  · exact ((((h.onEntry hp i _).onEntry hp i _).reportGrade hp _ .void).voidUnit hp _).starve hp

theorem takeNote (h : Moves P s t) (hp : P pl) (i : Nat) (r : NoteRecord) (late : Bool) :
    Moves P s (t.takeNote pl i r late) := by
  have numbered := (h.numberHead hp i r).numberTail hp i r
  unfold State.takeNote; dsimp only; split
  exacts [numbered.voidLateNote hp i, numbered.place hp i .waiting]

theorem voidLateAvoid (h : Moves P s t) (hp : P pl) (i : Nat) : Moves P s (t.voidLateAvoid pl i) :=
  ((h.onEntry hp i _).makeFinal hp i).starve hp

theorem passLateBeat (h : Moves P s t) (hp : P pl) (i : Nat) : Moves P s (t.passLateBeat pl i) :=
  (h.onEntry hp i _).makeFinal hp i

theorem placeBeat (h : Moves P s t) (hp : P pl) (i : Nat) : Moves P s (t.placeBeat pl i) :=
  (h.onEntry hp i _).onJudge hp _ rfl

theorem takeEnd (h : Moves P s t) (hp : P pl) (i : Nat) (r : NoteRecord) : Moves P s (t.takeEnd pl i r) :=
  (((((h.onEntry hp i _).makeFinal hp i).onScore hp _ (fun c => .setEnd c _)).onFetcher hp _).endJudgeStep hp).clearingCheck
    hp

theorem takeAccepted (h : Moves P s t) (hp : P pl) (i : Nat) (r : NoteRecord) (late : Bool) :
    Moves P s (t.takeAccepted pl i r late) := by
  have numbered := h.onEntry hp i (fun e => { e with chartNo := (t.fetcher pl).recordsTaken })
  unfold State.takeAccepted; dsimp only; split
  · exact (numbered.takeNote hp i r late).takeRecord hp
  · exact (numbered.takeNote hp i r late).takeRecord hp
  · split
    exacts [(numbered.voidLateAvoid hp i).takeRecord hp, (numbered.place hp i .watching).takeRecord hp]
  · split
    exacts [(numbered.passLateBeat hp i).takeRecord hp, (numbered.placeBeat hp i).takeRecord hp]
  · exact numbered.takeEnd hp i r
  · exact numbered

theorem stall (h : Moves P s t) (hp : P pl) (r : NoteRecord) : Moves P s (t.stall pl r) :=
  (h.onFetcher hp _).endJudgeStep hp

theorem dealRecord (h : Moves P s t) (hp : P pl) (i : Nat) : Moves P s (t.dealRecord pl i) := by
  unfold State.dealRecord; dsimp only; split
  exacts [h.stall hp _, h.takeAccepted hp i _ _]

theorem acceptRecord (h : Moves P s t) (hp : P pl) (i : Nat) (r : NoteRecord) : Moves P s (t.acceptRecord pl i r) := by
  unfold State.acceptRecord; dsimp only; split
  · exact (h.onEntry hp i _).voidRecord hp i _
  · exact ((((h.onEntry hp i _).onEntry hp i _).onFetcher hp _).assemblyTest hp _).dealRecord hp i

theorem endRead (h : Moves P s t) (hp : P pl) (deal : State → State) (k : ∀ u, Moves P s u → Moves P s (deal u)) :
    Moves P s (t.endRead pl deal) := by
  unfold State.endRead; split
  · exact h
  · dsimp only; split
    exacts [(h.onFetcher hp _).askFinal hp, k _ (h.onFetcher hp _)]

theorem headerRead (h : Moves P s t) (hp : P pl) (reply : Option (BitVec 128)) : Moves P s (t.headerRead pl reply) := by
  unfold State.headerRead; dsimp only; split
  · exact h.structuralFault hp _ _ _
  · split
    exacts [h.structuralFault hp _ _ _, (h.onFetcher hp _).reserveNext hp]

theorem rereadHeader (h : Moves P s t) (hp : P pl) (reply : Option (BitVec 128)) :
    Moves P s (t.rereadHeader pl reply) := by
  unfold State.rereadHeader; dsimp only; split
  · exact h.structuralFault hp _ _ _
  · split
    · exact h.structuralFault hp _ _ _
    · split
      exacts [h.onFetcher hp _, (h.onFetcher hp _).reserveNext hp]

theorem linkRead (h : Moves P s t) (hp : P pl) (reply : Option (BitVec 32)) : Moves P s (t.linkRead pl reply) := by
  unfold State.linkRead; dsimp only; split
  · exact h.structuralFault hp _ _ _
  · split
    · exact h.onFetcher hp _
    · split
      exacts [(h.onFetcher hp _).askHeader hp, h.structuralFault hp _ _ _]

theorem recordRead (h : Moves P s t) (hp : P pl) (reply : Option (BitVec 128)) : Moves P s (t.recordRead pl reply) := by
  unfold State.recordRead; dsimp only; split
  · exact h.structuralFault hp _ _ _
  · split
    exacts [h, h.acceptRecord hp _ _]

theorem retryStalled (h : Moves P s t) (hp : P pl) : Moves P s (t.retryStalled pl) := by
  unfold State.retryStalled; dsimp only; split
  · exact h
  · split
    exacts [(h.onFetcher hp _).dealRecord hp _, h]

/-! ### The Write-back Unit (WriteBack.lean) -/

theorem retirementCheck (h : Moves P s t) (hp : P pl) : Moves P s (t.retirementCheck pl) := by
  unfold State.retirementCheck; split
  · exact h
  · split
    exacts [h.onWriter hp _, h]

theorem writeLost (h : Moves P s t) (hp : P pl) (a b : Nat) : Moves P s (t.writeLost pl a b) :=
  (h.logFault .busWrite _ a b).flag hp _

theorem resultWritten (h : Moves P s t) (hp : P pl) (i : Nat) : Moves P s (t.resultWritten pl i) :=
  ((((((h.onWriter hp _).freeEntry hp i).onFetcher hp _).onScore hp _ .finalize).retirementCheck hp).clearingCheck
    hp).askFinal hp

theorem resultLost (h : Moves P s t) (hp : P pl) (i : Nat) : Moves P s (t.resultLost pl i) :=
  (h.writeLost hp _ _).resultWritten hp i

theorem pageRetired (h : Moves P s t) (hp : P pl) (seq : Nat) : Moves P s (t.pageRetired pl seq) :=
  (((h.onFetcher hp _).onWriter hp _).retirementCheck hp).askFinal hp

theorem retirementLost (h : Moves P s t) (hp : P pl) (seq : Nat) : Moves P s (t.retirementLost pl seq) :=
  (h.writeLost hp seq _).pageRetired hp seq

end Moves

/-! ### Both players, and Pad Sense's events (Pads.lean) -/

namespace Moves

variable {s t : State}

theorem flagBoth (h : Moved s t) (f : BitVec 16) : Moved s (t.flagBoth f) := (h.flag trivial f).flag trivial f
theorem reportSync (h : Moved s t) (f : BitVec 16) : Moved s (t.reportSync f) := (h.raise _).flagBoth f

theorem flagOwner (h : Moved s t) (pad : PadId) (f : BitVec 16) : Moved s (t.flagOwner pad f) := by
  unfold State.flagOwner; split
  exacts [h, h.flag trivial f]

theorem handToBoth (h : Moved s t) (first : Player) : Moved s (t.handToBoth first) :=
  (h.handOver trivial _ _).handOver trivial _ _

theorem emitAll (h : Moved s t) (pad : PadId) (p : PanelId) (e : Option PadEvent) : Moved s (t.emitAll pad p e) := by
  match e with
  | none => exact h
  | some (.press stamp) =>
    unfold State.emitAll State.emit; dsimp only; split
    exacts [h, h.judgePress trivial pad p stamp]
  | some (.release stamp forced) =>
    have flagged : Moved s (if forced then t.flagOwner pad flagForcedRelease else t) := by
      split
      exacts [h.flagOwner pad _, h]
    unfold State.emitAll State.emit; dsimp only; split
    exacts [flagged, flagged.judgeRelease trivial pad p stamp forced]

/-- R22, R30: what a round makes of baselines leaves the pad's state. -/
theorem state_afterPanel (x : Pad) (p : PanelId) (r : PanelRound) : (x.afterPanel p r).state = x.state := by
  unfold Pad.afterPanel; dsimp only; split
  · rfl
  · split <;> rfl

theorem applyRound (h : Moved s t) (pad : PadId) (p : PanelId) (r : PanelRound) : Moved s (t.applyRound pad p r) :=
  (h.setPad pad _ (state_afterPanel _ p r)).emitAll pad p _

theorem roundPanel (h : Moved s t) (pad : PadId) (p : PanelId) (stamp : Int) : Moved s (t.roundPanel pad p stamp) := by
  unfold State.roundPanel; split
  exacts [h.applyRound pad p _, h]

theorem killIfDead (h : Moved s t) (pad : PadId) (p : PanelId) (stamp : Int) : Moved s (t.killIfDead pad p stamp) := by
  unfold State.killIfDead; dsimp only; split
  exacts [(h.setPad pad _ (by rfl)).emitAll pad p _, h]

theorem reviveIfAlive (h : Moved s t) (pad : PadId) (p : PanelId) : Moved s (t.reviveIfAlive pad p) := by
  unfold State.reviveIfAlive; dsimp only; split
  exacts [h.setPad pad _ rfl, h]

theorem onSensor (h : Moved s t) (c : SensorName) (f : Sensor → Sensor) : Moved s (t.onSensor c f) := h.setPad c.pad _ rfl

theorem failSensor (h : Moved s t) (c : SensorName) : Moved s (t.failSensor c) :=
  (((h.onSensor c _).raise noticeSensor).flagOwner c.pad flagSensorChange).logFault .sensorFail _ _ _

theorem recoverSensor (h : Moved s t) (c : SensorName) : Moved s (t.recoverSensor c) :=
  ((h.onSensor c _).raise noticeSensor).flagOwner c.pad flagSensorChange

theorem healthStep (h : Moved s t) (c : SensorName) : Moved s (t.healthStep c) := by
  have counted := h.onSensor c Sensor.countRun
  unfold State.healthStep; dsimp only; split
  · split
    · exact counted.failSensor c
    · split
      exacts [counted.recoverSensor c, counted]
  · exact h

theorem convertAll (h : Moved s t) (r : Readings) : Moved s (t.convertAll r) :=
  (h.setPad .pad0 ((t.pad .pad0).convert _) rfl).setPad .pad1 ((t.pad .pad1).convert _) rfl

end Moves
end Sys2Proof.Machine

namespace Sys2Proof.Machine

/-! ### The slot protocol under a step (R10, R188, R189, R192, R195)

`SlotLegal` counts the slot reads and the settings read, and speaks of the slots and of the held request. `SlotStep` is what
every step but the ends and the grants of those reads does to these. -/

/-- The transfers of the work list that `SlotLegal` counts. -/
def Work.counted : Work → Bool
  | .settings | .slotRead _ => true
  | .completion .. | .descriptor .. | .profile .. | .table .. | .dump .. => false

/-- What becomes of a slot: its read stays, attention is not raised, completions are added, and an executing request gives way to
a completion only (R194). -/
structure SlotMove (a b : Slot) : Prop where
  reading : b.readInFlight = a.readInFlight
  attention : b.attention = true → a.attention = true
  unwritten : a.unwritten ≤ b.unwritten
  idle : b.executing = none → b.unwritten = 0 → a.executing = none

theorem SlotMove.refl (a : Slot) : SlotMove a a := ⟨rfl, id, le_rfl, fun h _ => h⟩

theorem SlotMove.trans {a b c : Slot} (h : SlotMove a b) (k : SlotMove b c) : SlotMove a c where
  reading := k.reading.trans h.reading
  attention x := h.attention (k.attention x)
  unwritten := h.unwritten.trans k.unwritten
  idle x y := h.idle (k.idle x y) (by have := k.unwritten; omega)

structure SlotStep (s t : State) : Prop where
  run : t.run = s.run
  outstanding : ∀ w : Work, w.counted = true → Outstanding t w = Outstanding s w
  inFlight : s.run = .resetting → t.bus.inFlight = s.bus.inFlight ∨ t.bus.inFlight = none
  slot : ∀ x, SlotMove (s.slot x) (t.slot x)
  held : t.clock.held = s.clock.held ∨ (t.clock.held = none ∧ (t.slot .slot0).unwritten ≠ 0)
  clear : s.run ≠ .operating → ∀ x, s.slot x = Slot.clear → t.slot x = Slot.clear

/-- A slot is ready by its own fields, and slot 0 while no request is held (R192). -/
theorem slotReady_iff (s : State) (x : SlotId) :
    s.slotReady x = true ↔ (s.slot x).attention = true ∧ (s.slot x).readInFlight = false ∧ (s.slot x).executing = none
      ∧ (s.slot x).unwritten = 0 ∧ (x = .slot0 → s.clock.held = none) := by
  simp only [State.slotReady, Bool.and_eq_true, Bool.not_eq_true', Option.isNone_iff_eq_none, beq_iff_eq, Bool.or_eq_true,
    bne_iff_ne, ne_eq, and_assoc, imp_iff_not_or]

/-- A clear slot is not ready. -/
theorem slotReady_of_clear {s : State} {x : SlotId} (h : s.slot x = Slot.clear) : s.slotReady x = false := by
  rw [State.slotReady, h]; rfl

/-- The laws of `SlotLegal` without the first: what holds while the slots made ready are still to be read. -/
def ReadsLegal (s : State) : Prop :=
  (s.run = .operating → (∀ x, Outstanding s (.slotRead x) = if (s.slot x).readInFlight then 1 else 0)
      ∧ (s.clock.held ≠ none → (s.slot .slot0).readInFlight = false))
    ∧ (s.run = .standby ∨ s.run = .waking →
      s.clock.held = none ∧ ∀ x, s.slot x = Slot.clear ∧ Outstanding s (.slotRead x) = 0)
    ∧ (s.run ≠ .resetting → Outstanding s .settings = if s.run = .waking then 1 else 0)
    ∧ (s.run = .resetting → ∀ t, s.bus.inFlight = some t → t.silent = true)

theorem outstanding_of_same {s t : State} (work : t.work = s.work) (bus : t.bus = s.bus) (w : Work) :
    Outstanding t w = Outstanding s w := by rw [Outstanding, Outstanding, work, bus]

namespace SlotStep

variable {s t u : State}

theorem refl (s : State) : SlotStep s s := ⟨rfl, fun _ _ => rfl, fun _ => .inl rfl, fun _ => .refl _, .inl rfl, fun _ _ h => h⟩

theorem trans (h : SlotStep s t) (k : SlotStep t u) : SlotStep s u where
  run := k.run.trans h.run
  outstanding w c := (k.outstanding w c).trans (h.outstanding w c)
  inFlight r := by
    rcases k.inFlight (h.run.trans r) with e | e
    · rw [e]; exact h.inFlight r
    · exact .inr e
  slot x := (h.slot x).trans (k.slot x)
  held := by
    have grows := (k.slot .slot0).unwritten
    rcases k.held with e | e
    · rcases h.held with f | ⟨f, n⟩
      · exact .inl (e.trans f)
      · exact .inr ⟨e.trans f, by omega⟩
    · exact .inr e
  clear n x c := k.clear (by rwa [h.run]) x (h.clear n x c)

/-- A step that leaves the run state, the slots, the work list, the bus and the held request. -/
theorem of_same (run : t.run = s.run) (slots : t.slots = s.slots) (work : t.work = s.work) (bus : t.bus = s.bus)
    (held : t.clock.held = s.clock.held) : SlotStep s t where
  run := run
  outstanding w _ := outstanding_of_same work bus w
  inFlight _ := .inl (by rw [bus])
  slot x := by rw [show t.slot x = s.slot x from congrArg (PerSlot.get · x) slots]; exact .refl _
  held := .inl held
  clear _ x c := (congrArg (PerSlot.get · x) slots).trans c

theorem moved (h : SlotStep s t) (k : Moved t u) : SlotStep s u :=
  h.trans (.of_same k.inner.run k.inner.slots k.inner.work k.inner.bus (by rw [k.inner.clock]))

/-- A transfer that is not counted joins the work list. -/
theorem ask (h : SlotStep s t) (w : Work) (k : w.counted = false) : SlotStep s (t.ask w) := by
  refine h.trans ⟨rfl, fun v c => ?_, fun _ => .inl rfl, fun _ => .refl _, .inl rfl, fun _ _ e => e⟩
  have ne : w ≠ v := by rintro rfl; rw [k] at c; nomatch c
  have none : [w].count v = 0 := List.count_eq_zero_of_not_mem (by simpa using ne.symm)
  rw [Outstanding, Outstanding, State.work_ask, State.bus_ask, List.count_append, none, Nat.add_zero]

/-- A change of one slot that leaves a clear one alone. -/
theorem setSlot (h : SlotStep s t) (x : SlotId) (a : Slot) (k : SlotMove (t.slot x) a)
    (c : s.run ≠ .operating → t.slot x = Slot.clear → a = Slot.clear) : SlotStep s (t.setSlot x a) := by
  refine h.trans ⟨rfl, fun _ _ => rfl, fun _ => .inl rfl, fun y => ?_, .inl rfl, fun n y e => ?_⟩
  · rw [State.slot_setSlot]
    split
    · rename_i e; rw [e]; exact k
    · exact .refl _
  · rw [State.slot_setSlot]
    split
    · rename_i e'; rw [e'] at e; exact c (by rwa [← h.run]) e
    · exact e

theorem complete (h : SlotStep s t) (op : s.run = .operating) (x : SlotId) (tag : BitVec 16) (st : Status) (r : Word) :
    SlotStep s (t.complete x tag st r) :=
  (h.setSlot x { t.slot x with unwritten := (t.slot x).unwritten + 1 } ⟨rfl, id, Nat.le_succ _, fun e _ => e⟩
    (fun n => absurd op n)).ask (.completion x st tag r) rfl

theorem execute (h : SlotStep s t) (op : s.run = .operating) (x : SlotId) (r : Request) : SlotStep s (t.execute x r) :=
  h.setSlot x { t.slot x with executing := some r } ⟨rfl, id, le_rfl, fun e => nomatch e⟩ (fun n => absurd op n)

theorem finishExecuting (h : SlotStep s t) (x : SlotId) (st : Status) (r : Word) :
    SlotStep s (t.finishExecuting x st r) := by
  unfold State.finishExecuting; split
  · exact h
  · rename_i q e
    refine h.trans ⟨rfl, fun w c => ?_, fun _ => .inl rfl, fun y => ?_, .inl rfl, fun _ y c => ?_⟩
    · exact ((SlotStep.refl t).ask (.completion x st q.tag r) rfl).outstanding w c
    · by_cases k : y = x
      · subst y
        refine ⟨by simp, by simp, by simp, by simp⟩
      · rw [State.slot_complete_ne _ _ _ _ _ _ k, State.slot_setSlot_ne _ _ _ _ k]
        exact .refl _
    · by_cases k : y = x
      · subst y; rw [c] at e; nomatch e
      · rw [State.slot_complete_ne _ _ _ _ _ _ k, State.slot_setSlot_ne _ _ _ _ k, c]

/-- The held request is taken out of the clock once a completion stands for slot 0 (R10). -/
theorem dropHeld (h : SlotStep s t) (k : (t.slot .slot0).unwritten ≠ 0) :
    SlotStep s (t.onClock (fun c => { c with held := none })) :=
  h.trans ⟨rfl, fun _ _ => rfl, fun _ => .inl rfl, fun _ => .refl _, .inr ⟨rfl, k⟩, fun _ _ e => e⟩

/-- A change of the clock that leaves the held request. -/
theorem onClock (h : SlotStep s t) (f : Clock → Clock) (k : (f t.clock).held = t.clock.held) : SlotStep s (t.onClock f) :=
  h.trans (.of_same rfl rfl rfl rfl k)

theorem readsLegal (h : SlotStep s t) (k : ReadsLegal s) : ReadsLegal t := by
  obtain ⟨op, rest, settings, resetting⟩ := k
  refine ⟨fun o => ?_, fun r => ?_, fun n => ?_, fun r x e => ?_⟩
  · obtain ⟨reads, held⟩ := op (h.run ▸ o)
    refine ⟨fun x => by rw [h.outstanding _ rfl, (h.slot x).reading, reads], fun n => ?_⟩
    rw [(h.slot .slot0).reading]
    refine held (fun e => n ?_)
    rcases h.held with f | ⟨f, -⟩
    · rw [f, e]
    · exact f
  · rw [h.run] at r
    obtain ⟨held, slots⟩ := rest r
    refine ⟨?_, fun x => ⟨h.clear (by rcases r with r | r <;> rw [r] <;> decide) x (slots x).1,
      (h.outstanding _ rfl).trans (slots x).2⟩⟩
    rcases h.held with f | ⟨f, -⟩
    · rw [f, held]
    · exact f
  · rw [h.run] at n ⊢
    rw [h.outstanding _ rfl, settings n]
  · rw [h.run] at r
    rcases h.inFlight r with f | f
    · exact resetting r x (f ▸ e)
    · rw [f] at e; nomatch e

/-- No slot becomes ready by such a step. -/
theorem ready (h : SlotStep s t) (x : SlotId) (k : s.slotReady x = false) : t.slotReady x = false := by
  rw [← Bool.not_eq_true] at k ⊢
  rw [slotReady_iff] at k ⊢
  rintro ⟨att, read, exe, unw, held⟩
  have move := h.slot x
  refine k ⟨move.attention att, by rw [← move.reading, read], move.idle exe unw, by have := move.unwritten; omega, ?_⟩
  rintro rfl
  rcases h.held with f | ⟨-, n⟩
  · rw [← f, held rfl]
  · exact absurd unw n

theorem slotLegal (h : SlotStep s t) (k : SlotLegal s) : SlotLegal t :=
  ⟨fun x => h.ready x (k.1 x), h.readsLegal k.2⟩

end SlotStep

/-- R192: once the slots made ready are read, every law of the slot protocol holds. -/
theorem ReadsLegal.readReadySlots {s : State} (h : ReadsLegal s) : SlotLegal s.readReadySlots := by
  obtain ⟨op, rest, settings, resetting⟩ := h
  have idle (r : s.run = .standby ∨ s.run = .waking) (x : SlotId) : s.slotReady x = false :=
    slotReady_of_clear ((rest r).2 x).1
  have count (x : SlotId) : s.readReadySlots.work.count (.slotRead x) =
      s.work.count (.slotRead x) + if s.slotReady x then 1 else 0 := by
    rw [State.work_readReadySlots, List.count_append]
    cases a : s.slotReady .slot0 <;> cases b : s.slotReady .slot1 <;> cases c : s.slotReady .slot2 <;>
      cases x <;> simp [a, b, c]
  have out (x : SlotId) : Outstanding s.readReadySlots (.slotRead x) =
      Outstanding s (.slotRead x) + if s.slotReady x then 1 else 0 := by
    rw [Outstanding, Outstanding, count, State.bus_readReadySlots]; omega
  refine ⟨State.slotReady_readReadySlots s, fun o => ?_, fun r => ?_, fun n => ?_, fun r x e => ?_⟩
  · rw [State.run_readReadySlots] at o
    obtain ⟨reads, held⟩ := op o
    refine ⟨fun x => ?_, fun n => ?_⟩
    · rw [out, reads, State.slot_readReadySlots]
      cases k : s.slotReady x with
      | false => simp
      | true => simp [((slotReady_iff s x).mp k).2.1]
    · rw [State.clock_readReadySlots] at n
      rw [State.slot_readReadySlots]
      have : s.slotReady .slot0 = false := by
        rw [← Bool.not_eq_true, slotReady_iff]
        rintro ⟨-, -, -, -, k⟩
        exact n (k rfl)
      simp [this, held n]
  · rw [State.run_readReadySlots] at r
    obtain ⟨held, slots⟩ := rest r
    refine ⟨by rw [State.clock_readReadySlots, held], fun x => ⟨?_, ?_⟩⟩
    · rw [State.slot_readReadySlots, idle r, (slots x).1]; rfl
    · rw [out, idle r, (slots x).2]; rfl
  · rw [State.run_readReadySlots] at n ⊢
    have none : (([SlotId.slot0, .slot1, .slot2].filter s.slotReady).map Work.slotRead).count .settings = 0 :=
      List.count_eq_zero_of_not_mem (by rw [List.mem_map]; rintro ⟨x, -, e⟩; nomatch e)
    rw [← settings n, Outstanding, Outstanding, State.work_readReadySlots, State.bus_readReadySlots, List.count_append,
      none, Nat.add_zero]
  · rw [State.run_readReadySlots] at r
    rw [State.bus_readReadySlots] at e
    exact resetting r x e

end Sys2Proof.Machine

namespace Sys2Proof.Machine

/-! ### Commands beside the song clock

What a command keeps that does not belong to the song clock, a slot read, the settings or a run state: the clock itself, and
the laws of the slots and of the sessions. -/

/-- The two laws of the sessions that every step keeps (R15, R78, R140, R143, R145). -/
def SongLaw (s : State) : Prop := PlayingWithSong s ∧ ReturnsToRest s

/-- A step within such a command. Where it completes or takes a request it keeps the laws of the slots while the part is
OPERATING, which is then the condition `c`. -/
structure Beside (c : Prop) (s t : State) : Prop where
  clock : t.clock = s.clock
  slot : c → SlotStep s t
  song : SongLaw s → SongLaw t

/-- Such a command as a whole. -/
structure LawsKept (s t : State) : Prop where
  clock : t.clock = s.clock
  slots : SlotLegal s → SlotLegal t
  song : SongLaw s → SongLaw t

/-- The laws of the sessions speak of the clock's state, the sessions' states and their return states. -/
theorem SongLaw.of_same {s t : State} (clock : t.clock.state = s.clock.state) (sessions : t.sessions = s.sessions)
    (h : SongLaw s) : SongLaw t := by
  have e (pl : Player) : t.session pl = s.session pl := congrArg (PerPlayer.get · pl) sessions
  refine ⟨fun pl p => ?_, fun pl => ?_⟩
  · rw [clock]; exact h.1 pl (by rwa [← e])
  · rw [e]; exact h.2 pl

theorem SongLaw.moved {s t : State} (h : SongLaw s) (k : Moved s t) : SongLaw t := by
  refine ⟨fun pl p => ?_, fun pl => ?_⟩
  · rw [k.inner.clock]
    rcases k.inner.playing pl p with q | q
    · exact h.1 pl q
    · exact q
  · rw [k.returns]; exact h.2 pl

/-- A session is changed within the laws. -/
theorem SongLaw.setSession {s : State} (h : SongLaw s) (pl : Player) (x : Session)
    (play : x.state = .playing → s.clock.state = .running ∨ s.clock.state = .paused)
    (ret : x.returnState ∈ [none, some PlayerState.idle, some .done]) : SongLaw (s.setSession pl x) := by
  refine ⟨fun q p => ?_, fun q => ?_⟩
  · rw [State.session_setSession] at p
    split at p
    · exact play p
    · exact h.1 q p
  · rw [State.session_setSession]
    split
    · exact ret
    · exact h.2 q

namespace Beside

variable {c : Prop} {s t u : State}

theorem refl (s : State) : Beside c s s := ⟨rfl, fun _ => .refl s, id⟩

theorem trans (h : Beside c s t) (k : Beside c t u) : Beside c s u :=
  ⟨k.clock.trans h.clock, fun x => (h.slot x).trans (k.slot x), fun x => k.song (h.song x)⟩

theorem lawsKept (h : Beside True s t) : LawsKept s t := ⟨h.clock, (h.slot trivial).slotLegal, h.song⟩

/-- A step outside everything the laws speak of. -/
theorem of_same (h : Beside c s t) (run : u.run = t.run) (slots : u.slots = t.slots) (work : u.work = t.work)
    (bus : u.bus = t.bus) (clock : u.clock = t.clock) (sessions : u.sessions = t.sessions) : Beside c s u :=
  h.trans ⟨clock, fun _ => .of_same run slots work bus (by rw [clock]), .of_same (by rw [clock]) sessions⟩

theorem moved (h : Beside c s t) (k : Moved t u) : Beside c s u :=
  ⟨k.inner.clock.trans h.clock, fun x => (h.slot x).moved k, fun x => (h.song x).moved k⟩

theorem setScan (h : Beside c s t) (x : Scan) : Beside c s (t.setScan x) := h.of_same rfl rfl rfl rfl rfl rfl
theorem setOwners (h : Beside c s t) (x : PerPad (Option Player)) : Beside c s (t.setOwners x) := h.of_same rfl rfl rfl rfl rfl rfl
theorem setPad (h : Beside c s t) (i : PadId) (x : Pad) : Beside c s (t.setPad i x) := h.of_same rfl rfl rfl rfl rfl rfl
theorem setJudge (h : Beside c s t) (pl : Player) (x : Judge) : Beside c s (t.setJudge pl x) := h.of_same rfl rfl rfl rfl rfl rfl
theorem setScore (h : Beside c s t) (pl : Player) (x : Score) : Beside c s (t.setScore pl x) := h.of_same rfl rfl rfl rfl rfl rfl
theorem setRefresh (h : Beside c s t) (x : Refresh) : Beside c s (t.setRefresh x) := h.of_same rfl rfl rfl rfl rfl rfl
theorem setLamps (h : Beside c s t) (x : Lamps) : Beside c s (t.setLamps x) := h.of_same rfl rfl rfl rfl rfl rfl
theorem raise (h : Beside c s t) (b : BitVec 8) : Beside c s (t.raise b) := h.of_same rfl rfl rfl rfl rfl rfl
theorem logFault (h : Beside c s t) (k : FaultKind) (pl : Option Player) (a b : Nat) : Beside c s (t.logFault k pl a b) :=
  h.of_same rfl rfl rfl rfl rfl rfl

theorem ask (h : Beside c s t) (w : Work) (k : w.counted = false) : Beside c s (t.ask w) :=
  h.trans ⟨rfl, fun _ => (SlotStep.refl t).ask w k, .of_same rfl rfl⟩

theorem complete (h : Beside c s t) (op : c → s.run = .operating) (x : SlotId) (tag : BitVec 16) (st : Status) (r : Word) :
    Beside c s (t.complete x tag st r) :=
  h.trans ⟨rfl, fun k => (SlotStep.refl t).complete ((h.slot k).run.trans (op k)) x tag st r, .of_same rfl rfl⟩

theorem execute (h : Beside c s t) (op : c → s.run = .operating) (x : SlotId) (r : Request) : Beside c s (t.execute x r) :=
  h.trans ⟨rfl, fun k => (SlotStep.refl t).execute ((h.slot k).run.trans (op k)) x r, .of_same rfl rfl⟩

theorem finishExecuting (h : Beside c s t) (x : SlotId) (st : Status) (r : Word) : Beside c s (t.finishExecuting x st r) :=
  h.trans ⟨by simp, fun _ => (SlotStep.refl t).finishExecuting x st r, .of_same (by simp) (by simp)⟩

theorem setSession (h : Beside c s t) (pl : Player) (x : Session)
    (play : SongLaw t → x.state = .playing → t.clock.state = .running ∨ t.clock.state = .paused)
    (ret : SongLaw t → x.returnState ∈ [none, some PlayerState.idle, some .done]) : Beside c s (t.setSession pl x) :=
  h.trans ⟨rfl, fun _ => .of_same rfl rfl rfl rfl rfl, fun k => k.setSession pl x (play k) (ret k)⟩

/-- R32, R139: profile reads learn of an owner; they are not counted. -/
theorem claim (h : Beside c s t) (pads : List PadId) : Beside c s (t.setWork (t.work.map (Work.claim pads))) := by
  refine h.trans ⟨rfl, fun _ => ⟨rfl, fun w c => ?_, fun _ => .inl rfl, fun _ => .refl _, .inl rfl, fun _ _ e => e⟩,
    .of_same rfl rfl⟩
  rw [Outstanding, Outstanding, State.work_setWork, State.bus_setWork,
    Work.count_map_claim pads w (by rintro _ _ _ rfl; nomatch c)]

/-! ### Pad requests (Pads.lean, Requests.lean) -/

theorem applyProfile (h : Beside c s t) (pad : PadId) (f : Profile) (addr : Nat) : Beside c s (t.applyProfile pad f addr) :=
  (h.setPad pad _).setLamps _

theorem profileRead (h : Beside c s t) (pad : PadId) (addr : Nat) (claimed : Bool) (reply : Option (BitVec 768)) :
    Beside c s (t.profileRead pad addr claimed reply) := by
  unfold State.profileRead; split
  · exact (h.logFault _ _ _ _).finishExecuting _ _ _
  · split
    exacts [h.finishExecuting _ _ _, (h.applyProfile _ _ _).finishExecuting _ _ _]

theorem padWriteEnded (h : Beside c s t) (ok : Bool) (result : Word) : Beside c s (t.padWriteEnded ok result) := by
  unfold State.padWriteEnded; split
  exacts [h.finishExecuting _ _ _, (h.logFault _ _ _ _).finishExecuting _ _ _]

theorem completeCalibration (h : Beside c s t) (pad : PadId) (cal : Calibration) :
    Beside c s (t.completeCalibration pad cal) :=
  (h.setPad pad _).ask _ rfl

theorem captureIfDue (h : Beside c s t) : Beside c s t.captureIfDue := by
  unfold State.captureIfDue; split
  · exact h
  · split
    exacts [(h.setScan _).ask _ rfl, h]

theorem loadProfile (h : Beside c s t) (op : c → s.run = .operating) (r : Request) : Beside c s (t.loadProfile r) := by
  unfold State.loadProfile; split
  · exact h.complete op _ _ _ _
  · split
    · exact h.complete op _ _ _ _
    · split
      exacts [h.complete op _ _ _ _, (h.execute op _ _).ask _ rfl]

theorem calibrate (h : Beside c s t) (op : c → s.run = .operating) (r : Request) : Beside c s (t.calibrate r) := by
  unfold State.calibrate; split
  · exact h.complete op _ _ _ _
  · split
    · exact h.complete op _ _ _ _
    · split
      exacts [h.complete op _ _ _ _, (h.execute op _ _).setPad _ _]

theorem sensorDump (h : Beside c s t) (op : c → s.run = .operating) (r : Request) : Beside c s (t.sensorDump r) :=
  (h.execute op _ _).setScan _

/-! ### Sessions (Sessions.lean, Refresh.lean) -/

theorem takeArm (h : Beside c s t) (op : c → s.run = .operating) (pl : Player) (r : Request) : Beside c s (t.takeArm pl r) := by
  have taken (ret : (t.session pl).state = .idle ∨ (t.session pl).state = .done) : Beside c s
      (t.onSession pl (fun x => { x with returnState := some x.state, state := .arming })) :=
    h.setSession pl _ (fun _ e => nomatch e) (fun _ => by rcases ret with e | e <;> simp [e])
  unfold State.takeArm; split
  · exact ((taken (.inl ‹_›)).execute op _ _).ask _ rfl
  · exact ((taken (.inr ‹_›)).execute op _ _).ask _ rfl
  all_goals exact h.complete op _ _ _ _

theorem refuseArm (h : Beside c s t) (pl : Player) (st : Status) (check : Nat) : Beside c s (t.refuseArm pl st check) := by
  refine (h.setSession pl _ (fun k e => ?_) (fun _ => by simp)).finishExecuting _ _ _
  have rest := k.2 pl
  simp only [List.mem_cons, List.not_mem_nil, or_false] at rest
  rcases rest with f | f | f <;> simp [f] at e

theorem ownPads (h : Beside c s t) (pl : Player) (set : PadSet) : Beside c s (t.ownPads pl set) := by
  have own (u : State) (k : Beside c s u) (i : PadId) : Beside c s (u.ownPad pl i) := (k.setOwners _).setPad _ _
  cases set
  · exact own _ (h.claim _) _
  · exact own _ (h.claim _) _
  · exact own _ (own _ (h.claim _) _) _

theorem startJudge (h : Beside c s t) (pl : Player) (set : PadSet) (params : Params) :
    Beside c s (t.startJudge pl set params) := by
  unfold State.startJudge; split
  exacts [(h.setJudge _ _).setJudge _ _, h.setJudge _ _]

theorem enterStage (h : Beside c s t) (pl : Player) : Beside c s (t.enterStage pl).1 := by
  have armed : Beside c s (t.onSession pl (fun x => { x with state := .armed })) :=
    h.setSession pl _ (fun _ e => nomatch e) (fun k => k.2 pl)
  have playing (k : t.clock.state = .running ∨ t.clock.state = .paused) : Beside c s (t.becomePlaying pl) :=
    (h.setSession pl { t.session pl with state := .playing } (fun _ _ => k) (fun k => k.2 pl)).moved
      (Moves.refl.playOn trivial _ _ _)
  unfold State.enterStage; split
  exacts [armed, armed, playing (.inl ‹_›), playing (.inr ‹_›)]

theorem armSuccess (h : Beside c s t) (pl : Player) (d : Descriptor) (set : PadSet) : Beside c s (t.armSuccess pl d set) := by
  have named : Beside c s (t.onSession pl (fun x =>
      { x with
        padSet := some set, laneCount := d.laneCount, laneMap := d.laneMap, firstPage := d.firstPage,
        firstSeq := d.firstSeq, returnState := none })) :=
    h.setSession pl _ (fun k e => k.1 pl e) (fun _ => by simp)
  have judged := ((named.ownPads pl set).setScore pl (Score.start d.n d.noFail d.startLife)).startJudge pl set d.params
  have fetching := judged.moved
    (((Moves.refl.setWriter (pl := pl) trivial (Writer.start d.firstSeq)).setFetcher (pl := pl) trivial
      (Fetcher.start d.firstPage d.firstSeq)).askHeader (pl := pl) trivial)
  exact (fetching.enterStage pl).finishExecuting _ _ _

theorem descriptorRead (h : Beside c s t) (pl : Player) (reply : Option (BitVec 640)) :
    Beside c s (t.descriptorRead pl reply) := by
  unfold State.descriptorRead; split
  · exact (h.logFault _ _ _ _).refuseArm pl _ _
  · dsimp only; split
    · exact h.refuseArm pl _ _
    · split
      exacts [h.refuseArm pl _ _, h.armSuccess pl _ _]

theorem abandonWait (h : Beside c s t) (op : c → s.run = .operating) (pl : Player) (r : Request) :
    Beside c s (t.abandonWait pl r) :=
  (h.execute op _ _).setSession pl _ (fun k e => k.1 pl e) (fun k => k.2 pl)

theorem takeAbandon (h : Beside c s t) (op : c → s.run = .operating) (pl : Player) (r : Request) :
    Beside c s (t.takeAbandon pl r) := by
  have closing := (h.abandonWait op pl r).moved (Moves.refl.enterClosing (pl := pl) trivial .aborted (fun e => nomatch e))
  unfold State.takeAbandon; split
  exacts [h.complete op _ _ _ _, h.complete op _ _ _ _, h.complete op _ _ _ _, closing, closing, h.abandonWait op pl r]

theorem takeRefreshNow (h : Beside c s t) (op : c → s.run = .operating) (pl : Player) (r : Request) :
    Beside c s (t.takeRefreshNow pl r) := (h.execute op _ _).setRefresh _

theorem endNow (h : Beside c s t) (pl : Player) (st : Status) (r : Word) : Beside c s (t.endNow pl st r) :=
  (h.setRefresh _).finishExecuting _ _ _

theorem endHolds (h : Beside c s t) (reply : Option (BitVec 64)) : Beside c s (t.endHolds reply) := by
  unfold State.endHolds; split
  exacts [(h.logFault _ _ _ _).setRefresh _, h.setRefresh _]

theorem endNowHold (h : Beside c s t) (pl : Player) (reply : Option (BitVec 32)) : Beside c s (t.endNowHold pl reply) := by
  unfold State.endNowHold; split
  · exact (h.logFault _ _ _ _).endNow _ _ _
  · split
    exacts [h.endNow _ _ _, h.setRefresh _]

theorem boardEnded (h : Beside c s t) (pl : Player) (ok : Bool) : Beside c s (t.boardEnded pl ok) := by
  unfold State.boardEnded; split
  · exact h.setRefresh _
  · exact ((h.setScore pl _).setRefresh _).moved (Moves.refl.writeLost (pl := pl) trivial 0 0)

theorem endBoard (h : Beside c s t) (pl : Player) (serial : Nat) (ok : Bool) : Beside c s (t.endBoard pl serial ok) := by
  unfold State.endBoard; dsimp only; split
  · split
    exacts [(h.boardEnded pl ok).endNow _ _ _, h.boardEnded pl ok]
  · exact h.boardEnded pl ok

theorem releasePad (h : Beside c s t) (pl : Player) (pad : PadId) : Beside c s (t.releasePad pl pad) := by
  unfold State.releasePad; split
  exacts [(h.setOwners _).setPad _ _, h]

theorem finishAbandon (h : Beside c s t) (pl : Player) : Beside c s (t.finishAbandon pl) := by
  unfold State.finishAbandon; split
  · exact h
  · exact (h.setSession pl { t.session pl with waitingAbandon := none } (fun k e => k.1 pl e)
      (fun k => k.2 pl)).finishExecuting _ _ _

theorem becomeDone (h : Beside c s t) (pl : Player) : Beside c s (t.becomeDone pl) := by
  have done : Beside c s (t.onSession pl (fun x => { x with state := .done })) :=
    h.setSession pl _ (fun _ e => nomatch e) (fun k => k.2 pl)
  have released := ((done.raise noticeStage).releasePad pl .pad0).releasePad pl .pad1
  have finish (u : State) (k : Beside c s u) : Beside c s ((u.onFetcher pl Fetcher.finish).finishAbandon pl) :=
    (k.moved (Moves.refl.onFetcher trivial _)).finishAbandon pl
  unfold State.becomeDone; dsimp only
  refine finish _ ?_
  split
  exacts [(released.setJudge _ _).setJudge _ _, released]

theorem endFinalBoard (h : Beside c s t) (pl : Player) (ok : Bool) : Beside c s (t.endFinalBoard pl ok) :=
  ((h.boardEnded pl ok).setRefresh _).becomeDone pl

theorem endMirrors (h : Beside c s t) (ok : Bool) : Beside c s (t.endMirrors ok) := by
  unfold State.endMirrors; dsimp only
  refine (Beside.setRefresh ?_ _).raise _
  split
  exacts [h, h.logFault _ _ _ _]

end Beside
end Sys2Proof.Machine

namespace Sys2Proof.Machine

/-! ### The ends and the grants of transfers (R193, R195, R199, R200) -/

/-- The transfers that `SlotLegal` counts. -/
def Xfer.counted : Xfer → Bool
  | .request w => w.counted
  | _ => false

/-- `u` is `s` without the transfer `x`, which has ended or is about to go out: nothing is in flight. -/
structure Ended (s u : State) (x : Xfer) : Prop where
  run : u.run = s.run
  awake : s.run ≠ .resetting
  inFlight : u.bus.inFlight = none
  outstanding : ∀ w : Work, w.counted = true → Outstanding s w = Outstanding u w + if x = .request w then 1 else 0
  slot : ∀ y, SlotMove (s.slot y) (u.slot y)
  held : u.clock.held = s.clock.held
  clear : ∀ y, s.slot y = Slot.clear → u.slot y = Slot.clear

theorem ended_freeBus {s : State} {t : Transfer} (h : SlotLegal s) (e : s.bus.inFlight = some t) (loud : t.silent = false) :
    Ended s s.freeBus t.what where
  run := rfl
  awake r := by rw [h.2.2.2.2 r t e] at loud; nomatch loud
  inFlight := rfl
  outstanding w _ := by
    rw [Outstanding, Outstanding, e]
    by_cases k : t.what = .request w <;> simp [k, loud, State.freeBus]
  slot _ := .refl _
  held := rfl
  clear _ c := c

namespace Ended

variable {s u : State} {x : Xfer}

theorem slotStep (h : Ended s u x) (k : x.counted = false) : SlotStep s u where
  run := h.run
  outstanding w c := by
    rw [h.outstanding w c, if_neg, Nat.add_zero]
    rintro rfl
    exact absurd c (by rw [show w.counted = false from k]; decide)
  inFlight r := absurd r h.awake
  slot := h.slot
  held := .inl h.held
  clear _ := h.clear

/-- A slot read that ends was the one that its slot had in flight, in OPERATING (R193). -/
theorem slotRead {y : SlotId} (h : Ended s u (.request (.slotRead y))) (k : SlotLegal s) :
    s.run = .operating ∧ (s.slot y).readInFlight = true ∧ Outstanding u (.slotRead y) = 0 := by
  have out := h.outstanding (.slotRead y) rfl
  rw [if_pos rfl] at out
  have op : s.run = .operating := by
    cases r : s.run with
    | operating => rfl
    | resetting => exact absurd r h.awake
    | standby => have := ((k.2.2.1 (.inl r)).2 y).2; omega
    | waking => have := ((k.2.2.1 (.inr r)).2 y).2; omega
  have reads := (k.2.1 op).1 y
  cases f : (s.slot y).readInFlight with
  | false => rw [f] at reads; simp at reads; omega
  | true => rw [f] at reads; simp at reads; exact ⟨op, rfl, by omega⟩

/-- With its read over, the slot may be read again: the laws but the first hold (R193). -/
theorem readsLegal {y : SlotId} (h : Ended s u (.request (.slotRead y))) (k : SlotLegal s) :
    ReadsLegal (u.slotReadOver y) := by
  obtain ⟨op, -, gone⟩ := h.slotRead k
  have opu : u.run = .operating := h.run.trans op
  obtain ⟨reads, held⟩ := k.2.1 op
  refine ⟨fun _ => ⟨fun x => ?_, fun n => ?_⟩, fun r => ?_, fun _ => ?_, fun r => ?_⟩
  · have same : Outstanding (u.slotReadOver y) (.slotRead x) = Outstanding u (.slotRead x) := rfl
    by_cases e : x = y
    · subst e
      rw [same, gone]; simp
    · have out := h.outstanding (.slotRead x) rfl
      rw [if_neg (by simpa using Ne.symm e), Nat.add_zero] at out
      rw [same, ← out, reads, State.slot_slotReadOver_ne _ _ _ e, (h.slot x).reading]
  · by_cases e : SlotId.slot0 = y
    · subst e; simp
    · rw [State.slot_slotReadOver_ne _ _ _ e, (h.slot _).reading]
      exact held (by rwa [← h.held])
  · rw [State.run_slotReadOver, opu] at r; simp at r
  · have out := h.outstanding .settings rfl
    have none := k.2.2.2.1 h.awake
    rw [if_neg (by simp), Nat.add_zero] at out
    rw [State.run_slotReadOver, opu, if_neg (by simp), ← show Outstanding u .settings = Outstanding (u.slotReadOver y) .settings
      from rfl, ← out, none, op, if_neg (by simp)]
  · rw [State.run_slotReadOver, opu] at r; nomatch r

/-- The settings read ends in WAKING; the part goes on with clear slots (R188). -/
theorem settings {v : State} (h : Ended s u (.request .settings)) (k : SlotLegal s) (slots : v.slots = u.slots)
    (work : v.work = u.work) (bus : v.bus = u.bus) (held : v.clock.held = u.clock.held)
    (run : v.run = .standby ∨ v.run = .operating) : SlotLegal v := by
  have out := h.outstanding .settings rfl
  have one := k.2.2.2.1 h.awake
  rw [if_pos rfl] at out
  have waking : s.run = .waking := by
    by_contra n
    rw [if_neg n] at one
    omega
  rw [if_pos waking] at one
  obtain ⟨noHeld, clear⟩ := k.2.2.1 (.inr waking)
  have slot (y : SlotId) : v.slot y = Slot.clear :=
    (congrArg (PerSlot.get · y) slots).trans (h.clear y (clear y).1)
  have read (y : SlotId) : Outstanding v (.slotRead y) = 0 := by
    have out := h.outstanding (.slotRead y) rfl
    rw [(clear y).2, if_neg (by simp), Nat.add_zero] at out
    rw [outstanding_of_same work bus, ← out]
  refine ⟨fun y => slotReady_of_clear (slot y), fun _ => ⟨fun y => ?_, fun n => ?_⟩, fun _ => ⟨?_, fun y => ⟨slot y, read y⟩⟩,
    fun _ => ?_, fun r => ?_⟩
  · rw [read, slot]; rfl
  · rw [slot]; rfl
  · rw [held, h.held, noHeld]
  · rw [outstanding_of_same work bus, if_neg (by rcases run with r | r <;> rw [r] <;> decide)]; omega
  · rcases run with e | e <;> rw [e] at r <;> nomatch r

end Ended

/-- One slot may be changed in all but its read (R194). -/
theorem ReadsLegal.setSlot {s : State} (h : ReadsLegal s) (x : SlotId) (a : Slot)
    (reading : a.readInFlight = (s.slot x).readInFlight) (clear : s.slot x = Slot.clear → a = Slot.clear) :
    ReadsLegal (s.setSlot x a) := by
  obtain ⟨op, rest, settings, resetting⟩ := h
  have same (y : SlotId) : ((s.setSlot x a).slot y).readInFlight = (s.slot y).readInFlight := by
    rw [State.slot_setSlot]
    split
    · rename_i e; rw [e, reading]
    · rfl
  refine ⟨fun o => ⟨fun y => ?_, fun n => ?_⟩, fun r => ⟨(rest r).1, fun y => ⟨?_, ((rest r).2 y).2⟩⟩, settings, resetting⟩
  · rw [same]; exact (op o).1 y
  · rw [same]; exact (op o).2 n
  · rw [State.slot_setSlot]
    split
    · rename_i e
      exact clear (e ▸ ((rest r).2 y).1)
    · exact ((rest r).2 y).1

/-- A step that leaves what the laws speak of. -/
theorem ReadsLegal.of_same {s t : State} (h : ReadsLegal s) (run : t.run = s.run) (slots : t.slots = s.slots)
    (work : t.work = s.work) (bus : t.bus = s.bus) (held : t.clock.held = s.clock.held) : ReadsLegal t :=
  (SlotStep.of_same run slots work bus held).readsLegal h

theorem slotReadFailed_same (s : State) (x : SlotId) :
    (s.slotReadFailed x).clock = s.clock ∧ (s.slotReadFailed x).sessions = s.sessions := by
  unfold State.slotReadFailed; simp

theorem completionWritten_same (s : State) (x : SlotId) (ok : Bool) :
    (s.completionWritten x ok).clock = s.clock ∧ (s.completionWritten x ok).sessions = s.sessions := by
  unfold State.completionWritten; cases ok <;> simp

/-- The end of a completion write (R194). -/
theorem completionWritten_slotLegal {s : State} (h : ReadsLegal s) (x : SlotId) (ok : Bool) :
    SlotLegal (s.completionWritten x ok) := by
  have written := h.setSlot x { s.slot x with unwritten := (s.slot x).unwritten - 1 } rfl
    (fun e => by rw [e]; rfl)
  unfold State.completionWritten; dsimp only
  refine ReadsLegal.readReadySlots ?_
  cases ok
  · exact written.of_same rfl rfl rfl rfl rfl
  · exact written.of_same rfl rfl rfl rfl rfl

/-- The transfers whose end is more than a step beside the clock: slots become ready, or the run state changes. -/
def Xfer.plain : Xfer → Bool
  | .request .settings | .request (.slotRead _) | .request (.completion ..) => false
  | _ => true

theorem Xfer.counted_of_plain {x : Xfer} (h : x.plain = true) : x.counted = false := by
  match x with
  | .request w => cases w <;> first | rfl | nomatch h
  | .faultRecord | .fetch .. | .result .. | .retire .. | .holds | .nowHold .. | .board .. | .finalBoard .. | .mirrors => rfl

/-- R200: a plain transfer that ends as a bus error. -/
theorem Beside.failTransfer {c : Prop} {s t : State} (h : Beside c s t) {x : Xfer} (k : x.plain = true) :
    Beside c s (t.failTransfer x) := by
  have fetched (pl : Player) (kind : FetchKind) : Moved t (t.failFetch pl kind) :=
    Moves.refl.endRead trivial _ (fun u m => by
      cases kind
      · exact m.headerRead trivial none
      · exact m.rereadHeader trivial none
      · exact m.recordRead trivial none
      · exact m.linkRead trivial none)
  match x with
  | .request (.descriptor pl _) => exact h.descriptorRead pl none
  | .request (.profile pad addr claimed) => exact h.profileRead pad addr claimed none
  | .request (.table ..) => exact h.padWriteEnded false _
  | .request (.dump ..) => exact h.padWriteEnded false _
  | .faultRecord => exact h
  | .fetch pl kind => exact h.moved (fetched pl kind)
  | .result pl i => exact h.moved (Moves.refl.resultLost trivial i)
  | .retire pl seq => exact h.moved (Moves.refl.retirementLost trivial seq)
  | .holds => exact h.endHolds none
  | .nowHold pl => exact h.endNowHold pl none
  | .board pl serial => exact h.endBoard pl serial false
  | .finalBoard pl _ => exact h.endFinalBoard pl false
  | .mirrors => exact h.endMirrors false

/-- A bus error of any transfer leaves the clock and keeps the laws of the sessions. -/
theorem failTransfer_laws (s : State) (x : Xfer) :
    (s.failTransfer x).clock = s.clock ∧ (SongLaw s → SongLaw (s.failTransfer x)) := by
  by_cases k : x.plain = true
  · exact ⟨((Beside.refl (c := True) s).failTransfer k).clock, ((Beside.refl (c := True) s).failTransfer k).song⟩
  · match x with
    | .request .settings => exact ⟨rfl, .of_same rfl rfl⟩
    | .request (.slotRead y) =>
      obtain ⟨clock, sessions⟩ := slotReadFailed_same s y
      exact ⟨clock, .of_same (congrArg Clock.state clock) sessions⟩
    | .request (.completion y ..) =>
      obtain ⟨clock, sessions⟩ := completionWritten_same s y false
      exact ⟨clock, .of_same (congrArg Clock.state clock) sessions⟩
    | .request (.descriptor ..) | .request (.profile ..) | .request (.table ..) | .request (.dump ..) | .faultRecord
    | .fetch .. | .result .. | .retire .. | .holds | .nowHold .. | .board .. | .finalBoard .. | .mirrors =>
      exact absurd rfl k

/-- A bus error of any transfer keeps the laws of the slots. -/
theorem Ended.failTransfer {s u : State} {x : Xfer} (h : Ended s u x) (k : SlotLegal s) : SlotLegal (u.failTransfer x) := by
  by_cases p : x.plain = true
  · exact (((Beside.refl u).failTransfer p).slot trivial).slotLegal ((h.slotStep (Xfer.counted_of_plain p)).slotLegal k)
  · match x with
    | .request .settings => exact h.settings k rfl rfl rfl rfl (.inl rfl)
    | .request (.slotRead y) =>
      exact ReadsLegal.readReadySlots ((h.readsLegal k).of_same rfl rfl rfl rfl rfl)
    | .request (.completion y ..) => exact completionWritten_slotLegal ((h.slotStep rfl).readsLegal k.2) y false
    | .request (.descriptor ..) | .request (.profile ..) | .request (.table ..) | .request (.dump ..) | .faultRecord
    | .fetch .. | .result .. | .retire .. | .holds | .nowHold .. | .board .. | .finalBoard .. | .mirrors =>
      exact absurd rfl p

namespace LawsKept

variable {s t u : State}

theorem refl (s : State) : LawsKept s s := (Beside.refl s).lawsKept

/-- The bus is freed of a silent transfer, which nothing counts (R189, R190). -/
theorem freeBus_silent {x : Transfer} (e : s.bus.inFlight = some x) (quiet : x.silent = true) : LawsKept s s.freeBus where
  clock := rfl
  slots := SlotStep.slotLegal (s := s)
    ⟨rfl, fun w _ => by simp [Outstanding, e, quiet, State.freeBus], fun _ => .inr rfl, fun _ => .refl _, .inl rfl, fun _ _ c => c⟩
  song := .of_same rfl rfl

/-- The end of a transfer, dealt with as `deal` says, that keeps the laws if the deal does. -/
theorem endTransfer (is : Xfer → Bool) (deal : Xfer → State → State)
    (k : ∀ x u, is x = true → (deal x u).clock = u.clock ∧ (SongLaw u → SongLaw (deal x u)))
    (slots : ∀ x u, is x = true → SlotLegal s → Ended s u x → SlotLegal (deal x u)) :
    LawsKept s (s.endTransfer is deal) := by
  rcases s.endTransfer_cases is deal with e | ⟨x, fly, quiet, e⟩ | ⟨x, fly, h, loud, e⟩
  · rw [e]; exact .refl s
  · rw [e]; exact freeBus_silent fly quiet
  · rw [e]
    obtain ⟨clock, song⟩ := k x.what s.freeBus h
    exact ⟨clock, fun legal => slots _ _ h legal (ended_freeBus legal fly loud), fun l => song (l.of_same rfl rfl)⟩

/-- The end of a transfer that is not counted, dealt with by a step beside the clock. -/
theorem endPlain (is : Xfer → Bool) (deal : Xfer → State → State)
    (k : ∀ x u, is x = true → x.counted = false ∧ Beside True u (deal x u)) : LawsKept s (s.endTransfer is deal) :=
  endTransfer is deal (fun x u h => ⟨(k x u h).2.clock, (k x u h).2.song⟩)
    (fun x u h legal e => ((k x u h).2.slot trivial).slotLegal ((e.slotStep (k x u h).1).slotLegal legal))

end LawsKept

/-! ### Grants (R195, R199) -/

/-- The request client's grant takes the front of the work list, and the attention of a slot that is read (R193, R195). -/
theorem ended_grantWork {s : State} {w : Work} {rest : List Work} (e : s.work = w :: rest) (free : s.bus.inFlight = none)
    (awake : s.run ≠ .resetting) : Ended s ((s.setWork rest).grantWork w) (.request w) := by
  have count (v : Work) : Outstanding s v = Outstanding (s.setWork rest) v + if Xfer.request w = .request v then 1 else 0 := by
    simp only [Outstanding, e, List.count_cons, State.work_setWork, State.bus_setWork, free, Xfer.request.injEq, beq_iff_eq]
    simp
  have plain (k : (s.setWork rest).grantWork w = s.setWork rest) : Ended s ((s.setWork rest).grantWork w) (.request w) := by
    rw [k]
    exact ⟨rfl, awake, free, fun v _ => count v, fun _ => .refl _, rfl, fun _ c => c⟩
  match w with
  | .slotRead x =>
    refine ⟨rfl, awake, free, fun v _ => count v, fun y => ?_, rfl, fun y c => ?_⟩
    · show SlotMove (s.slot y) (((s.setWork rest).setSlot x _).slot y)
      rw [State.slot_setSlot]
      split
      · rename_i f; rw [f]
        exact ⟨rfl, fun h => (nomatch h), le_rfl, fun h _ => h⟩
      · exact .refl _
    · show ((s.setWork rest).setSlot x _).slot y = _
      rw [State.slot_setSlot]
      split
      · rename_i f; rw [f] at c
        rw [State.slot_setWork, c]; rfl
      · exact c
  | .settings | .completion .. | .descriptor .. | .profile .. | .table .. | .dump .. => exact plain rfl

/-- What every grant gives: a transfer that will be reported, taken from where it waited. -/
theorem grantOf_cases {s : State} {c : Client} {g : Grant} (h : s.grantOf c = some g) (free : s.bus.inFlight = none)
    (awake : s.run ≠ .resetting) :
    Ended s g.state g.transfer.what ∧ g.transfer.silent = false ∧ g.state.clock = s.clock ∧ g.state.sessions = s.sessions := by
  have outside (u : State) (x : Xfer) (k : x.counted = false) (run : u.run = s.run) (slots : u.slots = s.slots)
      (work : u.work = s.work) (bus : u.bus = s.bus) (clock : u.clock = s.clock) : Ended s u x := by
    have step : SlotStep s u := .of_same run slots work bus (by rw [clock])
    refine ⟨run, awake, by rw [bus, free], fun w c => ?_, step.slot, by rw [clock], fun y c => ?_⟩
    · rw [step.outstanding w c, if_neg, Nat.add_zero]
      rintro rfl
      exact absurd c (by rw [show w.counted = false from k]; decide)
    · exact (congrArg (PerSlot.get · y) slots).trans c
  cases c with
  | request =>
    unfold State.grantOf State.grantRequest at h
    dsimp only at h
    split at h
    · obtain rfl := Option.some.inj h
      exact ⟨outside _ _ rfl rfl rfl rfl rfl rfl, rfl, rfl, rfl⟩
    · split at h
      · nomatch h
      · rename_i w rest e
        obtain rfl := Option.some.inj h
        have granted := ended_grantWork e free awake
        have same : ((s.setWork rest).grantWork w).clock = s.clock ∧ ((s.setWork rest).grantWork w).sessions = s.sessions := by
          cases w <;> exact ⟨rfl, rfl⟩
        cases w <;> exact ⟨granted, rfl, same⟩
  | fetch pl =>
    obtain ⟨r, -, rfl⟩ := Option.map_eq_some_iff.mp h
    exact ⟨outside _ _ rfl rfl rfl rfl rfl rfl, rfl, rfl, rfl⟩
  | write pl =>
    unfold State.grantOf State.grantWrite at h
    dsimp only at h
    split at h
    · nomatch h
    · rename_i x rest e
      obtain rfl := Option.some.inj h
      cases x <;> exact ⟨outside _ _ rfl rfl rfl rfl rfl rfl, rfl, rfl, rfl⟩
  | refresh =>
    unfold State.grantOf State.grantRefresh at h
    dsimp only at h
    split at h
    · nomatch h
    · split at h
      · nomatch h
      · rename_i x rest e
        obtain rfl := Option.some.inj h
        cases x <;> exact ⟨outside _ _ rfl rfl rfl rfl rfl rfl, rfl, rfl, rfl⟩

/-- BUS_GRANT: the transfer goes out, or ends at once as a bus error (R199, R200). -/
theorem busGrant_lawsKept (s : State) : LawsKept s s.busGrant := by
  unfold State.busGrant; split
  · rename_i free
    obtain ⟨grants, free⟩ := free
    have awake : s.run ≠ .resetting := by intro r; rw [r] at grants; nomatch grants
    split
    · exact .refl s
    · split
      · exact .refl s
      · rename_i c _ _ g e
        obtain ⟨ended, loud, clock, sessions⟩ := grantOf_cases e free awake
        have taken : Ended s (g.state.setBus { g.state.bus with last := c }) g.transfer.what :=
          ⟨ended.run, awake, ended.inFlight, ended.outstanding, ended.slot, ended.held, ended.clear⟩
        unfold State.startTransfer; split
        · refine ⟨clock, SlotStep.slotLegal ⟨ended.run, fun w k => ?_, fun r => absurd r awake, ended.slot, .inl ended.held,
            fun _ => ended.clear⟩, .of_same (congrArg Clock.state clock) sessions⟩
          rw [ended.outstanding w k]
          by_cases e : g.transfer.what = .request w <;>
            simp [Outstanding, ended.inFlight, e, loud]
        · obtain ⟨kept, song⟩ := failTransfer_laws (g.state.setBus { g.state.bus with last := c }) g.transfer.what
          exact ⟨kept.trans clock, taken.failTransfer,
            fun l => song (l.of_same (congrArg Clock.state clock) sessions)⟩
  · exact .refl s

/-- BUS_TIMEOUT (R200). -/
theorem busTimeout_lawsKept (s : State) : LawsKept s s.busTimeout :=
  .endTransfer _ _ (fun x u _ => failTransfer_laws u x) (fun _ _ _ legal e => e.failTransfer legal)

end Sys2Proof.Machine

namespace Sys2Proof.Machine

/-! ### Steps of the song clock

What a step does that may change the clock: the laws of the slots and of the sessions, the clock's own law, and a song time
that does not fall while the clock is not IDLE. -/

structure SongStep (s t : State) : Prop where
  slot : s.run = .operating → SlotStep s t
  song : SongLaw s → SongLaw t
  legal : ClockLegal s.clock → ClockLegal t.clock
  time : ClockLegal s.clock → s.clock.state ≠ .idle → s.clock.songTime ≤ t.clock.songTime

theorem Beside.songStep {s t : State} (h : Beside (s.run = .operating) s t) : SongStep s t where
  slot := h.slot
  song := h.song
  legal := by rw [h.clock]; exact id
  time _ _ := by rw [h.clock]

theorem Moves.songStep {s t : State} (h : Moved s t) : SongStep s t := ((Beside.refl s).moved h).songStep

namespace SongStep

variable {s t u : State}

theorem refl (s : State) : SongStep s s := (Beside.refl s).songStep

/-- Two steps, the clock not IDLE between them unless it was before. -/
theorem trans (h : SongStep s t) (k : SongStep t u) (live : s.clock.state ≠ .idle → t.clock.state ≠ .idle) :
    SongStep s u where
  slot op := (h.slot op).trans (k.slot ((h.slot op).run.trans op))
  song x := k.song (h.song x)
  legal x := k.legal (h.legal x)
  time x n := (h.time x n).trans (k.time (h.legal x) (live n))

/-- The clock's state is the same after the first of two steps. -/
theorem trans_of_state (h : SongStep s t) (k : SongStep t u) (e : t.clock.state = s.clock.state) : SongStep s u :=
  h.trans k (by rw [e]; exact id)

/-- The clock enters a state in which the song is on. -/
theorem trans_of_on (h : SongStep s t) (k : SongStep t u) (e : t.clock.state = .running ∨ t.clock.state = .paused) :
    SongStep s u :=
  h.trans k (fun _ => by rcases e with e | e <;> rw [e] <;> decide)

/-- A step that changes the clock, and beside it nothing that the laws speak of. -/
theorem of_clock (run : t.run = s.run) (slots : t.slots = s.slots) (work : t.work = s.work) (bus : t.bus = s.bus)
    (sessions : t.sessions = s.sessions) (held : t.clock.held = s.clock.held)
    (on : t.clock.state = s.clock.state ∨ t.clock.state = .running ∨ t.clock.state = .paused)
    (legal : ClockLegal s.clock → ClockLegal t.clock)
    (time : ClockLegal s.clock → s.clock.songTime ≤ t.clock.songTime) : SongStep s t where
  slot _ := .of_same run slots work bus held
  song h := by
    rcases on with e | e
    · exact h.of_same e sessions
    · exact ⟨fun _ _ => e, fun pl => (congrArg (fun x => (PerPlayer.get x pl).returnState) sessions) ▸ h.2 pl⟩
  legal := legal
  time x _ := time x

/-- A change of the clock alone. -/
theorem onClock (f : Clock → Clock) (held : (f s.clock).held = s.clock.held)
    (on : (f s.clock).state = s.clock.state ∨ (f s.clock).state = .running ∨ (f s.clock).state = .paused)
    (legal : ClockLegal s.clock → ClockLegal (f s.clock))
    (time : ClockLegal s.clock → s.clock.songTime ≤ (f s.clock).songTime) : SongStep s (s.onClock f) :=
  .of_clock rfl rfl rfl rfl rfl held on legal time

end SongStep

/-! ### The clock's own changes (R3 to R8, R11 to R15) -/

/-- R8: the value is one that the last pulse reaches by steps of 8. -/
theorem le_reacquired (p v : Int) : p ≤ reacquired p v ∧ v ≤ reacquired p v := by
  unfold reacquired; omega

end Sys2Proof.Machine

namespace Sys2Proof.ClockLegal

open Machine

variable {c : Clock}

/-- A change of the clock outside the law's fields. -/
theorem of_same {a b : Clock} (h : ClockLegal a) (songTime : b.songTime = a.songTime)
    (lastPulse : b.lastPulse = a.lastPulse) (start : b.start = a.start) (phase : b.phase = a.phase)
    (run : b.anomalyRun = a.anomalyRun) (wait : b.wait = a.wait) (state : b.state = a.state) (mode : b.mode = a.mode) :
    ClockLegal b := by
  simp only [ClockLegal, songTime, lastPulse, start, phase, run, wait, state, mode]
  exact h

theorem countPhase (h : ClockLegal c) : ClockLegal c.countPhase := by
  obtain ⟨time, pulse, start, phase, rest⟩ := h
  exact ⟨time, pulse, start, min_le_left _ _, rest⟩

theorem countWait (h : ClockLegal c) : ClockLegal c.countWait := by
  obtain ⟨time, pulse, start, phase, run, wait, rest⟩ := h
  exact ⟨time, pulse, start, phase, run, min_le_left _ _, rest⟩

theorem advanceLocked (h : ClockLegal c) (running : c.state = .running) (locked : c.mode = .locked) :
    ClockLegal c.advanceLocked ∧ c.songTime ≤ c.advanceLocked.songTime := by
  obtain ⟨time, pulse, start, phase, run, wait, starting, bound⟩ := h
  obtain ⟨low, high⟩ := bound running locked
  simp only [InSong] at time pulse
  have value : c.advanceLocked.songTime = min (min (c.songTime + 1) (c.lastPulse + 7)) 8388607 := rfl
  refine ⟨⟨?_, pulse, start, phase, run, wait, fun e => ?_, fun _ _ => ?_⟩, by omega⟩
  · rw [InSong, value]; omega
  · rw [show c.advanceLocked.state = c.state from rfl, running] at e; nomatch e
  · rw [value]; show c.lastPulse ≤ _ ∧ _ ≤ c.lastPulse + 7; omega

theorem advanceFree (h : ClockLegal c) (running : c.state = .running) (free : c.mode = .free) :
    ClockLegal c.advanceFree ∧ c.songTime ≤ c.advanceFree.songTime := by
  obtain ⟨time, pulse, start, phase, run, wait, starting, bound⟩ := h
  simp only [InSong] at time pulse
  have value : c.advanceFree.songTime = min (c.songTime + 1) 8388607 := rfl
  refine ⟨⟨?_, pulse, start, phase, run, wait, fun e => ?_, fun _ e => ?_⟩, by omega⟩
  · rw [InSong, value]; omega
  · rw [show c.advanceFree.state = c.state from rfl, running] at e; nomatch e
  · rw [show c.advanceFree.mode = c.mode from rfl, free] at e; nomatch e

theorem pulseLocked (h : ClockLegal c) (running : c.state = .running) (locked : c.mode = .locked) :
    ClockLegal c.pulseLocked ∧ c.songTime ≤ c.pulseLocked.songTime := by
  obtain ⟨time, pulse, start, phase, run, wait, starting, bound⟩ := h
  obtain ⟨low, high⟩ := bound running locked
  simp only [InSong] at time pulse
  have value : c.pulseLocked.songTime = min (c.lastPulse + 8) 8388607 := rfl
  have same : c.pulseLocked.lastPulse = c.pulseLocked.songTime := rfl
  refine ⟨⟨?_, ?_, start, phase, run, wait, fun e => ?_, fun _ _ => ?_⟩, by omega⟩
  · rw [InSong, value]; omega
  · rw [InSong, same, value]; omega
  · rw [show c.pulseLocked.state = c.state from rfl, running] at e; nomatch e
  · omega

theorem reacquire (h : ClockLegal c) (running : c.state = .running) :
    ClockLegal c.reacquire ∧ c.songTime ≤ c.reacquire.songTime := by
  obtain ⟨time, pulse, start, phase, run, wait, starting, bound⟩ := h
  simp only [InSong] at time pulse
  have reach := le_reacquired c.lastPulse c.songTime
  have value : c.reacquire.songTime = min (reacquired c.lastPulse c.songTime) 8388607 := rfl
  have same : c.reacquire.lastPulse = c.reacquire.songTime := rfl
  refine ⟨⟨?_, ?_, start, phase, run, wait, fun e => ?_, fun _ _ => ?_⟩, by omega⟩
  · rw [InSong, value]; omega
  · rw [InSong, same, value]; omega
  · rw [show c.reacquire.state = c.state from rfl, running] at e; nomatch e
  · omega

/-- A clock that is not STARTING, and not both RUNNING and LOCKED, has its ranges alone to keep. -/
theorem leave (h : ClockLegal c) {d : Clock} (songTime : d.songTime = c.songTime) (lastPulse : InSong d.lastPulse)
    (start : d.start = c.start) (phase : d.phase ≤ 32) (run : d.anomalyRun ≤ 3) (wait : d.wait ≤ 32)
    (state : d.state ≠ .starting)
    (bound : d.state = .running → d.mode = .locked → d.lastPulse ≤ d.songTime ∧ d.songTime ≤ d.lastPulse + 7) :
    ClockLegal d :=
  ⟨by rw [songTime]; exact h.1, lastPulse, by rw [start]; exact h.2.2.1, phase, run, wait, fun e => absurd e state, bound⟩

end Sys2Proof.ClockLegal

namespace Sys2Proof.Machine

/-! ### Both players -/

theorem Moves.eachPlayer {P : Player → Prop} {s t : State} (h : Moves P s t) (first : Player) (f : Player → State → State)
    (k : ∀ pl u, Moves P s u → Moves P s (f pl u)) : Moves P s (t.eachPlayer first f) := k _ _ (k _ _ h)

theorem Moves.playIfArmed {P : Player → Prop} {s t : State} {pl : Player} (h : Moves P s t) (hp : P pl)
    (on : s.clock.state = .running ∨ s.clock.state = .paused) : Moves P s (t.playIfArmed pl) := by
  unfold State.playIfArmed; split
  exacts [h.becomePlaying hp ‹_› (by rwa [h.inner.clock]), h]

/-- R15: a player that was PLAYING is CLOSING, ABORTED unless its outcome had been decided. -/
theorem abortIfPlaying_of_playing {s : State} {pl : Player} (h : (s.session pl).state = .playing) :
    ((s.abortIfPlaying pl).session pl).state = .closing
      ∧ ((s.abortIfPlaying pl).scoreUnit pl).outcome
        = if (s.scoreUnit pl).outcome = .none then .aborted else (s.scoreUnit pl).outcome := by
  have start : Moves (fun _ => True) ((s.onScore pl (fun c => c.conclude .aborted)).onSession pl
      (fun x => { x with state := .closing, finalAsked := false })) (s.abortIfPlaying pl) := by
    unfold State.abortIfPlaying
    rw [if_pos h]
    exact ((Moves.refl.stopFetcher trivial).finishEntries trivial).askFinal trivial
  have outcome : (((s.onScore pl (fun c => c.conclude .aborted)).onSession pl
      (fun x => { x with state := .closing, finalAsked := false })).scoreUnit pl).outcome
        = if (s.scoreUnit pl).outcome = .none then .aborted else (s.scoreUnit pl).outcome := by
    simp only [State.onSession, State.onScore, State.scoreUnit_setSession, State.scoreUnit_setScore_same, Score.conclude]
    split <;> simp_all
  refine ⟨start.closing pl (by simp [State.onSession]), ?_⟩
  rw [(start.score pl).outcome (by rw [outcome]; split <;> simp_all), outcome]

/-- R15: no player is left PLAYING; a PLAYING one is CLOSING, another is left alone. -/
theorem abortBoth_player (s : State) (first pl : Player) :
    ((s.session pl).state = .playing →
        ((s.eachPlayer first (fun pl s => s.abortIfPlaying pl)).session pl).state = .closing
        ∧ ((s.eachPlayer first (fun pl s => s.abortIfPlaying pl)).scoreUnit pl).outcome
          = if (s.scoreUnit pl).outcome = .none then .aborted else (s.scoreUnit pl).outcome)
      ∧ ((s.session pl).state ≠ .playing →
        (s.eachPlayer first (fun pl s => s.abortIfPlaying pl)).session pl = s.session pl
        ∧ (s.eachPlayer first (fun pl s => s.abortIfPlaying pl)).scoreUnit pl = s.scoreUnit pl) := by
  have alone (u : State) (q : Player) (h : pl ≠ q) :
      (u.abortIfPlaying q).session pl = u.session pl ∧ (u.abortIfPlaying q).scoreUnit pl = u.scoreUnit pl :=
    (Moves.refl.abortIfPlaying (P := fun r => r = q) rfl).others h
  have idle (u : State) (h : (u.session pl).state ≠ .playing) : u.abortIfPlaying pl = u := by
    unfold State.abortIfPlaying; rw [if_neg h]
  unfold State.eachPlayer; beta_reduce
  by_cases e : pl = first
  · subst e
    obtain ⟨session, score⟩ := alone (s.abortIfPlaying pl) pl.other (by cases pl <;> decide)
    rw [session, score]
    exact ⟨abortIfPlaying_of_playing, fun h => by rw [idle s h]; exact ⟨rfl, rfl⟩⟩
  · obtain rfl : first.other = pl := by cases pl <;> cases first <;> first | rfl | exact absurd rfl e
    obtain ⟨session, score⟩ := alone s first e
    refine ⟨fun h => ?_, fun h => ?_⟩
    · rw [← session] at h
      rw [← score]
      exact abortIfPlaying_of_playing h
    · rw [← session] at h
      rw [idle _ h, session, score]
      exact ⟨rfl, rfl⟩

theorem abortBoth_notPlaying (s : State) (first pl : Player) :
    ((s.eachPlayer first (fun pl s => s.abortIfPlaying pl)).session pl).state ≠ .playing := by
  obtain ⟨playing, other⟩ := abortBoth_player s first pl
  by_cases h : (s.session pl).state = .playing
  · rw [(playing h).1]; decide
  · rw [(other h).1]; exact h

theorem abortBoth_moved (s : State) (first : Player) : Moved s (s.eachPlayer first (fun pl s => s.abortIfPlaying pl)) :=
  Moves.refl.eachPlayer first _ (fun _ _ m => m.abortIfPlaying trivial)

/-! ### Requests of slot 0 (R9 to R15) -/

/-- A completion of an OPERATING part is beside the clock. -/
theorem complete_songStep {s : State} (x : SlotId) (tag : BitVec 16) (st : Status) (r : Word) :
    SongStep s (s.complete x tag st r) := ((Beside.refl s).complete id x tag st r).songStep

theorem songStart_songStep {s : State} (r : Request) : SongStep s (s.songStart r) := by
  unfold State.songStart; split
  · rename_i idle
    have start : SongStep s (s.onClock (fun c =>
        { c with
          start := clampInt Config.songMin Config.songMax r.arg0.toInt,
          songTime := clampInt Config.songMin Config.songMax r.arg0.toInt, wait := 0, state := .starting,
          waiting := some r })) := by
      have range : InSong (clampInt Config.songMin Config.songMax r.arg0.toInt) := by
        simp only [InSong, clampInt, Config.songMin, Config.songMax]; omega
      refine ⟨fun _ => (SlotStep.refl s).onClock _ rfl, fun h => ⟨fun pl p => ?_, h.2⟩, fun h => ?_, fun _ n => absurd idle n⟩
      · have on := h.1 pl p
        rw [idle] at on
        simp at on
      · obtain ⟨-, pulse, -, phase, run, -⟩ := h
        exact ⟨range, pulse, range, phase, run, Nat.zero_le _, fun _ => rfl, fun e => nomatch e⟩
    exact start.trans (Moves.refl.handToBoth .p0).songStep (fun n => absurd idle n)
  all_goals exact complete_songStep _ _ _ _

theorem songPause_songStep {s : State} (r : Request) : SongStep s (s.songPause r) := by
  unfold State.songPause; split
  · exact .onClock _ rfl (.inl rfl) (fun h => h) (fun _ => le_rfl)
  · exact complete_songStep _ _ _ _

theorem songResume_songStep {s : State} (r : Request) : SongStep s (s.songResume r) := by
  unfold State.songResume; split
  · refine .onClock _ rfl (.inl rfl) (fun h => ?_) (fun _ => le_rfl)
    obtain ⟨time, pulse, start, phase, run, -, rest⟩ := h
    exact ⟨time, pulse, start, phase, run, Nat.zero_le _, rest⟩
  · exact complete_songStep _ _ _ _

/-- R15: a waiting request is cancelled. -/
theorem cancelWaiting_songStep (s : State) : SongStep s s.cancelWaiting := by
  unfold State.cancelWaiting; split
  · exact .refl s
  · exact (SongStep.onClock (s := s) (fun c => { c with waiting := none }) rfl (.inl rfl) id (fun _ => le_rfl)).trans_of_state
      (complete_songStep _ _ _ _) rfl

/-- R15: the clock's stop together with both players' aborts keeps the laws; the clock is IDLE, and no player PLAYING. -/
theorem stopClock_songStep (s : State) (first : Player) :
    SongStep s ((s.onClock Clock.stop).eachPlayer first (fun pl s => s.abortIfPlaying pl)) := by
  have aborted := abortBoth_moved (s.onClock Clock.stop) first
  have clock := aborted.inner.clock
  refine ⟨fun _ => ((SlotStep.refl s).onClock Clock.stop rfl).moved aborted, fun h => ⟨fun pl p => ?_, fun pl => ?_⟩, fun h => ?_,
    fun _ _ => ?_⟩
  · exact absurd p (abortBoth_notPlaying _ first pl)
  · rw [aborted.returns]; exact h.2 pl
  · rw [clock]
    have ⟨_, pulse, _, phase, run, wait, _⟩ := h
    exact h.leave rfl pulse rfl phase run wait (fun e => nomatch e) (fun e => nomatch e)
  · rw [clock]; exact le_rfl

theorem stopDone_songStep (s : State) (r : Request) : SongStep s (s.stopDone r) := complete_songStep _ _ _ _

theorem songStop_songStep {s : State} (r : Request) (first : Player) :
    SongStep s (s.songStop r first) := by
  have cancel := cancelWaiting_songStep s
  have stop := cancel.trans_of_state (stopClock_songStep s.cancelWaiting first)
    (by unfold State.cancelWaiting; split <;> rfl)
  have last := stopDone_songStep ((s.cancelWaiting.onClock Clock.stop).eachPlayer first (fun pl s => s.abortIfPlaying pl)) r
  have done : SongStep s (State.stopDone _ r) :=
    ⟨fun op => (stop.slot op).trans (last.slot ((stop.slot op).run.trans op)), fun h => last.song (stop.song h),
      fun h => last.legal (stop.legal h), fun h n => stop.time h n⟩
  unfold State.songStop; split
  · exact complete_songStep _ _ _ _
  all_goals exact done

/-- R193: every request but the four song requests is served beside the clock. -/
theorem serve_cases {s : State} (slot : SlotId) (first : Player) (r : Request) :
    Beside (s.run = .operating) s (s.serve slot first r)
      ∨ slot = .slot0 ∧ (s.serve slot first r = s.songStart r ∨ s.serve slot first r = s.songPause r
        ∨ s.serve slot first r = s.songResume r ∨ s.serve slot first r = s.songStop r first) := by
  have zero (h : slotPlayer slot = none) : slot = .slot0 := by cases slot <;> first | rfl | nomatch h
  unfold State.serve; split
  · exact .inr ⟨zero ‹_›, .inl rfl⟩
  · exact .inr ⟨zero ‹_›, .inr (.inl rfl)⟩
  · exact .inr ⟨zero ‹_›, .inr (.inr (.inl rfl))⟩
  · exact .inr ⟨zero ‹_›, .inr (.inr (.inr rfl))⟩
  · exact .inl ((Beside.refl s).loadProfile id r)
  · exact .inl ((Beside.refl s).calibrate id r)
  · exact .inl ((Beside.refl s).sensorDump id r)
  · exact .inl ((Beside.refl s).takeArm id _ r)
  · exact .inl ((Beside.refl s).takeAbandon id _ r)
  · exact .inl ((Beside.refl s).takeRefreshNow id _ r)
  · exact .inl ((Beside.refl s).complete id _ _ _ _)

theorem serve_songStep {s : State} (slot : SlotId) (first : Player) (r : Request) :
    SongStep s (s.serve slot first r) := by
  rcases serve_cases slot first r with h | ⟨-, h | h | h | h⟩
  · exact h.songStep
  · rw [h]; exact songStart_songStep r
  · rw [h]; exact songPause_songStep r
  · rw [h]; exact songResume_songStep r
  · rw [h]; exact songStop_songStep r first

/-- R10: the held request starts while a completion of slot 0 is unwritten. -/
theorem startHeld_songStep {s : State} (first : Player) (k : (s.slot .slot0).unwritten ≠ 0) :
    SongStep s (s.startHeld first) := by
  unfold State.startHeld; split
  · exact .refl s
  · have dropped : SongStep s (s.onClock (fun c => { c with held := none })) :=
      ⟨fun _ => (SlotStep.refl s).dropHeld k, .of_same rfl rfl, id, fun _ _ => le_rfl⟩
    exact dropped.trans_of_state (serve_songStep _ _ _) rfl

theorem completeWaiting_songStep {s : State} (st : Status) (result : Word) (first : Player) :
    SongStep s (s.completeWaiting st result first) := by
  unfold State.completeWaiting; split
  · exact .refl s
  · rename_i r _
    have done := (SongStep.onClock (s := s) (fun c => { c with waiting := none }) rfl (.inl rfl) id
      (fun _ => le_rfl)).trans_of_state (complete_songStep .slot0 r.tag st result) rfl
    exact done.trans_of_state (startHeld_songStep first (by simp)) rfl

/-! ### Slot reads (R193) -/

theorem takenKind_songStop {slot : SlotId} {kind : BitVec 16} (h : takenKind slot kind = some .songStop) : slot = .slot0 := by
  unfold takenKind at h
  split at h
  · rfl
  · split at h <;> nomatch h

/-- A read of slot 0 is SONG_STOP, or a slot other than 0 was read. -/
theorem serve_songStop {s : State} {r : Request} (first : Player) (h : takenKind .slot0 r.kind = some .songStop) :
    s.serve .slot0 first r = s.songStop r first := by
  unfold State.serve; rw [h]; rfl

theorem songStop_unwritten (s : State) (r : Request) (first : Player) :
    ((s.songStop r first).slot .slot0).unwritten ≠ 0 := by
  unfold State.songStop State.stopDone
  split <;> simp

/-- What a slot read that hands over a request can do: nothing, hold the request back, serve it, or serve a SONG_STOP and then
start the held request (R10, R193). -/
theorem takeRead_cases (s : State) (slot : SlotId) (kind : BitVec 16) (w : SlotWords) (first : Player) :
    SongStep s (s.takeRead slot kind w first)
      ∨ slot = .slot0 ∧ s.takeRead slot kind w first = s.holdBack (SlotWords.request kind w)
      ∨ slot = .slot0 ∧ ∃ u, SongStep s u ∧ (u.slot .slot0).unwritten ≠ 0
        ∧ s.takeRead slot kind w first = u.startHeld first := by
  unfold State.takeRead; dsimp only; split
  · exact .inl (.refl s)
  · split
    · rename_i back
      simp only [State.isHeldBack, Bool.and_eq_true, beq_iff_eq] at back
      exact .inr (.inl ⟨back.1.1, rfl⟩)
    · have served := serve_songStep (s := s) slot first (SlotWords.request kind w)
      split
      · rename_i stop
        obtain rfl := takenKind_songStop stop
        refine .inr (.inr ⟨rfl, _, served, ?_, rfl⟩)
        rw [serve_songStop first stop]
        exact songStop_unwritten s _ first
      · exact .inl served

theorem takeRead_readsLegal {s : State} (op : s.run = .operating) (slot : SlotId) (kind : BitVec 16) (w : SlotWords)
    (first : Player) (k : ReadsLegal s) (free : slot = .slot0 → (s.slot .slot0).readInFlight = false) :
    ReadsLegal (s.takeRead slot kind w first) := by
  rcases takeRead_cases s slot kind w first with h | ⟨rfl, e⟩ | ⟨-, u, h, unwritten, e⟩
  · exact (h.slot op).readsLegal k
  · rw [e]
    refine ⟨fun o => ⟨(k.1 o).1, fun _ => free rfl⟩, fun r => ?_, k.2.2.1, k.2.2.2⟩
    rw [show (s.holdBack (SlotWords.request kind w)).run = s.run from rfl, op] at r
    simp at r
  · rw [e]
    exact ((h.slot op).trans ((startHeld_songStep first unwritten).slot ((h.slot op).run.trans op))).readsLegal k

/-- A slot read keeps the laws of the clock and of the sessions. -/
theorem takeRead_laws (s : State) (slot : SlotId) (kind : BitVec 16) (w : SlotWords) (first : Player) :
    (SongLaw s → SongLaw (s.takeRead slot kind w first))
      ∧ (ClockLegal s.clock → ClockLegal (s.takeRead slot kind w first).clock) := by
  rcases takeRead_cases s slot kind w first with h | ⟨-, e⟩ | ⟨-, u, h, unwritten, e⟩
  · exact ⟨h.song, h.legal⟩
  · rw [e]; exact ⟨.of_same rfl rfl, id⟩
  · have held := startHeld_songStep first unwritten
    rw [e]; exact ⟨fun l => held.song (h.song l), fun l => held.legal (h.legal l)⟩

/-- Song time does not fall at a slot read, with no request held when it is slot 0's. -/
theorem takeRead_time {s : State} (op : s.run = .operating) (slot : SlotId) (kind : BitVec 16) (w : SlotWords) (first : Player)
    (legal : ClockLegal s.clock) (live : s.clock.state ≠ .idle) (noHeld : slot = .slot0 → s.clock.held = none) :
    s.clock.songTime ≤ (s.takeRead slot kind w first).clock.songTime := by
  rcases takeRead_cases s slot kind w first with h | ⟨-, e⟩ | ⟨zero, u, h, -, e⟩
  · exact h.time legal live
  · rw [e]; exact le_rfl
  · have still : u.clock.held = none := by
      rcases (h.slot op).held with f | ⟨f, -⟩
      · rw [f, noHeld zero]
      · exact f
    rw [e, State.startHeld, still]
    exact h.time legal live

/-- A slot read is the end of the transfer in flight, a silent one, or nothing. -/
theorem slotRead_cases (s : State) (slot : SlotId) (kind : BitVec 16) (w : SlotWords) (first : Player) :
    LawsKept s (s.slotRead slot kind w first)
      ∨ ∃ t, s.bus.inFlight = some t ∧ t.silent = false ∧ t.what = .request (.slotRead slot)
        ∧ s.slotRead slot kind w first
          = (((s.freeBus.slotReadOver slot).takeRead slot kind w first).readReadySlots) := by
  unfold State.slotRead
  rcases s.endTransfer_cases (Xfer.isSlotRead slot) (fun _ s =>
    ((s.slotReadOver slot).takeRead slot kind w first).readReadySlots) with e | ⟨x, fly, quiet, e⟩ | ⟨x, fly, h, loud, e⟩
  · rw [e]; exact .inl (.refl s)
  · rw [e]; exact .inl (.freeBus_silent fly quiet)
  · refine .inr ⟨x, fly, loud, ?_, e⟩
    unfold Xfer.isSlotRead at h
    split at h
    · rename_i y what
      rw [what, of_decide_eq_true h]
    · nomatch h

/-- R193: the end of a slot read keeps the laws of clock and sessions. -/
theorem slotRead_laws (s : State) (slot : SlotId) (kind : BitVec 16) (w : SlotWords) (first : Player) :
    (SongLaw s → SongLaw (s.slotRead slot kind w first))
      ∧ (ClockLegal s.clock → ClockLegal (s.slotRead slot kind w first).clock) := by
  rcases slotRead_cases s slot kind w first with h | ⟨t, -, -, -, e⟩
  · exact ⟨h.song, fun l => by rwa [h.clock]⟩
  · obtain ⟨song, legal⟩ := takeRead_laws (s.freeBus.slotReadOver slot) slot kind w first
    rw [e, State.clock_readReadySlots]
    exact ⟨fun l => (song (l.of_same rfl rfl)).of_same (by simp) (by simp), legal⟩

theorem slotRead_slotLegal {s : State} (k : SlotLegal s) (slot : SlotId) (kind : BitVec 16) (w : SlotWords) (first : Player) :
    SlotLegal (s.slotRead slot kind w first) := by
  rcases slotRead_cases s slot kind w first with h | ⟨t, fly, loud, what, e⟩
  · exact h.slots k
  · have ended := ended_freeBus k fly loud
    rw [what] at ended
    rw [e]
    refine (takeRead_readsLegal (s := s.freeBus.slotReadOver slot) (ended.slotRead k).1 slot kind w first
      (ended.readsLegal k) ?_).readReadySlots
    rintro rfl
    simp

theorem slotRead_time {s : State} (k : SlotLegal s) (slot : SlotId) (kind : BitVec 16) (w : SlotWords) (first : Player)
    (legal : ClockLegal s.clock) (live : s.clock.state ≠ .idle) :
    s.clock.songTime ≤ (s.slotRead slot kind w first).clock.songTime := by
  rcases slotRead_cases s slot kind w first with h | ⟨t, fly, loud, what, e⟩
  · rw [h.clock]
  · have ended := ended_freeBus k fly loud
    rw [what] at ended
    obtain ⟨op, reading, -⟩ := ended.slotRead k
    rw [e, State.clock_readReadySlots]
    refine takeRead_time (s := s.freeBus.slotReadOver slot) op slot kind w first legal live ?_
    rintro rfl
    by_contra held
    rw [(k.2.1 op).2 held] at reading
    nomatch reading

end Sys2Proof.Machine

namespace Sys2Proof.Machine

/-! ### The clock's commands (R3 to R8, R12 to R14) -/

/-- R5, R6: what the spacing check makes of the clock. -/
theorem clock_checkSpacing (s : State) : s.checkSpacing.clock =
    { s.clock with
      phase := 0,
      anomalyRun := if spacingGood s.clock.phase ∨ 3 ≤ s.clock.anomalyRun then 0 else s.clock.anomalyRun + 1 } := by
  unfold State.checkSpacing; dsimp only; split
  · rename_i good
    simp only [State.onClock, State.clock_setClock, good, true_or, if_true]
  · rename_i bad
    have full : ((s.logFault .syncAnomaly none 0 0).onClock (fun c => { c with anomalyRun := c.anomalyRun + 1 })).clock.runFull
        = decide (3 ≤ s.clock.anomalyRun) :=
      decide_eq_decide.mpr (by show 4 ≤ s.clock.anomalyRun + 1 ↔ _; omega)
    rw [full]
    by_cases many : 3 ≤ s.clock.anomalyRun
    · simp only [many, decide_true, if_true, or_true]; rfl
    · simp only [many, bad, decide_false]; rfl

/-- R5, R6: beside the clock a spacing check changes the Fault Record, notices and flags alone. -/
theorem checkSpacing_same (s : State) : s.checkSpacing.run = s.run ∧ s.checkSpacing.slots = s.slots
    ∧ s.checkSpacing.work = s.work ∧ s.checkSpacing.bus = s.bus ∧ s.checkSpacing.sessions = s.sessions := by
  unfold State.checkSpacing; dsimp only; split
  · exact ⟨rfl, rfl, rfl, rfl, rfl⟩
  · split <;> simp [State.reportAnomalies, State.onClock]

theorem checkSpacing_songStep (s : State) : SongStep s s.checkSpacing := by
  obtain ⟨run, slots, work, bus, sessions⟩ := checkSpacing_same s
  have clock := clock_checkSpacing s
  refine .of_clock run slots work bus sessions (by rw [clock]) (.inl (by rw [clock])) (fun h => ?_) (fun _ => by rw [clock])
  rw [clock]
  obtain ⟨time, pulse, start, _, _, rest⟩ := h
  refine ⟨time, pulse, start, Nat.zero_le _, ?_, rest⟩
  dsimp only
  split
  · exact Nat.zero_le 3
  · have few := (not_or.mp ‹_›).2
    omega

theorem reportAnomalies_songStep (s : State) : SongStep s s.reportAnomalies :=
  .of_clock rfl rfl rfl rfl rfl rfl (.inl rfl)
    (fun ⟨time, pulse, start, phase, _, rest⟩ => ⟨time, pulse, start, phase, Nat.zero_le _, rest⟩) (fun _ => le_rfl)

theorem loseLock_songStep (s : State) : SongStep s s.loseLock :=
  .of_clock rfl rfl rfl rfl rfl rfl (.inl rfl)
    (fun ⟨time, pulse, start, phase, run, wait, starting, _⟩ =>
      ⟨time, pulse, start, phase, run, wait, starting, fun _ e => nomatch e⟩) (fun _ => le_rfl)

/-- R12: the clock as RUNNING begins. -/
def Clock.startedAt (mode : LockMode) (c : Clock) : Clock :=
  { c with state := .running, mode, songTime := c.start, lastPulse := c.start }

/-- R14: the clock as a RESUME takes effect. -/
def Clock.resumedAt (mode : LockMode) (c : Clock) : Clock :=
  { c with state := .running, mode, lastPulse := c.songTime, change := .none }

/-- R13: the clock as a PAUSE takes effect. -/
def Clock.pausedNow (c : Clock) : Clock := { c with state := .paused, change := .none }

theorem startBoth_moved (s : State) (mode : LockMode) (first : Player) :
    Moved (s.onClock (Clock.startedAt mode))
      ((s.onClock (Clock.startedAt mode)).eachPlayer first (fun pl s => s.playIfArmed pl)) :=
  Moves.refl.eachPlayer first _ (fun _ _ m => m.playIfArmed trivial (.inl rfl))

theorem startRunning_eq (s : State) (mode : LockMode) (result : Word) (first : Player) : s.startRunning mode result first =
    ((s.onClock (Clock.startedAt mode)).eachPlayer first (fun pl s => s.playIfArmed pl)).completeWaiting .ok result first := rfl

theorem startRunning_songStep {s : State} (mode : LockMode) (result : Word) (first : Player) (h : s.clock.state = .starting) :
    SongStep s (s.startRunning mode result first) := by
  have start : SongStep s (s.onClock (Clock.startedAt mode)) := by
    refine .onClock _ rfl (.inr (.inl rfl)) (fun ⟨_, _, start, phase, run, wait, _⟩ => ?_) (fun legal => ?_)
    · exact ⟨start, start, start, phase, run, wait, fun e => (nomatch e), fun _ _ => ⟨le_rfl, by simp [Clock.startedAt]⟩⟩
    · exact le_of_eq (legal.2.2.2.2.2.2.1 h)
  have both := startBoth_moved s mode first
  have on := congrArg Clock.state both.inner.clock
  exact (start.trans_of_on both.songStep (.inl rfl)).trans_of_on (completeWaiting_songStep .ok result first) (.inl on)

theorem startFallback_songStep {s : State} (first : Player) (h : s.clock.state = .starting) :
    SongStep s (s.startFallback first) :=
  (Moves.refl.reportSync flagSyncLost).songStep.trans_of_state
    (startRunning_songStep (s := s.reportSync flagSyncLost) .free 1 first h) rfl

/-- R14: the report of a resume that changes the lock mode. -/
def State.reportMode (s : State) (mode : LockMode) (flag : BitVec 16) : State :=
  if s.clock.mode = mode then s else s.reportSync flag

theorem reportMode_moved (s : State) (mode : LockMode) (flag : BitVec 16) : Moved s (s.reportMode mode flag) := by
  unfold State.reportMode; split
  exacts [.refl, Moves.refl.reportSync flag]

theorem resumeBoth_moved (s : State) (first : Player) : Moved s (s.eachPlayer first (fun pl s => s.reconcile pl)) :=
  Moves.refl.eachPlayer first _ (fun _ _ m => m.reconcile trivial)

theorem resumeRunning_eq (s : State) (mode : LockMode) (flag : BitVec 16) (result : Word) (first : Player) :
    s.resumeRunning mode flag result first =
      (((s.reportMode mode flag).onClock (Clock.resumedAt mode)).eachPlayer first (fun pl s => s.reconcile pl)).completeWaiting
        .ok result first := rfl

theorem resumeRunning_songStep (s : State) (mode : LockMode) (flag : BitVec 16) (result : Word) (first : Player) :
    SongStep s (s.resumeRunning mode flag result first) := by
  have report := reportMode_moved s mode flag
  have resume : SongStep (s.reportMode mode flag) ((s.reportMode mode flag).onClock (Clock.resumedAt mode)) := by
    refine .onClock _ rfl (.inr (.inl rfl)) (fun ⟨time, _, start, phase, run, wait, _⟩ => ?_) (fun _ => le_rfl)
    exact ⟨time, time, start, phase, run, wait, fun e => (nomatch e), fun _ _ => ⟨le_rfl, by simp [Clock.resumedAt]⟩⟩
  have both := resumeBoth_moved ((s.reportMode mode flag).onClock (Clock.resumedAt mode)) first
  have on := congrArg Clock.state both.inner.clock
  exact ((report.songStep.trans_of_state resume (congrArg Clock.state report.inner.clock)).trans_of_on both.songStep
    (.inl rfl)).trans_of_on (completeWaiting_songStep .ok result first) (.inl on)

theorem takePause_songStep (s : State) (first : Player) : SongStep s (s.takePause first) := by
  have pause : SongStep s (s.onClock Clock.pausedNow) :=
    .onClock _ rfl (.inr (.inr rfl)) (fun ⟨time, pulse, start, phase, run, wait, _⟩ =>
      ⟨time, pulse, start, phase, run, wait, fun e => (nomatch e), fun e => nomatch e⟩) (fun _ => le_rfl)
  exact pause.trans_of_on (completeWaiting_songStep .ok _ first) (.inr rfl)

theorem countPhase_songStep (s : State) : SongStep s (s.onClock Clock.countPhase) :=
  .onClock _ rfl (.inl rfl) (fun h => h.countPhase) (fun _ => le_rfl)

theorem countWait_songStep (s : State) : SongStep s (s.onClock Clock.countWait) :=
  .onClock _ rfl (.inl rfl) (fun h => h.countWait) (fun _ => le_rfl)

theorem strobeLocked_songStep {s : State} (running : s.clock.state = .running) (locked : s.clock.mode = .locked) :
    SongStep s s.strobeLocked.state := by
  have advance : SongStep s (s.onClock Clock.advanceLocked) :=
    .onClock _ rfl (.inl rfl) (fun h => (h.advanceLocked running locked).1) (fun h => (h.advanceLocked running locked).2)
  unfold State.strobeLocked; dsimp only; split
  · exact advance.trans_of_state (loseLock_songStep _) rfl
  · exact advance

theorem strobeFree_songStep {s : State} (first : Player) (running : s.clock.state = .running) (free : s.clock.mode = .free) :
    SongStep s (s.strobeFree first).state := by
  have advance : SongStep s (s.onClock Clock.advanceFree) :=
    .onClock _ rfl (.inl rfl) (fun h => (h.advanceFree running free).1) (fun h => (h.advanceFree running free).2)
  have handed := Moves.refl.handToBoth (s := s.onClock Clock.advanceFree) first
  unfold State.strobeFree; dsimp only; split
  · dsimp only; split
    · exact (advance.trans_of_state handed.songStep rfl).trans_of_state (takePause_songStep _ first)
        (congrArg (fun c => Clock.state c) handed.inner.clock :)
    · exact advance.trans_of_state (takePause_songStep _ first) rfl
  · exact advance

theorem clockStrobe_songStep (s : State) (first : Player) : SongStep s (s.clockStrobe first).state := by
  have phase := countPhase_songStep s
  have wait := countWait_songStep (s.onClock Clock.countPhase)
  unfold State.clockStrobe; dsimp only; split
  · exact phase
  · rename_i starting
    refine phase.trans_of_state (wait.trans_of_state ?_ rfl) rfl
    split
    · exact startFallback_songStep first starting
    · exact .refl _
  · rename_i running
    split
    · exact phase.trans_of_state (strobeLocked_songStep running ‹_›) rfl
    · exact phase.trans_of_state (strobeFree_songStep first running ‹_›) rfl
  · split
    · refine phase.trans_of_state (wait.trans_of_state ?_ rfl) rfl
      split
      · exact resumeRunning_songStep _ _ _ _ first
      · exact .refl _
    · exact phase

/-- R3, R8, R13: a pulse's new value is handed over, then a pending pause takes effect. -/
theorem afterPulse_songStep (s : State) (before : Int) (first : Player) : SongStep s (s.afterPulse before first) := by
  have handed : Moved s (if s.clock.songTime ≠ before then s.handToBoth first else s) := by
    split
    exacts [Moves.refl.handToBoth first, .refl]
  unfold State.afterPulse
  generalize (if s.clock.songTime ≠ before then s.handToBoth first else s) = u at handed ⊢
  dsimp only; split
  · exact handed.songStep.trans_of_state (takePause_songStep _ first) (congrArg Clock.state handed.inner.clock)
  · exact handed.songStep

theorem pulseRunning_songStep {s : State} (first : Player) (running : s.clock.state = .running) :
    SongStep s (s.pulseRunning first) := by
  unfold State.pulseRunning; split
  · rename_i locked
    have step : SongStep s (s.onClock Clock.pulseLocked) :=
      .onClock _ rfl (.inl rfl) (fun h => (h.pulseLocked running locked).1) (fun h => (h.pulseLocked running locked).2)
    exact step.trans_of_state (afterPulse_songStep _ _ first) rfl
  · have step : SongStep s ((s.onClock Clock.reacquire).reportSync flagSyncBack) :=
      .of_clock rfl rfl rfl rfl rfl rfl (.inl rfl) (fun h => (h.reacquire running).1) (fun h => (h.reacquire running).2)
    exact step.trans_of_state (afterPulse_songStep _ _ first) rfl

theorem actPulse_songStep (s : State) (first : Player) : SongStep s (s.actPulse first) := by
  unfold State.actPulse; split
  · exact .refl s
  · exact startRunning_songStep .locked 0 first ‹_›
  · exact pulseRunning_songStep first ‹_›
  · split
    exacts [resumeRunning_songStep s _ _ _ first, .refl s]

theorem pulse_songStep (s : State) (first : Player) : SongStep s (s.checkSpacing.actPulse first) :=
  (checkSpacing_songStep s).trans_of_state (actPulse_songStep _ first) (by rw [clock_checkSpacing])

/-! ### The round after the clock's strobe (R19, R35 to R40, R166, R179 to R182) -/

/-- What the rest of a round keeps: the clock, what stands in the work list, notices, event flags, and a player's stage. -/
structure AfterStrobe (s t : State) : Prop where
  beside : Beside True s t
  work : s.work <+: t.work
  notice : ∀ i, s.notice.getLsbD i = true → t.notice.getLsbD i = true
  flags : ∀ pl i, (s.scoreUnit pl).flags.getLsbD i = true → (t.scoreUnit pl).flags.getLsbD i = true
  staging : ∀ pl, (s.session pl).state ∈ [PlayerState.playing, .closing] →
    (t.session pl).state ∈ [PlayerState.playing, .closing]

namespace AfterStrobe

variable {s t u : State}

theorem refl (s : State) : AfterStrobe s s :=
  ⟨.refl s, List.prefix_rfl, fun _ h => h, fun _ _ h => h, fun _ h => h⟩

theorem trans (h : AfterStrobe s t) (k : AfterStrobe t u) : AfterStrobe s u where
  beside := h.beside.trans k.beside
  work := h.work.trans k.work
  notice i x := k.notice i (h.notice i x)
  flags pl i x := k.flags pl i (h.flags pl i x)
  staging pl x := k.staging pl (h.staging pl x)

theorem moved (h : AfterStrobe s t) (k : Moved t u) : AfterStrobe s u :=
  h.trans ⟨(Beside.refl t).moved k, by rw [k.inner.work], k.notice, fun pl => (k.score pl).flags, k.staging⟩

/-- A step beside the clock that leaves notices, Score Units and sessions, and adds to the work list. -/
theorem of_beside (h : AfterStrobe s t) (k : Beside True t u) (work : t.work <+: u.work) (notice : u.notice = t.notice)
    (scores : u.scores = t.scores) (sessions : u.sessions = t.sessions) : AfterStrobe s u :=
  h.trans ⟨k, work, fun i x => by rwa [notice],
    fun pl i x => by rwa [show u.scoreUnit pl = t.scoreUnit pl from congrArg (PerPlayer.get · pl) scores],
    fun pl x => by rwa [show u.session pl = t.session pl from congrArg (PerPlayer.get · pl) sessions]⟩

theorem setPad (h : AfterStrobe s t) (i : PadId) (x : Pad) : AfterStrobe s (t.setPad i x) :=
  h.of_beside ((Beside.refl t).setPad i x) List.prefix_rfl rfl rfl rfl

theorem setScan (h : AfterStrobe s t) (x : Scan) : AfterStrobe s (t.setScan x) :=
  h.of_beside ((Beside.refl t).setScan x) List.prefix_rfl rfl rfl rfl

theorem ask (h : AfterStrobe s t) (w : Work) (k : w.counted = false) : AfterStrobe s (t.ask w) :=
  h.of_beside ((Beside.refl t).ask w k) (List.prefix_append _ _) rfl rfl rfl

theorem finishExecuting (h : AfterStrobe s t) (x : SlotId) (st : Status) (r : Word) :
    AfterStrobe s (t.finishExecuting x st r) := by
  refine h.of_beside ((Beside.refl t).finishExecuting x st r) ?_ (by simp) (by simp) (by simp)
  unfold State.finishExecuting; split
  exacts [List.prefix_rfl, List.prefix_append _ _]

theorem calibrationRound (h : AfterStrobe s t) (pad : PadId) (stamp : Int) : AfterStrobe s (t.calibrationRound pad stamp) := by
  unfold State.calibrationRound; split
  · exact h
  · dsimp only; split
    · exact ((h.setPad pad _).setPad pad _).finishExecuting _ _ _
    · split
      exacts [((h.setPad pad _).setPad pad _).ask _ rfl, h.setPad pad _]

theorem senseRound (h : AfterStrobe s t) (r : Readings) (sensors : List SensorName) (stamp : Int) :
    AfterStrobe s (t.senseRound r sensors stamp) :=
  ((h.moved (Moves.foldl _ (fun _ _ m => m.healthStep _) _ _ (Moves.refl.convertAll r))).calibrationRound .pad0
    stamp).calibrationRound .pad1 stamp

theorem captureIfDue (h : AfterStrobe s t) : AfterStrobe s t.captureIfDue := by
  unfold State.captureIfDue; split
  · exact h
  · split
    exacts [(h.setScan _).ask _ rfl, h]

theorem dumpRoundEnd (h : AfterStrobe s t) : AfterStrobe s t.dumpRoundEnd := by
  unfold State.dumpRoundEnd; split
  exacts [h, h.setScan _]

theorem periodDue (t : State) : Moved t t.periodDue := by
  unfold State.periodDue; dsimp only; split
  exacts [Moves.refl.setRefresh _, (Moves.refl.setRefresh _).setRefresh _]

theorem timerRound (t : State) : Moved t t.timerRound := by
  unfold State.timerRound; dsimp only; split
  exacts [(Moves.refl.setRefresh _).trans (periodDue _), Moves.refl.setRefresh _]

theorem endRound (h : AfterStrobe s t) : AfterStrobe s t.endRound :=
  ((((h.moved (Moves.refl.setLamps _)).setScan _).dumpRoundEnd.captureIfDue).moved (timerRound _)).moved
    ((Moves.refl.pollRound trivial).pollRound trivial)

theorem roundItem (h : AfterStrobe s t) (pre seen : PerPad Pad) (stamp : Int) (handed : Bool) (x : RoundItem) :
    AfterStrobe s (t.roundItem pre seen stamp handed x) := by
  cases x with
  | handOver pl =>
    unfold State.roundItem; dsimp only; split
    exacts [h.moved (Moves.refl.handOver trivial seen stamp), h]
  | panel pad p =>
    unfold State.roundItem; dsimp only; split
    exacts [h.moved (Moves.refl.roundPanel pad p stamp), h]
  | countdown => exact h.moved (Moves.refl.setLamps _)

theorem roundItems (pre seen : PerPad Pad) (stamp : Int) (handed : Bool) (l : List RoundItem) :
    ∀ t, AfterStrobe s t → AfterStrobe s (l.foldl (fun u x => u.roundItem pre seen stamp handed x) t) := by
  induction l with
  | nil => exact fun _ h => h
  | cons x l ih => exact fun t h => ih _ (h.roundItem pre seen stamp handed x)

end AfterStrobe

/-- R19: the clock takes the strobe first, and the rest of the round leaves it. -/
theorem roundStrobe_after (s : State) (r : Readings) (order : RoundOrder) :
    AfterStrobe (s.clockStrobe order.first).state (s.roundStrobe r order) :=
  (AfterStrobe.roundItems _ _ _ _ _ _ ((AfterStrobe.refl _).senseRound r order.sensors _)).endRound

theorem roundStrobe_songStep (s : State) (r : Readings) (order : RoundOrder) : SongStep s (s.roundStrobe r order) := by
  have strobe := clockStrobe_songStep s order.first
  have rest := (roundStrobe_after s r order).beside
  exact ⟨fun op => (strobe.slot op).trans (rest.slot trivial), fun h => rest.song (strobe.song h),
    fun h => by rw [rest.clock]; exact strobe.legal h, fun h n => by rw [rest.clock]; exact strobe.time h n⟩

end Sys2Proof.Machine

namespace Sys2Proof.Machine

/-! ### Run states and resets (R187 to R190) -/

theorem standbyExit_lawsKept (s : State) : LawsKept s s.standbyExit := by
  unfold State.standbyExit; split
  · rename_i standby
    refine ⟨rfl, fun h => ?_, .of_same rfl rfl⟩
    obtain ⟨held, slots⟩ := h.2.2.1 (.inl standby)
    have none := h.2.2.2.1 (by rw [standby]; decide)
    rw [standby, if_neg (by decide)] at none
    have count (w : Work) : Outstanding ((s.setRun .waking).ask .settings) w
        = Outstanding s w + if w = .settings then 1 else 0 := by
      rw [Outstanding, Outstanding, State.work_ask, State.bus_ask, List.count_append, List.count_singleton]
      simp only [State.work_setRun, State.bus_setRun, beq_iff_eq, eq_comm (a := Work.settings)]
      exact Nat.add_right_comm ..
    refine ⟨fun x => slotReady_of_clear (slots x).1, fun e => (nomatch e), fun _ => ⟨held, fun x => ⟨(slots x).1, ?_⟩⟩,
      fun _ => ?_, fun e => nomatch e⟩
    · rw [count, (slots x).2]; rfl
    · rw [count, none]; rfl
  · exact .refl s

/-- A part in STANDBY with clear slots, an empty work list and nothing in flight that will be reported (R189, R190). -/
theorem slotLegal_of_standby {s : State} (run : s.run = .standby) (slots : ∀ x, s.slot x = Slot.clear) (work : s.work = [])
    (bus : ∀ t, s.bus.inFlight = some t → t.silent = true) (held : s.clock.held = none) : SlotLegal s := by
  have none (w : Work) : Outstanding s w = 0 := by
    rw [Outstanding, work]
    cases e : s.bus.inFlight with
    | none => rfl
    | some t => simp [bus t e]
  refine ⟨fun x => slotReady_of_clear (slots x), fun e => ?_, fun _ => ⟨held, fun x => ⟨slots x, none _⟩⟩, fun _ => ?_,
    fun e => ?_⟩
  · rw [run] at e; nomatch e
  · rw [none, run]; rfl
  · rw [run] at e; nomatch e

theorem silence_silent (b : Bus) (t : Transfer) (h : b.silence.inFlight = some t) : t.silent = true := by
  obtain ⟨u, -, rfl⟩ := Option.map_eq_some_iff.mp h
  rfl

theorem wakingAbandon_lawsKept (s : State) : LawsKept s s.wakingAbandon := by
  unfold State.wakingAbandon; split
  · rename_i waking
    refine ⟨rfl, fun h => ?_, .of_same rfl rfl⟩
    obtain ⟨held, slots⟩ := h.2.2.1 (.inr waking)
    exact slotLegal_of_standby rfl (fun x => (slots x).1) rfl (silence_silent s.bus) held
  · exact .refl s

/-- No player is PLAYING and none has a return state: the laws of the sessions hold whatever the clock does. -/
theorem songLaw_of_rest {s : State} (h : ∀ pl, (s.session pl).state ≠ .playing ∧ (s.session pl).returnState = none) :
    SongLaw s :=
  ⟨fun pl p => absurd p (h pl).1, fun pl => by rw [(h pl).2]; simp⟩

theorem clock_reset_legal : ClockLegal Clock.reset := by
  refine ⟨⟨by decide, by decide⟩, ⟨by decide, by decide⟩, ⟨by decide, by decide⟩, ?_, ?_, ?_, fun e => (nomatch e),
    fun e => nomatch e⟩ <;> decide

/-! ### What every command does -/

/-- What a command does to the laws of the slots, of the sessions and of the clock, and to song time unless it resets the part. -/
structure Effect (resets : Bool) (s t : State) : Prop where
  slots : SlotLegal s → SlotLegal t
  song : SongLaw s → SongLaw t
  legal : ClockLegal s.clock → ClockLegal t.clock
  time : resets = false → SlotLegal s → ClockLegal s.clock → s.clock.state ≠ .idle → s.clock.songTime ≤ t.clock.songTime

namespace Effect

variable {b : Bool} {s t : State}

theorem of_lawsKept (h : LawsKept s t) : Effect b s t where
  slots := h.slots
  song := h.song
  legal := by rw [h.clock]; exact id
  time _ _ _ _ := by rw [h.clock]

theorem refl (s : State) : Effect b s s := of_lawsKept (.refl s)

theorem of_beside (h : Beside True s t) : Effect b s t := of_lawsKept h.lawsKept

theorem of_moved (h : Moved s t) : Effect b s t := of_beside ((Beside.refl s).moved h)

theorem of_slotRead (s : State) (slot : SlotId) (kind : BitVec 16) (w : SlotWords) (first : Player) :
    Effect b s (s.slotRead slot kind w first) where
  slots h := slotRead_slotLegal h slot kind w first
  song := (slotRead_laws s slot kind w first).1
  legal := (slotRead_laws s slot kind w first).2
  time _ h l n := slotRead_time h slot kind w first l n

/-- Strobes, pulses and the events of the blocks are taken in OPERATING alone (R1, R187). -/
theorem whenOperating (f : State → State) (k : Effect b s (f s)) : Effect b s (s.whenOperating f) := by
  unfold State.whenOperating; split
  exacts [k, refl s]

theorem operating_moved (f : State → State) (k : Moved s (f s)) : Effect b s (s.whenOperating f) :=
  whenOperating f (of_moved k)

theorem operating_songStep (f : State → State) (k : SongStep s (f s)) : Effect b s (s.whenOperating f) := by
  unfold State.whenOperating; split
  · rename_i op
    exact ⟨(k.slot op).slotLegal, k.song, k.legal, fun _ _ => k.time⟩
  · exact refl s

theorem whenReleased (f : State → State) (k : Effect b s (f s)) : Effect b s (s.whenReleased f) := by
  unfold State.whenReleased; split
  exacts [refl s, k]

/-- A due time served, or nothing. -/
theorem dueEvent (pl : Player) (i : Nat) (is : Entry → Bool) : Moved s (s.dueEvent pl i is) := by
  unfold State.dueEvent; split
  exacts [(Moves.refl.serveDue trivial _ i).endJudgeStep trivial, .refl]

theorem panelEvent (pad : PadId) (p : PanelId) (is : Panel → Profile → Bool) (r : Panel → PanelRound) :
    Moved s (s.panelEvent pad p is r) := by
  unfold State.panelEvent; dsimp only; split
  exacts [Moves.refl.applyRound pad p _, .refl]

/-- A read of a fetcher ends (R46 to R53, R68). -/
theorem fetchEnds (pl : Player) (is : Xfer → Bool) (deal : State → State) (k : ∀ {u v : State}, Moved u v → Moved u (deal v))
    (fetch : ∀ x, is x = true → x.counted = false) : Effect b s (s.endTransfer is (fun _ u => u.endRead pl deal)) :=
  of_lawsKept (.endPlain _ _ (fun x u h => ⟨fetch x h, (Beside.refl u).moved (Moves.refl.endRead trivial _ (fun _ => k))⟩))

theorem isFetch_counted (pl : Player) (kind : FetchKind) (x : Xfer) (h : Xfer.isFetch pl kind x = true) :
    x.counted = false := by
  cases x <;> first | rfl | nomatch h

theorem endPad (is : Xfer → Bool) (deal : Xfer → State → State) (k : ∀ x u, Beside True u (deal x u))
    (plain : ∀ x, is x = true → x.counted = false) : Effect b s (s.endTransfer is deal) :=
  of_lawsKept (.endPlain _ _ (fun x u h => ⟨plain x h, k x u⟩))

theorem endPadWrite (is : Xfer → Bool) (ok : Bool) (plain : ∀ x, is x = true → x.counted = false) :
    Effect b s (s.endTransfer is (fun x u => u.endPadWrite ok x)) := by
  refine endPad _ _ (fun x u => ?_) plain
  unfold State.endPadWrite; split
  exacts [(Beside.refl u).padWriteEnded _ _, (Beside.refl u).padWriteEnded _ _, .refl u]

theorem settingsRead (reply : Option (BitVec 512)) :
    Effect b s (s.endTransfer Xfer.isSettings (fun _ u => u.settingsRead reply)) := by
  have kept (u : State) : (SongLaw u → SongLaw (u.settingsRead reply))
      ∧ (ClockLegal u.clock → ClockLegal (u.settingsRead reply).clock)
      ∧ (u.settingsRead reply).clock.songTime = u.clock.songTime := by
    unfold State.settingsRead; split
    · exact ⟨.of_same rfl rfl, id, rfl⟩
    · dsimp only; split
      · exact ⟨.of_same rfl rfl, fun h => h.of_same rfl rfl rfl rfl rfl rfl rfl rfl, rfl⟩
      · exact ⟨.of_same rfl rfl, id, rfl⟩
  have legal (u : State) (e : Ended s u (.request .settings)) (k : SlotLegal s) : SlotLegal (u.settingsRead reply) := by
    unfold State.settingsRead; split
    · exact e.settings k rfl rfl rfl rfl (.inl rfl)
    · dsimp only; split
      · exact e.settings k rfl rfl rfl rfl (.inr rfl)
      · exact e.settings k rfl rfl rfl rfl (.inl rfl)
  rcases s.endTransfer_cases Xfer.isSettings (fun _ u => u.settingsRead reply) with e | ⟨x, fly, quiet, e⟩ | ⟨x, fly, h, loud, e⟩
  · rw [e]; exact refl s
  · rw [e]; exact of_lawsKept (.freeBus_silent fly quiet)
  · have what : x.what = .request .settings := by
      unfold Xfer.isSettings at h
      split at h
      · rename_i e; exact e
      · nomatch h
    obtain ⟨song, clock, time⟩ := kept s.freeBus
    rw [e]
    exact ⟨fun k => legal _ (what ▸ ended_freeBus k fly loud) k, fun l => song (l.of_same rfl rfl), clock,
      fun _ _ _ _ => by rw [time]; exact le_rfl⟩

/-- R189: standby entry. -/
theorem enterStandby : Effect b s s.enterStandby where
  slots _ := slotLegal_of_standby rfl (fun x => by cases x <;> rfl) rfl (silence_silent s.bus) rfl
  song _ := songLaw_of_rest (fun pl => by cases pl <;> exact ⟨fun e => (nomatch e), rfl⟩)
  legal h := by
    have ⟨time, _⟩ := h
    exact h.leave rfl time rfl le_rfl (Nat.zero_le _) (Nat.zero_le _) (fun e => nomatch e) (fun e => nomatch e)
  time _ _ _ _ := le_rfl

/-- R190: a part with the reset values in clock, slots, work list, bus and sessions. -/
theorem of_reset (run : t.run = .standby) (slots : t.slots = State.reset.slots) (work : t.work = [])
    (bus : t.bus = State.reset.bus)
    (clock : t.clock = Clock.reset) (sessions : t.sessions = State.reset.sessions) : Effect true s t where
  slots _ := slotLegal_of_standby run
    (fun x => (congrArg (PerSlot.get · x) slots).trans (by cases x <;> rfl)) work
    (fun u e => by rw [bus] at e; nomatch e) (by rw [clock]; rfl)
  song _ := songLaw_of_rest (fun pl => by
    rw [show t.session pl = State.reset.session pl from congrArg (PerPlayer.get · pl) sessions]
    cases pl <;> exact ⟨fun e => (nomatch e), rfl⟩)
  legal _ := by rw [clock]; exact clock_reset_legal
  time h := nomatch h

theorem resetComplete : Effect true s s.resetComplete := by
  unfold State.resetComplete; split
  exacts [of_reset rfl rfl rfl rfl rfl rfl, refl s]

theorem trans_reset {u : State} (h : Effect true s t) (k : Effect true t u) : Effect true s u :=
  ⟨fun x => k.slots (h.slots x), fun x => k.song (h.song x), fun x => k.legal (h.legal x), fun e => nomatch e⟩

/-- R190: RESETTING begins; nothing in flight is reported any more. -/
theorem controlReset : Effect true s s.controlReset := by
  unfold State.controlReset; split
  · exact refl s
  · refine trans_reset (t := ({ s with bus := s.bus.silence } : State).setRun .resetting)
      ⟨fun h => ?_, .of_same rfl rfl, id, fun e => nomatch e⟩ resetComplete
    refine ⟨h.1, fun e => (nomatch e), fun e => ?_, fun e => absurd rfl e, fun _ => silence_silent s.bus⟩
    simp at e

/-! ### Register writes (R187, R191, R192, R196) -/

theorem writeRoot (v : Word) : Effect b s (s.writeRoot v) := by
  unfold State.writeRoot; split
  exacts [of_beside ((Beside.refl s).of_same rfl rfl rfl rfl rfl rfl), refl s]

theorem writeMask (v : Word) : Effect b s (s.writeMask v) := by
  unfold State.writeMask; split
  exacts [refl s, of_beside ((Beside.refl s).of_same rfl rfl rfl rfl rfl rfl)]

theorem writeNotice (v : Word) : Effect b s (s.writeNotice v) := by
  unfold State.writeNotice; split
  · exact refl s
  · dsimp only; split
    exacts [of_beside ((Beside.refl s).of_same rfl rfl rfl rfl rfl rfl),
      of_beside ((Beside.refl s).of_same rfl rfl rfl rfl rfl rfl)]

/-- R192: attention is raised on slots of an OPERATING part, and those made ready are read. -/
theorem writeAttn (v : Word) : Effect b s (s.writeAttn v) := by
  have attend (u : State) (x : SlotId) (named : Bool) :
      (u.attend x named).clock = u.clock ∧ (u.attend x named).sessions = u.sessions
        ∧ (u.attend x named).run = u.run
        ∧ (u.run = .operating → ReadsLegal u → ReadsLegal (u.attend x named)) := by
    unfold State.attend; split
    · refine ⟨rfl, rfl, rfl, fun op h => ⟨fun _ => ?_, fun r => ?_, h.2.2⟩⟩
      · have same (y : SlotId) : ((u.setSlot x { u.slot x with attention := true }).slot y).readInFlight
            = (u.slot y).readInFlight := by
          rw [State.slot_setSlot]; split
          · rename_i e; rw [e]
          · rfl
        exact ⟨fun y => by rw [same]; exact (h.1 op).1 y, fun n => by rw [same]; exact (h.1 op).2 n⟩
      · rw [State.run_setSlot, op] at r; simp at r
    · exact ⟨rfl, rfl, rfl, fun _ => id⟩
  unfold State.writeAttn State.whenOperating; split
  · rename_i op
    obtain ⟨c0, s0, r0, l0⟩ := attend s .slot0 (v.getLsbD 0)
    obtain ⟨c1, s1, r1, l1⟩ := attend (s.attend .slot0 (v.getLsbD 0)) .slot1 (v.getLsbD 1)
    obtain ⟨c2, s2, r2, l2⟩ := attend ((s.attend .slot0 (v.getLsbD 0)).attend .slot1 (v.getLsbD 1)) .slot2 (v.getLsbD 2)
    refine of_lawsKept ⟨State.clock_readReadySlots _ |>.trans (c2.trans (c1.trans c0)), fun h => ReadsLegal.readReadySlots ?_,
      .of_same (congrArg Clock.state (State.clock_readReadySlots _ |>.trans (c2.trans (c1.trans c0))))
        (State.sessions_readReadySlots _ |>.trans (s2.trans (s1.trans s0)))⟩
    have op1 := r0.trans op
    exact l2 (r1.trans op1) (l1 op1 (l0 op h.2))
  · exact refl s

theorem writeControl (v : Word) : Effect (v.getLsbD 1) s (s.writeControl v) := by
  unfold State.writeControl; split
  · rename_i reset
    rw [reset]; exact controlReset
  · split
    · exact of_lawsKept (standbyExit_lawsKept s)
    · split
      · exact of_lawsKept (wakingAbandon_lawsKept s)
      · exact whenOperating _ enterStandby
      · exact refl s
      · exact refl s

theorem writeRegister (offset : Nat) (v : Word) :
    Effect (Instr.resets (.registerWrite offset v)) s (s.writeRegister offset v) := by
  unfold State.writeRegister; split
  exacts [writeControl v, writeRoot v, writeAttn v, writeNotice v, writeMask v, refl s]

end Effect

/-- What every command does, command by command. -/
theorem exec_effect (c : Instr) (s : State) : ∃ t, exec c s = .next t ∧ Effect c.resets s t := by
  cases c with
  | roundStrobe r order => exact ⟨_, rfl, Effect.operating_songStep _ (roundStrobe_songStep s r order)⟩
  | syncPulse first =>
    refine ⟨_, rfl, Effect.operating_songStep _ ?_⟩
    split
    exacts [pulse_songStep s first, .refl s]
  | anomalyRunReport =>
    refine ⟨_, rfl, Effect.operating_songStep _ ?_⟩
    split
    exacts [reportAnomalies_songStep s, .refl s]
  | lockLoss =>
    refine ⟨_, rfl, Effect.operating_songStep _ ?_⟩
    split
    exacts [loseLock_songStep s, .refl s]
  | startFallback first =>
    refine ⟨_, rfl, Effect.operating_songStep _ ?_⟩
    split
    · rename_i waited
      exact startFallback_songStep first (of_decide_eq_true waited).1
    · exact .refl s
  | resumeFallback first =>
    refine ⟨_, rfl, Effect.operating_songStep _ ?_⟩
    split
    exacts [resumeRunning_songStep s _ _ _ first, .refl s]
  | songStart w => exact ⟨_, rfl, Effect.of_slotRead ..⟩
  | songPause w => exact ⟨_, rfl, Effect.of_slotRead ..⟩
  | songResume w => exact ⟨_, rfl, Effect.of_slotRead ..⟩
  | songStop w first => exact ⟨_, rfl, Effect.of_slotRead ..⟩
  | heldRequest kind w =>
    refine ⟨_, rfl, ?_⟩
    split
    exacts [Effect.of_slotRead .., .refl s]
  | loadProfile w => exact ⟨_, rfl, Effect.of_slotRead ..⟩
  | profileReadDone reply =>
    refine ⟨_, rfl, Effect.endPad _ _ (fun x u => ?_) (fun x h => ?_)⟩
    · unfold State.endProfile; split
      exacts [(Beside.refl u).profileRead _ _ _ _, .refl u]
    · unfold Xfer.isProfile at h; split at h
      exacts [rfl, nomatch h]
  | calibrate w => exact ⟨_, rfl, Effect.of_slotRead ..⟩
  | calibrationComplete pad =>
    refine ⟨_, rfl, Effect.whenOperating _ ?_⟩
    split
    · exact .refl s
    · split
      exacts [Effect.of_beside ((Beside.refl s).completeCalibration pad _), .refl s]
  | baselineTableWriteDone ok =>
    refine ⟨_, rfl, Effect.endPadWrite _ ok (fun x h => ?_)⟩
    unfold Xfer.isTable at h; split at h
    exacts [rfl, nomatch h]
  | sensorDump w => exact ⟨_, rfl, Effect.of_slotRead ..⟩
  | dumpCapture => exact ⟨_, rfl, Effect.whenOperating _ (Effect.of_beside (Beside.refl s).captureIfDue)⟩
  | dumpWriteDone ok =>
    refine ⟨_, rfl, Effect.endPadWrite _ ok (fun x h => ?_)⟩
    unfold Xfer.isDump at h; split at h
    exacts [rfl, nomatch h]
  | sensorFail c =>
    refine ⟨_, rfl, Effect.operating_moved _ ?_⟩
    split
    exacts [(Moves.refl.failSensor c).killIfDead _ _ _, .refl]
  | sensorRecover c =>
    refine ⟨_, rfl, Effect.operating_moved _ ?_⟩
    split
    exacts [(Moves.refl.recoverSensor c).reviveIfAlive _ _, .refl]
  | pressConfirm pad p => exact ⟨_, rfl, Effect.operating_moved _ (Effect.panelEvent ..)⟩
  | releaseConfirm pad p => exact ⟨_, rfl, Effect.operating_moved _ (Effect.panelEvent ..)⟩
  | stuckRelease pad p => exact ⟨_, rfl, Effect.operating_moved _ (Effect.panelEvent ..)⟩
  | beatDue pl i => exact ⟨_, rfl, Effect.operating_moved _ (Effect.dueEvent ..)⟩
  | lapseDue pl i => exact ⟨_, rfl, Effect.operating_moved _ (Effect.dueEvent ..)⟩
  | crossingDue pl i => exact ⟨_, rfl, Effect.operating_moved _ (Effect.dueEvent ..)⟩
  | avoidSettleDue pl i => exact ⟨_, rfl, Effect.operating_moved _ (Effect.dueEvent ..)⟩
  | graceDue pl i => exact ⟨_, rfl, Effect.operating_moved _ (Effect.dueEvent ..)⟩
  | settleDue pl i => exact ⟨_, rfl, Effect.operating_moved _ (Effect.dueEvent ..)⟩
  | arm pl w => exact ⟨_, rfl, Effect.of_slotRead ..⟩
  | descriptorReadDone pl reply =>
    refine ⟨_, rfl, Effect.endPad _ _ (fun x u => (Beside.refl u).descriptorRead pl reply) (fun x h => ?_)⟩
    unfold Xfer.isDescriptor at h; split at h
    exacts [rfl, nomatch h]
  | abandon pl w => exact ⟨_, rfl, Effect.of_slotRead ..⟩
  | refreshNow pl w => exact ⟨_, rfl, Effect.of_slotRead ..⟩
  | unknownKind slot kind w =>
    refine ⟨_, rfl, ?_⟩
    split
    exacts [Effect.of_slotRead .., .refl s]
  | staleRequest slot w =>
    refine ⟨_, rfl, ?_⟩
    split
    exacts [Effect.of_slotRead .., .refl s]
  | slotReadFault slot =>
    refine ⟨_, rfl, Effect.of_lawsKept (.endTransfer _ _ (fun x u _ => failTransfer_laws u (.request (.slotRead slot)))
      (fun x u h legal e => ?_))⟩
    unfold Xfer.isSlotRead at h; split at h
    · rw [of_decide_eq_true h] at e
      exact e.failTransfer legal
    · nomatch h
  | completionWriteDone slot ok =>
    refine ⟨_, rfl, Effect.of_lawsKept (.endTransfer _ _ (fun x u _ => ?_) (fun x u h legal e => ?_))⟩
    · obtain ⟨clock, sessions⟩ := completionWritten_same u slot ok
      exact ⟨clock, .of_same (congrArg Clock.state clock) sessions⟩
    · unfold Xfer.isCompletion at h; split at h
      · exact completionWritten_slotLegal ((e.slotStep rfl).readsLegal legal.2) slot ok
      · nomatch h
  | pageWaitResume pl => exact ⟨_, rfl, Effect.operating_moved _ (Moves.refl.askHeader trivial)⟩
  | headerReadDone pl reply =>
    exact ⟨_, rfl, Effect.fetchEnds pl _ _ (fun m => m.headerRead trivial reply) (Effect.isFetch_counted pl _)⟩
  | poolEntryReserve pl => exact ⟨_, rfl, Effect.operating_moved _ (Moves.refl.reserveNext trivial)⟩
  | recordReadDone pl reply =>
    exact ⟨_, rfl, Effect.fetchEnds pl _ _ (fun m => m.recordRead trivial reply) (Effect.isFetch_counted pl _)⟩
  | stalledRecordRetry pl => exact ⟨_, rfl, Effect.operating_moved _ (Moves.refl.retryStalled trivial)⟩
  | pollDue pl => exact ⟨_, rfl, Effect.operating_moved _ (Moves.refl.askPoll trivial)⟩
  | fillRereadDone pl reply =>
    exact ⟨_, rfl, Effect.fetchEnds pl _ _ (fun m => m.rereadHeader trivial reply) (Effect.isFetch_counted pl _)⟩
  | linkReadDone pl reply =>
    exact ⟨_, rfl, Effect.fetchEnds pl _ _ (fun m => m.linkRead trivial reply) (Effect.isFetch_counted pl _)⟩
  | fetchReadDiscarded pl ok =>
    refine ⟨_, rfl, ?_⟩
    split
    · refine Effect.fetchEnds pl _ _ (fun m => m) (fun x h => ?_)
      cases x <;> first | rfl | nomatch h
    · exact .refl s
  | busGrant => exact ⟨_, rfl, Effect.of_lawsKept (busGrant_lawsKept s)⟩
  | busTimeout => exact ⟨_, rfl, Effect.of_lawsKept (busTimeout_lawsKept s)⟩
  | resultWriteDone pl =>
    refine ⟨_, rfl, Effect.endPad _ _ (fun x u => ?_) (fun x h => by cases x <;> first | rfl | nomatch h)⟩
    unfold State.endResult; split
    exacts [(Beside.refl u).moved (Moves.refl.resultWritten trivial _), .refl u]
  | resultWriteError pl =>
    refine ⟨_, rfl, Effect.endPad _ _ (fun x u => ?_) (fun x h => by cases x <;> first | rfl | nomatch h)⟩
    unfold State.endResult; split
    exacts [(Beside.refl u).moved (Moves.refl.resultLost trivial _), .refl u]
  | retirementWriteDone pl ok =>
    refine ⟨_, rfl, Effect.endPad _ _ (fun x u => ?_) (fun x h => by cases x <;> first | rfl | nomatch h)⟩
    unfold State.endRetire; split
    · split
      exacts [(Beside.refl u).moved (Moves.refl.pageRetired trivial _),
        (Beside.refl u).moved (Moves.refl.retirementLost trivial _)]
    · exact .refl u
  | refreshPeriodDue =>
    refine ⟨_, rfl, Effect.operating_moved _ ?_⟩
    split
    exacts [AfterStrobe.periodDue s, .refl]
  | holdReadDone reply =>
    exact ⟨_, rfl, Effect.endPad _ _ (fun x u => (Beside.refl u).endHolds reply)
      (fun x h => by cases x <;> first | rfl | nomatch h)⟩
  | nowHoldReadDone pl reply =>
    exact ⟨_, rfl, Effect.endPad _ _ (fun x u => (Beside.refl u).endNowHold pl reply)
      (fun x h => by cases x <;> first | rfl | nomatch h)⟩
  | scoreboardWriteDone pl ok =>
    exact ⟨_, rfl, Effect.endPad _ _ (fun x u => (Beside.refl u).endBoard pl _ ok)
      (fun x h => by cases x <;> first | rfl | nomatch h)⟩
  | finalScoreboardWriteDone pl ok =>
    exact ⟨_, rfl, Effect.endPad _ _ (fun x u => (Beside.refl u).endFinalBoard pl ok)
      (fun x h => by cases x <;> first | rfl | nomatch h)⟩
  | mirrorWriteDone ok =>
    exact ⟨_, rfl, Effect.endPad _ _ (fun x u => (Beside.refl u).endMirrors ok)
      (fun x h => by cases x <;> first | rfl | nomatch h)⟩
  | faultRecordWriteDone ok =>
    refine ⟨_, rfl, Effect.endPad _ _ (fun x u => .refl u) (fun x h => ?_)⟩
    rw [of_decide_eq_true h]; rfl
  | flashEnd pad p =>
    refine ⟨_, rfl, Effect.operating_moved _ ?_⟩
    split
    exacts [Moves.refl.setLamps _, .refl]
  | pwmPeriodStart => exact ⟨_, rfl, Effect.of_moved (Moves.refl.setLamps _)⟩
  | standbyExit => exact ⟨_, rfl, Effect.whenReleased _ (Effect.of_lawsKept (standbyExit_lawsKept s))⟩
  | settingsReadDone reply => exact ⟨_, rfl, Effect.settingsRead reply⟩
  | wakingAbandon => exact ⟨_, rfl, Effect.whenReleased _ (Effect.of_lawsKept (wakingAbandon_lawsKept s))⟩
  | standbyEntry => exact ⟨_, rfl, Effect.whenReleased _ (Effect.whenOperating _ Effect.enterStandby)⟩
  | controlReset run => exact ⟨_, rfl, Effect.whenReleased _ Effect.controlReset⟩
  | resetComplete => exact ⟨_, rfl, Effect.whenReleased _ Effect.resetComplete⟩
  | resetN => exact ⟨_, rfl, Effect.of_reset rfl rfl rfl rfl rfl rfl⟩
  | resetNRise => exact ⟨_, rfl, Effect.of_beside ((Beside.refl s).of_same rfl rfl rfl rfl rfl rfl)⟩
  | root v => exact ⟨_, rfl, Effect.whenReleased _ (Effect.writeRoot v)⟩
  | attn v => exact ⟨_, rfl, Effect.whenReleased _ (Effect.writeAttn v)⟩
  | notice v => exact ⟨_, rfl, Effect.whenReleased _ (Effect.writeNotice v)⟩
  | faultRearm v => exact ⟨_, rfl, Effect.whenReleased _ (Effect.writeNotice _)⟩
  | noticeMask v => exact ⟨_, rfl, Effect.whenReleased _ (Effect.writeMask v)⟩
  | registerWrite offset v => exact ⟨_, rfl, Effect.whenReleased _ (Effect.writeRegister offset v)⟩

theorem effect_of_exec {c : Instr} {s t : State} (h : exec c s = .next t) : Effect c.resets s t := by
  obtain ⟨u, e, effect⟩ := exec_effect c s
  rw [h] at e
  obtain rfl := Host.Outcome.next.inj e
  exact effect

/-- A step is the front command's effect on the state with the queue's rest, or nothing. -/
theorem step_cases {s t : State} (h : step s = .next t) :
    t = s ∨ ∃ c rest, exec c (s.withPending rest) = .next t := by
  unfold step at h; split at h
  · exact .inl (Host.Outcome.next.inj h).symm
  · exact .inr ⟨_, _, h⟩

/-- A law that no queue touches and every command keeps is kept by every step. -/
theorem step_keeps {L : State → Prop} (queue : ∀ s q, L s → L (s.withPending q))
    (keeps : ∀ c s t, exec c s = .next t → L s → L t) {s t : State} (h : step s = .next t) (l : L s) : L t := by
  rcases step_cases h with rfl | ⟨c, rest, e⟩
  · exact l
  · exact keeps c _ t e (queue s rest l)

/-- Settles O4: the effect of every command keeps the clock's law. -/
theorem clockStaysLegal : Obligations.ClockStaysLegal := fun _ _ legal h =>
  step_keeps (L := fun s => ClockLegal s.clock) (fun _ _ l => l) (fun _ _ _ e => (effect_of_exec e).legal) h legal

/-- Settles O5. -/
theorem songTimeNeverDecreases : Obligations.SongTimeNeverDecreases := fun _ _ _ legal slots h resets live =>
  (effect_of_exec h).time resets slots legal live

/-- Settles O9: the two laws of the sessions are kept together. -/
theorem playingOnlyWithSong : Obligations.PlayingOnlyWithSong := fun _ _ playing returns h =>
  step_keeps (L := SongLaw) (fun _ _ l => l) (fun _ _ _ e => (effect_of_exec e).song) h ⟨playing, returns⟩

/-- Settles O10. -/
theorem slotProtocolKept : Obligations.SlotProtocolKept := fun _ _ legal h =>
  step_keeps (L := SlotLegal) (fun _ _ l => l) (fun _ _ _ e => (effect_of_exec e).slots) h legal

end Sys2Proof.Machine

namespace Sys2Proof.Machine

/-! ### Power-on reset (R16, R44, R69, R94, R136, R158, R165, R175, R185, R186, R190) -/

theorem tab_get_fill {n : Nat} {α : Type} (a : α) (i : Fin n) : (Tab.fill n a).get i = a := by
  unfold Tab.get Tab.fill; simp

theorem reset_pad (i : PadId) : State.reset.pad i = Pad.reset := by cases i <;> rfl

theorem reset_owner (i : PadId) : State.reset.owner i = none := by cases i <;> rfl

theorem reset_slot (x : SlotId) : State.reset.slot x = Slot.clear := by cases x <;> rfl

theorem reset_session (pl : Player) : State.reset.session pl = Session.reset := by cases pl <;> rfl

theorem reset_fetcher (pl : Player) : State.reset.fetcher pl = Fetcher.reset := by cases pl <;> rfl

theorem reset_judge (pl : Player) : State.reset.judge pl = Judge.empty Config.poolSize Params.zero 0 := by cases pl <;> rfl

theorem reset_score (pl : Player) : State.reset.scoreUnit pl = Score.clear .none := by cases pl <;> rfl

theorem reset_writer (pl : Player) : State.reset.writer pl = Writer.reset := by cases pl <;> rfl

/-- Settles O3, unit by unit. -/
theorem powerOnResetValues : Obligations.PowerOnResetValues := by
  unfold Obligations.PowerOnResetValues
  dsimp only
  refine ⟨⟨rfl, rfl, rfl, rfl, rfl, rfl, rfl, rfl, rfl, reset_slot⟩,
    ⟨rfl, rfl, rfl, rfl, rfl, rfl, rfl, rfl, rfl, rfl, rfl, rfl, rfl⟩, fun i => ?pads, fun pl => ?players,
    rfl, rfl, rfl, rfl, rfl, fun i => ?outputs, fun i p => ?lamps⟩
  case pads =>
    rw [reset_pad, reset_owner]
    refine ⟨rfl, rfl, rfl, fun c => ?_, fun p => ?_⟩
    · rw [show Pad.reset.sensors.get c = Sensor.reset from tab_get_fill ..]; rfl
    · rw [show Pad.reset.panels.get p = Panel.reset from tab_get_fill ..]
      exact ⟨rfl, rfl, rfl, rfl, rfl, rfl, rfl⟩
  case players =>
    rw [reset_session, reset_fetcher, reset_judge, reset_score, reset_writer]
    cases pl <;> exact ⟨rfl, rfl, rfl, rfl, rfl, rfl, rfl, rfl, rfl, rfl, rfl, rfl, rfl, rfl⟩
  case outputs => exact ⟨tab_get_fill .., tab_get_fill ..⟩
  case lamps => cases i <;> exact tab_get_fill ..

/-- Settles O11: the part is in STANDBY, idle throughout. -/
theorem resetMeetsInvariants : Obligations.ResetMeetsInvariants := by
  have rest : SongLaw State.reset := songLaw_of_rest (fun pl => by rw [reset_session]; exact ⟨by decide, rfl⟩)
  refine ⟨clock_reset_legal, fun pl => ?scores, fun pl => ?pools, fun t e => (nomatch e), rest.1, rest.2, ?slots,
    fun pl => ?judges⟩
  case scores => rw [reset_score]; exact Score.clear_legal .none
  case pools => rw [PoolLegal, reset_judge]; simp [Judge.empty, Config.poolSize]
  case slots => exact slotLegal_of_standby rfl reset_slot rfl (fun t e => nomatch e) rfl
  case judges => rw [reset_judge]; rfl

end Sys2Proof.Machine

namespace Sys2Proof.Machine

/-! ### The clock's commands of an OPERATING part (R1, R3, R7, R12, R14) -/

theorem whenOperating_of {s : State} (op : s.run = .operating) (f : State → State) : s.whenOperating f = f s := if_pos op

theorem exec_roundStrobe {s : State} (op : s.run = .operating) (r : Readings) (order : RoundOrder) :
    exec (.roundStrobe r order) s = .next (s.roundStrobe r order) := congrArg _ (whenOperating_of op _)

theorem exec_syncPulse {s : State} (op : s.run = .operating) (taking : s.clock.taking = true) (first : Player) :
    exec (.syncPulse first) s = .next (s.checkSpacing.actPulse first) :=
  congrArg _ ((whenOperating_of op _).trans (if_pos taking))

theorem exec_startFallback {s : State} (op : s.run = .operating) (starting : s.clock.state = .starting)
    (waited : s.clock.wait = 32) (first : Player) : exec (.startFallback first) s = .next (s.startFallback first) :=
  congrArg _ ((whenOperating_of op _).trans (if_pos (decide_eq_true ⟨starting, waited⟩)))

theorem exec_resumeFallback {s : State} (op : s.run = .operating) (paused : s.clock.state = .paused)
    (pending : s.clock.change = .resume) (waited : s.clock.wait = 32) (first : Player) :
    exec (.resumeFallback first) s = .next (s.resumeFallback first) :=
  congrArg _ ((whenOperating_of op _).trans (if_pos (decide_eq_true ⟨paused, pending, waited⟩)))

/-! ### The waiting request completes (R9, R10) -/

section completeWaiting
variable {s : State} {st : Status} {result : Word} {first : Player}

theorem completeWaiting_of {q : Request} (waiting : s.clock.waiting = some q) : s.completeWaiting st result first =
    ((s.onClock (fun c => { c with waiting := none })).complete .slot0 q.tag st result).startHeld first := by
  rw [State.completeWaiting, waiting]

theorem startHeld_of_none (held : s.clock.held = none) : s.startHeld first = s := by
  rw [State.startHeld, held]

theorem startHeld_of {h : Request} (held : s.clock.held = some h) :
    s.startHeld first = (s.onClock (fun c => { c with held := none })).serve .slot0 first h := by
  rw [State.startHeld, held]

/-- With no request held the completion is all. -/
theorem completeWaiting_of_noneHeld {q : Request} (waiting : s.clock.waiting = some q) (held : s.clock.held = none) :
    s.completeWaiting st result first =
      (s.onClock (fun c => { c with waiting := none })).complete .slot0 q.tag st result := by
  rw [completeWaiting_of waiting, startHeld_of_none]; exact held

/-- With no request held nothing but the waiting request, the work list and the slots changes. -/
theorem completeWaiting_noneHeld_same (held : s.clock.held = none) :
    (s.completeWaiting st result first).clock = { s.clock with waiting := none }
      ∧ (s.completeWaiting st result first).notice = s.notice ∧ (s.completeWaiting st result first).scores = s.scores := by
  cases waiting : s.clock.waiting with
  | none =>
    have same : s.completeWaiting st result first = s := by rw [State.completeWaiting, waiting]
    rw [same, ← waiting]
    exact ⟨rfl, rfl, rfl⟩
  | some q =>
    rw [completeWaiting_of_noneHeld waiting held]
    exact ⟨rfl, rfl, rfl⟩

theorem completion_mem_completeWaiting {q : Request} (waiting : s.clock.waiting = some q) (held : s.clock.held = none) :
    .completion .slot0 st q.tag result ∈ (s.completeWaiting st result first).work := by
  rw [completeWaiting_of_noneHeld waiting held]
  simp

end completeWaiting

/-! ### RUNNING begins, and goes on (R12, R14) -/

/-- The SYNC notice is set, and a flag of both players (R6, R7, R8, R12, R14). -/
def SyncReported (t : State) (flag : Nat) : Prop :=
  t.notice.getLsbD 6 = true ∧ ∀ pl, (t.scoreUnit pl).flags.getLsbD flag = true

theorem syncReported_reportSync (s : State) (f : BitVec 16) (flag : Nat) (h : f.getLsbD flag = true) :
    SyncReported (s.reportSync f) flag := by
  refine ⟨?_, fun pl => ?_⟩
  · rw [State.notice_reportSync, BitVec.getLsbD_or]; simp
  · rw [State.scoreUnit_reportSync]; simp [h]

namespace SyncReported
variable {s t : State} {flag : Nat}

theorem moved (h : SyncReported s flag) (k : Moved s t) : SyncReported t flag :=
  ⟨k.notice _ h.1, fun pl => (k.score pl).flags _ (h.2 pl)⟩

theorem afterStrobe (h : SyncReported s flag) (k : AfterStrobe s t) : SyncReported t flag :=
  ⟨k.notice _ h.1, fun pl => k.flags pl _ (h.2 pl)⟩

theorem of_same (h : SyncReported s flag) (notice : t.notice = s.notice) (scores : t.scores = s.scores) :
    SyncReported t flag :=
  ⟨by rw [notice]; exact h.1, fun pl => by
    rw [show t.scoreUnit pl = s.scoreUnit pl from congrArg (PerPlayer.get · pl) scores]; exact h.2 pl⟩

end SyncReported

/-- The players take RUNNING, and then the waiting request completes with no request held (R12, R14). -/
theorem completeWaiting_after {s t : State} (h : Moved s t) (held : s.clock.held = none) (result : Word) (first : Player) :
    (t.completeWaiting .ok result first).clock = { s.clock with waiting := none }
      ∧ (∀ q, s.clock.waiting = some q → .completion .slot0 .ok q.tag result ∈ (t.completeWaiting .ok result first).work)
      ∧ ∀ flag, SyncReported s flag → SyncReported (t.completeWaiting .ok result first) flag := by
  have clock := h.inner.clock
  obtain ⟨done, notice, scores⟩ :=
    completeWaiting_noneHeld_same (s := t) (st := .ok) (result := result) (first := first) (clock ▸ held)
  refine ⟨by rw [done, clock], fun q waiting => ?_, fun flag reported => (reported.moved h).of_same notice scores⟩
  exact completion_mem_completeWaiting (clock ▸ waiting) (clock ▸ held)

theorem startFallback_of_noneHeld {s : State} (first : Player) (held : s.clock.held = none) :
    (s.startFallback first).clock = { s.clock.startedAt .free with waiting := none }
      ∧ (∀ q, s.clock.waiting = some q → .completion .slot0 .ok q.tag 1 ∈ (s.startFallback first).work)
      ∧ SyncReported (s.startFallback first) 0 := by
  have reported : SyncReported ((s.reportSync flagSyncLost).onClock (Clock.startedAt .free)) 0 :=
    syncReported_reportSync s flagSyncLost 0 rfl
  obtain ⟨clock, work, sync⟩ :=
    completeWaiting_after (startBoth_moved (s.reportSync flagSyncLost) .free first) held 1 first
  exact ⟨clock, work, sync 0 reported⟩

theorem resumeFallback_of_noneHeld {s : State} (first : Player) (held : s.clock.held = none) :
    (s.resumeFallback first).clock = { s.clock.resumedAt .free with waiting := none }
      ∧ (∀ q, s.clock.waiting = some q → .completion .slot0 .ok q.tag 1 ∈ (s.resumeFallback first).work)
      ∧ (s.clock.mode ≠ .free → SyncReported (s.resumeFallback first) 0) := by
  have report := (reportMode_moved s .free flagSyncLost).inner.clock
  obtain ⟨clock, work, sync⟩ := completeWaiting_after
    (resumeBoth_moved ((s.reportMode .free flagSyncLost).onClock (Clock.resumedAt .free)) first)
    (show (s.reportMode .free flagSyncLost).clock.held = none from report ▸ held) 1 first
  refine ⟨clock.trans ?_, fun q waiting => work q ?_, fun changed => sync 0 ?_⟩
  · rw [State.onClock, State.clock_setClock, report]
  · exact (congrArg Clock.waiting report).trans waiting
  · rw [State.reportMode, if_neg changed]
    exact syncReported_reportSync s flagSyncLost 0 rfl

/-! ### What a strobe makes of the clock (R1, R3, R4, R7, R11, R14) -/

/-- The round counts of a clock that waits (R5, R11, R14). -/
def State.counted (s : State) : State := (s.onClock Clock.countPhase).onClock Clock.countWait

section clockStrobe
variable {s : State} (first : Player)

theorem clockStrobe_idle (h : s.clock.state = .idle) : (s.clockStrobe first).state = s.onClock Clock.countPhase := by
  have state : (s.onClock Clock.countPhase).clock.state = .idle := h
  simp only [State.clockStrobe, state]

theorem clockStrobe_locked (h : s.clock.state = .running) (mode : s.clock.mode = .locked) :
    s.clockStrobe first = (s.onClock Clock.countPhase).strobeLocked := by
  have state : (s.onClock Clock.countPhase).clock.state = .running := h
  have locked : (s.onClock Clock.countPhase).clock.mode = .locked := mode
  simp only [State.clockStrobe, state, locked]

theorem clockStrobe_free (h : s.clock.state = .running) (mode : s.clock.mode = .free) :
    s.clockStrobe first = (s.onClock Clock.countPhase).strobeFree first := by
  have state : (s.onClock Clock.countPhase).clock.state = .running := h
  have free : (s.onClock Clock.countPhase).clock.mode = .free := mode
  simp only [State.clockStrobe, state, free]

theorem clockStrobe_paused (h : s.clock.state = .paused) (change : s.clock.change ≠ .resume) :
    (s.clockStrobe first).state = s.onClock Clock.countPhase := by
  have state : (s.onClock Clock.countPhase).clock.state = .paused := h
  have rests : (s.onClock Clock.countPhase).clock.change ≠ .resume := change
  simp only [State.clockStrobe, state, if_neg rests]

/-- R11, R14: the strobe of a clock that waits counts its wait. -/
theorem clockStrobe_starting (h : s.clock.state = .starting) : (s.clockStrobe first).state =
    if 31 ≤ s.clock.wait then s.counted.startFallback first else s.counted := by
  have state : (s.onClock Clock.countPhase).clock.state = .starting := h
  have waited : s.counted.clock.startOver = decide (31 ≤ s.clock.wait) := by
    refine decide_eq_decide.mpr ?_
    show s.clock.state = .starting ∧ min 32 (s.clock.wait + 1) = 32 ↔ _
    simp only [h, true_and]; omega
  simp only [State.counted] at waited ⊢
  simp only [State.clockStrobe, state, waited, decide_eq_true_eq]

theorem clockStrobe_resuming (h : s.clock.state = .paused) (change : s.clock.change = .resume) :
    (s.clockStrobe first).state = if 31 ≤ s.clock.wait then s.counted.resumeFallback first else s.counted := by
  have state : (s.onClock Clock.countPhase).clock.state = .paused := h
  have pending : (s.onClock Clock.countPhase).clock.change = .resume := change
  have waited : s.counted.clock.resumeOver = decide (31 ≤ s.clock.wait) := by
    refine decide_eq_decide.mpr ?_
    show s.clock.state = .paused ∧ s.clock.change = .resume ∧ min 32 (s.clock.wait + 1) = 32 ↔ _
    simp only [h, change, true_and]; omega
  simp only [State.counted] at waited ⊢
  simp only [State.clockStrobe, state, if_pos pending, waited, decide_eq_true_eq]

theorem clock_counted_of_lt (h : s.clock.wait < 31) : s.counted.clock =
    { s.clock with phase := min 32 (s.clock.phase + 1), taking := true, wait := s.clock.wait + 1 } := by
  have count : min Config.waitLimit (s.clock.wait + 1) = s.clock.wait + 1 := by simp only [Config.waitLimit]; omega
  exact congrArg (fun n => { s.clock with phase := min 32 (s.clock.phase + 1), taking := true, wait := n }) count

theorem clock_counted_of_le (h : 31 ≤ s.clock.wait) : s.counted.clock =
    { s.clock with phase := min 32 (s.clock.phase + 1), taking := true, wait := 32 } := by
  have count : min Config.waitLimit (s.clock.wait + 1) = 32 := by simp only [Config.waitLimit]; omega
  exact congrArg (fun n => { s.clock with phase := min 32 (s.clock.phase + 1), taking := true, wait := n }) count

/-- R3, R7: the LOCKED advance, and the loss of lock at 32. -/
theorem strobeLocked_lockOver (h : s.clock.state = .running) (mode : s.clock.mode = .locked) :
    (s.onClock Clock.advanceLocked).clock.lockOver = decide (s.clock.phase = 32) := by
  refine decide_eq_decide.mpr ?_
  show s.clock.state = .running ∧ s.clock.mode = .locked ∧ s.clock.phase = 32 ↔ _
  simp only [h, mode, true_and]

theorem strobeFree_of_noPause (h : s.clock.change ≠ .pause) : (s.strobeFree first).state = s.onClock Clock.advanceFree := by
  have none : (s.onClock Clock.advanceFree).clock.change ≠ .pause := h
  simp only [State.strobeFree, if_neg none]

end clockStrobe

/-- Settles O24: the strobe leaves the clock as `clockStrobe` does, and the rest of the round leaves it, the work list handed
over so far, notices and flags. -/
theorem roundAdvancesClock : Obligations.RoundAdvancesClock := by
  intro s r order op c phase
  have after := roundStrobe_after s r order
  have clock := after.beside.clock
  refine ⟨_, exec_roundStrobe op r order, fun idle => ?idle, fun starting early => ?starting, fun running locked => ?locked,
    fun running free change => ?free, fun paused change => ?paused, fun paused change early => ?resuming,
    fun held late => ⟨fun starting => ?started, fun paused change => ?resumed⟩⟩
  case idle => rw [clock, clockStrobe_idle _ idle]; rfl
  case starting =>
    rw [clock, clockStrobe_starting _ starting, if_neg (Nat.not_le.mpr early)]
    exact clock_counted_of_lt early
  case locked =>
    have overdue := strobeLocked_lockOver (s := s.onClock Clock.countPhase) running locked
    rw [clockStrobe_locked _ running locked] at after clock
    rw [clock]
    by_cases full : phase = 32
    · have lost : (s.onClock Clock.countPhase).strobeLocked.state
          = ((s.onClock Clock.countPhase).onClock Clock.advanceLocked).loseLock := if_pos (overdue.trans (decide_eq_true full))
      rw [lost] at after
      rw [lost, if_pos full]
      exact ⟨rfl, fun _ => ((syncReported_reportSync _ flagSyncLost 0 rfl).afterStrobe after).1⟩
    · have kept : (s.onClock Clock.countPhase).strobeLocked.state = (s.onClock Clock.countPhase).onClock Clock.advanceLocked :=
        if_neg (by rw [overdue, decide_eq_true_eq]; exact full)
      rw [kept, if_neg full]
      refine ⟨?_, fun h => absurd h full⟩
      rw [← locked]; rfl
  case free =>
    rw [clock, clockStrobe_free _ running free, strobeFree_of_noPause]
    exacts [rfl, change]
  case paused => rw [clock, clockStrobe_paused _ paused change]; rfl
  case resuming =>
    rw [clock, clockStrobe_resuming _ paused change, if_neg (Nat.not_le.mpr early)]
    exact clock_counted_of_lt early
  case started =>
    have taken := clockStrobe_starting order.first starting
    rw [if_pos late] at taken
    obtain ⟨start, work, sync⟩ := startFallback_of_noneHeld (s := s.counted) order.first held
    rw [taken] at after clock
    refine ⟨fun q waiting => after.work.subset (work q waiting), sync.afterStrobe after, ?_⟩
    rw [clock, start, clock_counted_of_le late]
    rfl
  case resumed =>
    have taken := clockStrobe_resuming order.first paused change
    rw [if_pos late] at taken
    obtain ⟨resume, work, sync⟩ := resumeFallback_of_noneHeld (s := s.counted) order.first held
    rw [taken] at after clock
    refine ⟨fun q waiting => after.work.subset (work q waiting), fun changed => (sync changed).afterStrobe after, ?_⟩
    rw [clock, resume, clock_counted_of_le late]
    rfl

end Sys2Proof.Machine

/-! ### What a chain of updates leaves unchanged -/

namespace Sys2Proof.Keeps

open Machine

variable {but : List Part} {s t u : State}

theorem refl (s : State) : Keeps but s s := ⟨rfl, fun p _ => by cases p <;> rfl⟩

theorem trans (h : Keeps but s t) (k : Keeps but t u) : Keeps but s u := by
  refine ⟨k.1.trans h.1, fun p n => ?_⟩
  have hp := h.2 p n
  have kp := k.2 p n
  cases p <;> exact Eq.trans kp hp

theorem mono {more : List Part} (h : Keeps but s t) (sub : but ⊆ more) : Keeps more s t :=
  ⟨h.1, fun p n => h.2 p (fun x => n (sub x))⟩

theorem setClock (h : Keeps but s t) (c : Clock) (k : Part.clock ∈ but := by decide) : Keeps but s (t.setClock c) :=
  h.trans ⟨rfl, fun p n => by cases p <;> first | rfl | exact absurd k n⟩

theorem onClock (h : Keeps but s t) (f : Clock → Clock) (k : Part.clock ∈ but := by decide) : Keeps but s (t.onClock f) :=
  h.setClock _ k

theorem setSlot (h : Keeps but s t) {x : SlotId} (y : Slot) (k : Part.slot x ∈ but := by decide) : Keeps but s (t.setSlot x y) := by
  refine h.trans ⟨rfl, fun p n => ?_⟩
  cases p with
  | slot z => exact State.slot_setSlot_ne t x y z (by rintro rfl; exact n k)
  | _ => rfl

theorem setSession (h : Keeps but s t) {pl : Player} (x : Session) (k : Part.session pl ∈ but := by decide) :
    Keeps but s (t.setSession pl x) := by
  refine h.trans ⟨rfl, fun p n => ?_⟩
  cases p with
  | session q => exact State.session_setSession_ne t pl x q (by rintro rfl; exact n k)
  | _ => rfl

theorem setJudge (h : Keeps but s t) {pl : Player} (x : Judge) (k : Part.judge pl ∈ but := by decide) :
    Keeps but s (t.setJudge pl x) := by
  refine h.trans ⟨rfl, fun p n => ?_⟩
  cases p with
  | judge q => exact State.judge_setJudge_ne t pl x q (by rintro rfl; exact n k)
  | _ => rfl

theorem ask (h : Keeps but s t) (w : Work) (k : Part.work ∈ but := by decide) : Keeps but s (t.ask w) :=
  h.trans ⟨rfl, fun p n => by cases p <;> first | rfl | exact absurd k n⟩

theorem freeBus (h : Keeps but s t) (k : Part.bus ∈ but := by decide) : Keeps but s t.freeBus :=
  h.trans ⟨rfl, fun p n => by cases p <;> first | rfl | exact absurd k n⟩

theorem complete (h : Keeps but s t) {x : SlotId} (tag : BitVec 16) (st : Status) (r : Word)
    (k : Part.slot x ∈ but := by decide) (w : Part.work ∈ but := by decide) : Keeps but s (t.complete x tag st r) :=
  (h.setSlot _ k).ask _ w

theorem reportSync (h : Keeps but s t) (f : BitVec 16) (k : [Part.notice, .score .p0, .score .p1] ⊆ but := by decide) :
    Keeps but s (t.reportSync f) := by
  refine h.trans ⟨rfl, fun p n => ?_⟩
  cases p with
  | notice => exact absurd (k (by decide)) n
  | score q => exact absurd (k (by cases q <;> decide)) n
  | _ => rfl

theorem logFault (h : Keeps but s t) (kind : FaultKind) (pl : Option Player) (seq index : Nat)
    (k : [Part.notice, .fault] ⊆ but := by decide) : Keeps but s (t.logFault kind pl seq index) := by
  refine h.trans ⟨rfl, fun p n => ?_⟩
  cases p with
  | notice => exact absurd (k (by decide)) n
  | fault => exact absurd (k (by decide)) n
  | _ => rfl

theorem readReadySlots (h : Keeps but s t)
    (k : [Part.work, .slot .slot0, .slot .slot1, .slot .slot2] ⊆ but := by decide) : Keeps but s t.readReadySlots := by
  refine h.trans ⟨by simp, fun p n => ?_⟩
  cases p with
  | work => exact absurd (k (by decide)) n
  | slot x => exact absurd (k (by cases x <;> decide)) n
  | _ => simp [Part.same]

end Sys2Proof.Keeps

namespace Sys2Proof.Machine

/-! ### Lock lost and back, and pulses in RUNNING (R3, R7, R8) -/

/-- R8: the value that a pulse reacquires is the least of its kind. -/
theorem reacquired_least (lastPulse songTime : Int) : ∃ k : Nat, reacquired lastPulse songTime = lastPulse + 8 * k
    ∧ songTime ≤ lastPulse + 8 * k ∧ ∀ n : Nat, songTime ≤ lastPulse + 8 * n → k ≤ n := by
  refine ⟨(max 0 (-((lastPulse - songTime) / 8))).toNat, ?_, ?_, fun n h => ?_⟩
  · rw [reacquired]; omega
  · omega
  · omega

/-- R3, R8, R13: after a pulse's step both judges have been handed the value, and a pending PAUSE takes effect. -/
theorem afterPulse_eq (s : State) (before : Int) (first : Player) : ∃ v, Moved s v ∧
    s.afterPulse before first = if s.clock.change = .pause then v.takePause first else v := by
  have handed : Moved s (if s.clock.songTime ≠ before then s.handToBoth first else s) := by
    split
    exacts [Moves.refl.handToBoth first, .refl]
  unfold State.afterPulse
  generalize (if s.clock.songTime ≠ before then s.handToBoth first else s) = v at handed ⊢
  refine ⟨v, handed, ?_⟩
  rw [← handed.inner.clock]

/-- The state in which a pulse in RUNNING has taken its step, before a pending PAUSE. -/
structure PulseStepped (s v : State) : Prop where
  change : v.clock.change = s.clock.change
  waiting : v.clock.waiting = s.clock.waiting
  held : v.clock.held = s.clock.held
  state : v.clock.state = .running
  mode : v.clock.mode = .locked
  pulse : v.clock.lastPulse = v.clock.songTime
  work : v.work = s.work
  slots : v.slots = s.slots

/-- R3: a pulse in RUNNING and LOCKED. -/
theorem pulse_locked {s : State} (first : Player) (running : s.clock.state = .running) (locked : s.clock.mode = .locked) :
    ∃ v, PulseStepped s v ∧ v.clock.songTime = min (s.clock.lastPulse + 8) 8388607
      ∧ s.checkSpacing.actPulse first = if s.clock.change = .pause then v.takePause first else v := by
  have checked := clock_checkSpacing s
  obtain ⟨-, slots, work, -, -⟩ := checkSpacing_same s
  obtain ⟨v, moved, eq⟩ :=
    afterPulse_eq (s.checkSpacing.onClock Clock.pulseLocked) s.checkSpacing.clock.songTime first
  have clock : v.clock = s.checkSpacing.clock.pulseLocked := moved.inner.clock
  have act : s.checkSpacing.actPulse first
      = (s.checkSpacing.onClock Clock.pulseLocked).afterPulse s.checkSpacing.clock.songTime first := by
    rw [State.actPulse, checked]; simp only [running, State.pulseRunning, checked, locked]
  rw [checked] at clock
  refine ⟨v, ⟨?_, ?_, ?_, ?_, ?_, ?_, moved.inner.work.trans work, moved.inner.slots.trans slots⟩, ?_, ?_⟩
  · rw [clock]; rfl
  · rw [clock]; rfl
  · rw [clock]; rfl
  · rw [clock]; exact running
  · rw [clock]; exact locked
  · rw [clock]; rfl
  · rw [clock]; rfl
  · rw [act, eq, State.onClock, State.clock_setClock, checked]; rfl

/-- R8: a pulse in RUNNING and FREE. -/
theorem pulse_free {s : State} (first : Player) (running : s.clock.state = .running) (free : s.clock.mode = .free) :
    ∃ v, PulseStepped s v ∧ v.clock.songTime = min (reacquired s.clock.lastPulse s.clock.songTime) 8388607
      ∧ SyncReported v 1
      ∧ s.checkSpacing.actPulse first = if s.clock.change = .pause then v.takePause first else v := by
  have checked := clock_checkSpacing s
  obtain ⟨-, slots, work, -, -⟩ := checkSpacing_same s
  obtain ⟨v, moved, eq⟩ := afterPulse_eq ((s.checkSpacing.onClock Clock.reacquire).reportSync flagSyncBack)
    s.checkSpacing.clock.songTime first
  have clock : v.clock = s.checkSpacing.clock.reacquire := moved.inner.clock
  have act : s.checkSpacing.actPulse first = ((s.checkSpacing.onClock Clock.reacquire).reportSync flagSyncBack).afterPulse
      s.checkSpacing.clock.songTime first := by
    rw [State.actPulse, checked]; simp only [running, State.pulseRunning, checked, free]
  rw [checked] at clock
  refine ⟨v, ⟨?_, ?_, ?_, ?_, ?_, ?_, moved.inner.work.trans work, moved.inner.slots.trans slots⟩, ?_,
    (syncReported_reportSync _ flagSyncBack 1 rfl).moved moved, ?_⟩
  · rw [clock]; rfl
  · rw [clock]; rfl
  · rw [clock]; rfl
  · rw [clock]; exact running
  · rw [clock]; rfl
  · rw [clock]; rfl
  · rw [clock]; rfl
  · rw [act, eq, State.clock_reportSync, State.onClock, State.clock_setClock, checked]; rfl

/-- Settles O26. -/
theorem lockIsLostAndReturns : Obligations.LockIsLostAndReturns := by
  refine ⟨fun s op => ⟨fun running locked full => ?lost, fun short => ?kept⟩,
    fun s first op taking running change => ⟨fun locked => ?locked, fun free => ?free⟩⟩
  case lost =>
    refine ⟨s.loseLock, ?_, rfl, State.notice_reportSync .., fun pl => State.scoreUnit_reportSync .., ?_⟩
    · exact congrArg _ ((whenOperating_of op _).trans (if_pos (decide_eq_true ⟨running, locked, full⟩)))
    · exact ((Keeps.refl s).onClock _).reportSync _
  case kept =>
    have stands : s.clock.lockOver = false := decide_eq_false short
    exact congrArg _ ((whenOperating_of op _).trans (by rw [stands]; rfl))
  case locked =>
    obtain ⟨v, stepped, time, eq⟩ := pulse_locked first running locked
    rw [if_neg change] at eq
    exact ⟨v, eq ▸ exec_syncPulse op taking first, time, stepped.pulse, stepped.mode, stepped.state, stepped.change,
      stepped.waiting, stepped.held, stepped.work⟩
  case free =>
    obtain ⟨v, stepped, time, reported, eq⟩ := pulse_free first running free
    obtain ⟨k, least, above, below⟩ := reacquired_least s.clock.lastPulse s.clock.songTime
    rw [if_neg change] at eq
    rw [least] at time
    exact ⟨v, k, eq ▸ exec_syncPulse op taking first, above, below, time, stepped.pulse, stepped.mode, stepped.state,
      stepped.change, reported.1, reported.2, stepped.work⟩

end Sys2Proof.Machine

namespace Sys2Proof.Machine

/-! ### A pending PAUSE or RESUME takes effect (R13, R14) -/

/-- A completion handed over, with nothing after it. -/
theorem completed_complete (s : State) (x : SlotId) (tag : BitVec 16) (st : Status) (r : Word) :
    Completed s (s.complete x tag st r) x tag st r :=
  ⟨⟨[], by simp, fun _ h => nomatch h⟩, by simp⟩

/-- A completion counts against the work list and the slot that it joins. -/
theorem completed_of_same {s u t : State} {x : SlotId} {tag : BitVec 16} {st : Status} {r : Word}
    (h : Completed u t x tag st r) (work : u.work = s.work) (slot : u.slot x = s.slot x) : Completed s t x tag st r := by
  obtain ⟨⟨reads, asked, only⟩, unwritten⟩ := h
  exact ⟨⟨reads, by rw [asked, work], only⟩, by rw [unwritten, slot]⟩

theorem slot_of_slots {s t : State} (h : t.slots = s.slots) (x : SlotId) : t.slot x = s.slot x :=
  congrArg (PerSlot.get · x) h

/-- R13: a pending PAUSE takes effect with no request held. -/
theorem takePause_of_noneHeld {v : State} {q : Request} (first : Player) (waiting : v.clock.waiting = some q)
    (held : v.clock.held = none) :
    (v.takePause first).clock = { v.clock.pausedNow with waiting := none }
      ∧ (v.takePause first).work = v.work ++ [.completion .slot0 .ok q.tag (BitVec.ofInt 32 v.clock.songTime)]
      ∧ Completed v (v.takePause first) .slot0 q.tag .ok (BitVec.ofInt 32 v.clock.songTime) := by
  have eq : v.takePause first =
      ((v.onClock Clock.pausedNow).onClock (fun c => { c with waiting := none })).complete .slot0 q.tag .ok
        (timeWord v.clock.songTime) := completeWaiting_of_noneHeld (s := v.onClock Clock.pausedNow) waiting held
  rw [eq]
  exact ⟨rfl, rfl, completed_of_same (completed_complete ..) rfl rfl⟩

/-- R3, R8, R13: what a pulse that takes a pending PAUSE leaves. -/
theorem pulse_takePause {s v : State} {q : Request} (first : Player) (h : PulseStepped s v)
    (waiting : s.clock.waiting = some q) (held : s.clock.held = none) :
    (v.takePause first).clock.songTime = v.clock.songTime
      ∧ (v.takePause first).clock.lastPulse = (v.takePause first).clock.songTime
      ∧ (v.takePause first).clock.state = .paused ∧ (v.takePause first).clock.change = .none
      ∧ (v.takePause first).clock.mode = .locked ∧ (v.takePause first).clock.waiting = none
      ∧ Completed s (v.takePause first) .slot0 q.tag .ok (BitVec.ofInt 32 (v.takePause first).clock.songTime) := by
  obtain ⟨clock, -, completed⟩ := takePause_of_noneHeld first (h.waiting.trans waiting) (h.held.trans held)
  rw [clock]
  exact ⟨rfl, h.pulse, rfl, rfl, h.mode, rfl, completed_of_same completed h.work (slot_of_slots h.slots _)⟩

/-- R4, R13: a strobe of a FREE clock takes a pending PAUSE after its advance. -/
theorem strobeFree_of_pause {s : State} (first : Player) (h : s.clock.change = .pause) :
    ∃ v, Moved (s.onClock Clock.advanceFree) v ∧ (s.strobeFree first).state = v.takePause first := by
  have pause : (s.onClock Clock.advanceFree).clock.change = .pause := h
  refine ⟨_, ?_, by simp only [State.strobeFree, if_pos pause]; rfl⟩
  split
  exacts [Moves.refl.handToBoth first, .refl]

/-- R92: with no player PLAYING nothing is compared at a resume. -/
theorem reconcileBoth_of_rest {s : State} (first : Player) (rest : ∀ pl, (s.session pl).state ≠ .playing) :
    s.eachPlayer first (fun pl s => s.reconcile pl) = s := by
  have still (pl : Player) : s.reconcile pl = s := if_neg (rest pl)
  simp only [State.eachPlayer, still]

/-- R14: a resume takes effect with no player PLAYING and no request held. -/
theorem resumeRunning_of_rest {s : State} {q : Request} (mode : LockMode) (flag : BitVec 16) (result : Word) (first : Player)
    (rest : ∀ pl, (s.session pl).state ≠ .playing) (waiting : s.clock.waiting = some q) (held : s.clock.held = none) :
    s.resumeRunning mode flag result first =
      (((s.reportMode mode flag).onClock (Clock.resumedAt mode)).onClock (fun c => { c with waiting := none })).complete
        .slot0 q.tag .ok result := by
  have clock : (s.reportMode mode flag).clock = s.clock := (reportMode_moved s mode flag).inner.clock
  have session (pl : Player) : (s.reportMode mode flag).session pl = s.session pl := by
    unfold State.reportMode; split <;> rfl
  rw [resumeRunning_eq, reconcileBoth_of_rest, completeWaiting_of_noneHeld]
  · exact (congrArg Clock.waiting clock).trans waiting
  · exact (congrArg Clock.held clock).trans held
  · exact fun pl playing => rest pl ((congrArg Session.state (session pl)).symm.trans playing)

/-- R14: what a resume with no player PLAYING and no request held leaves. -/
theorem resumeRunning_effect {s : State} {q : Request} (mode : LockMode) (flag : BitVec 16) (result : Word) (first : Player)
    (rest : ∀ pl, (s.session pl).state ≠ .playing) (waiting : s.clock.waiting = some q) (held : s.clock.held = none) :
    (s.resumeRunning mode flag result first).clock = { s.clock.resumedAt mode with waiting := none }
      ∧ (if s.clock.mode = mode then (s.resumeRunning mode flag result first).notice = s.notice
          ∧ ∀ pl, (s.resumeRunning mode flag result first).scoreUnit pl = s.scoreUnit pl
        else (s.resumeRunning mode flag result first).notice = s.notice ||| 0x40
          ∧ ∀ pl, (s.resumeRunning mode flag result first).scoreUnit pl
            = { s.scoreUnit pl with flags := (s.scoreUnit pl).flags ||| flag })
      ∧ Completed s (s.resumeRunning mode flag result first) .slot0 q.tag .ok result
      ∧ Keeps [.clock, .notice, .score .p0, .score .p1, .work, .slot .slot0] s
        (s.resumeRunning mode flag result first) := by
  rw [resumeRunning_of_rest mode flag result first rest waiting held]
  by_cases same : s.clock.mode = mode
  · rw [if_pos same, State.reportMode, if_pos same]
    exact ⟨rfl, ⟨rfl, fun _ => rfl⟩, completed_of_same (completed_complete ..) rfl rfl,
      (((Keeps.refl s).onClock _).onClock _).complete ..⟩
  · rw [if_neg same, State.reportMode, if_neg same]
    exact ⟨rfl, ⟨State.notice_reportSync s flag, fun pl => State.scoreUnit_reportSync ..⟩,
      completed_of_same (completed_complete ..) rfl rfl, ((((Keeps.refl s).reportSync _).onClock _).onClock _).complete ..⟩

/-- R5: a pulse of good spacing. -/
theorem checkSpacing_of_good {s : State} (good : s.clock.phase = 32 ∨ (6 ≤ s.clock.phase ∧ s.clock.phase ≤ 10)) :
    s.checkSpacing = s.setClock { s.clock with phase := 0, anomalyRun := 0 } := by
  have spacing : spacingGood s.clock.phase = true := decide_eq_true good
  simp only [State.checkSpacing, spacing, if_true]
  rfl

/-- Settles O28. -/
theorem pauseAndResumeTakeEffect : Obligations.PauseAndResumeTakeEffect := by
  refine ⟨fun s first q op running pause waiting held =>
      ⟨fun taking locked => ?locked, fun taking free => ?free, fun r order free => ?strobe⟩,
    fun s first q op paused pending waiting held rest =>
      ⟨fun taking good => ?pulse, fun waited => ?fallback, fun rd order late => ?round⟩⟩
  case locked =>
    obtain ⟨v, stepped, time, eq⟩ := pulse_locked first running locked
    obtain ⟨frozen, done⟩ := pulse_takePause first stepped waiting held
    rw [if_pos pause] at eq
    exact ⟨_, eq ▸ exec_syncPulse op taking first, frozen.trans time, done⟩
  case free =>
    obtain ⟨v, stepped, time, -, eq⟩ := pulse_free first running free
    obtain ⟨k, least, above, below⟩ := reacquired_least s.clock.lastPulse s.clock.songTime
    obtain ⟨frozen, done⟩ := pulse_takePause first stepped waiting held
    rw [if_pos pause] at eq
    rw [least] at time
    exact ⟨_, k, eq ▸ exec_syncPulse op taking first, above, below, frozen.trans time, done⟩
  case strobe =>
    have after := roundStrobe_after s r order
    obtain ⟨v, moved, eq⟩ := strobeFree_of_pause (s := s.onClock Clock.countPhase) order.first pause
    have clock : v.clock = s.clock.countPhase.advanceFree := moved.inner.clock
    obtain ⟨frozen, work, -⟩ := takePause_of_noneHeld (v := v) order.first (by rw [clock]; exact waiting)
      (by rw [clock]; exact held)
    rw [clockStrobe_free order.first running free, eq] at after
    obtain ⟨more, asked⟩ := after.work
    have result := after.beside.clock.trans frozen
    rw [clock] at result work
    refine ⟨_, more, exec_roundStrobe op r order, result, ?_⟩
    rw [← asked, work, result, moved.inner.work, List.append_assoc]
    rfl
  case pulse =>
    obtain ⟨clock, report, completed, keeps⟩ := resumeRunning_effect
      (s := s.setClock { s.clock with phase := 0, anomalyRun := 0 }) .locked flagSyncBack 0 first rest waiting held
    have act : s.checkSpacing.actPulse first
        = (s.setClock { s.clock with phase := 0, anomalyRun := 0 }).resumeRunning .locked flagSyncBack 0 first := by
      rw [checkSpacing_of_good good]
      simp only [State.actPulse, State.clock_setClock, paused, pending, if_true]
    exact ⟨_, act ▸ exec_syncPulse op taking first, clock, report, completed_of_same completed rfl rfl,
      ((Keeps.refl s).setClock _).trans keeps⟩
  case fallback =>
    obtain ⟨clock, report, completed, keeps⟩ := resumeRunning_effect .free flagSyncLost 1 first rest waiting held
    exact ⟨_, exec_resumeFallback op paused pending waited first, clock, report, completed, keeps⟩
  case round =>
    have after := roundStrobe_after s rd order
    obtain ⟨clock, work, sync⟩ := resumeFallback_of_noneHeld (s := s.counted) order.first held
    rw [clockStrobe_resuming order.first paused pending, if_pos late] at after
    refine ⟨_, exec_roundStrobe op rd order, ?_, after.work.subset (work q waiting),
      fun changed => (sync changed).afterStrobe after⟩
    rw [after.beside.clock, clock, clock_counted_of_le late]
    rfl

end Sys2Proof.Machine

namespace Sys2Proof.Machine

/-! ### Players at rest take RUNNING (R12, R87, R133) -/

/-- A player's judge finds nothing to do as it becomes PLAYING: no END taken, and no due time reached. -/
def QuietFor (s : State) (pl : Player) : Prop :=
  (s.scoreUnit pl).endTime = none
    ∧ ∀ i < (s.judge pl).pool.length, ∀ due, s.nextDueOf pl (s.entry pl i) = some due → (s.judge pl).judged < due

theorem laneD_congr {s t : State} {pl : Player} (laneMap : (t.session pl).laneMap = (s.session pl).laneMap)
    (pads : t.pads = s.pads) (lane : Nat) : t.laneDOn pl lane = s.laneDOn pl lane ∧ t.laneDOff pl lane = s.laneDOff pl lane := by
  have target : t.laneTargetOf pl lane = s.laneTargetOf pl lane := by simp only [State.laneTargetOf, laneMap]
  simp only [State.laneDOn, State.laneDOff, State.pad, target, pads, and_self]

theorem nextDueOf_congr {s t : State} {pl : Player} (judge : t.judge pl = s.judge pl)
    (laneMap : (t.session pl).laneMap = (s.session pl).laneMap) (pads : t.pads = s.pads) (e : Entry) :
    t.nextDueOf pl e = s.nextDueOf pl e := by
  obtain ⟨on, off⟩ := laneD_congr laneMap pads e.record.lane
  simp only [State.nextDueOf, State.lapseDue, State.effectiveDue, State.avoidSettleDue, State.settleDue, State.graceDue,
    State.graceReachesEnd, State.params, judge, on, off] <;> rfl

theorem QuietFor.of_same {s t : State} {pl : Player} (h : QuietFor s pl) (judge : t.judge pl = s.judge pl)
    (laneMap : (t.session pl).laneMap = (s.session pl).laneMap) (pads : t.pads = s.pads)
    (score : t.scoreUnit pl = s.scoreUnit pl) : QuietFor t pl := by
  refine ⟨by rw [score]; exact h.1, fun i low due next => ?_⟩
  rw [State.entry, judge, nextDueOf_congr judge laneMap pads] at next
  rw [judge] at low ⊢
  exact h.2 i low due next

theorem firstDue_eq_none {s : State} {pl : Player} {v : Int} {l : List Nat}
    (h : ∀ i ∈ l, ∀ due, s.nextDueOf pl (s.entry pl i) = some due → v < due) : s.firstDue pl v l = none := by
  induction l with
  | nil => rfl
  | cons i l ih =>
    have rest := ih (fun j m => h j (List.mem_cons_of_mem i m))
    rw [State.firstDue, rest]
    cases next : s.nextDueOf pl (s.entry pl i) with
    | none => rfl
    | some due => exact if_neg (Int.not_le.mpr (h i List.mem_cons_self due next))

theorem serveDues_of_none {s : State} {pl : Player} {v : Int} (seen : PerPad Pad)
    (h : s.firstDue pl v (List.range (s.judge pl).pool.length) = none) (fuel : Nat) : s.serveDues seen pl v fuel = s := by
  cases fuel with
  | zero => rfl
  | succ fuel => rw [State.serveDues, h]; exact ite_self s

theorem clearingCheck_of_noEnd {s : State} {pl : Player} (h : (s.scoreUnit pl).endTime = none) : s.clearingCheck pl = s := by
  rw [State.clearingCheck, h]

/-- The session of a player that was ARMED as RUNNING began. -/
def Session.played (x : Session) : Session := if x.state = .armed then { x with state := .playing } else x

theorem playIfArmed_of_quiet {s : State} {pl : Player} (h : (s.session pl).state = .armed → QuietFor s pl) :
    s.playIfArmed pl = s.setSession pl (s.session pl).played := by
  unfold State.playIfArmed
  split
  · rename_i armed
    have played : (s.session pl).played = { s.session pl with state := .playing } := if_pos armed
    have quiet : QuietFor (s.setSession pl (s.session pl).played) pl := (h armed).of_same rfl (by rw [played]; simp) rfl rfl
    have due := firstDue_eq_none (fun i m => quiet.2 i (List.mem_range.mp m))
    rw [State.becomePlaying, State.onSession, ← played, serveDues_of_none _ due, clearingCheck_of_noEnd quiet.1]
  · rename_i other
    rw [Session.played, if_neg other]
    cases pl <;> rfl

/-- R12: both players at rest take RUNNING. -/
theorem startBoth_of_quiet {s : State} (first : Player) (h : Quiet s) : s.eachPlayer first (fun pl s => s.playIfArmed pl) =
    (s.setSession first (s.session first).played).setSession first.other (s.session first.other).played := by
  have apart : first.other ≠ first := by cases first <;> decide
  have second : (s.setSession first (s.session first).played).session first.other = s.session first.other :=
    State.session_setSession_ne _ _ _ _ apart
  have quiet : (s.session first.other).state = .armed → QuietFor (s.setSession first (s.session first).played) first.other :=
    fun armed => .of_same (s := s) (h first.other armed) rfl (congrArg Session.laneMap second) rfl rfl
  unfold State.eachPlayer
  beta_reduce
  rw [playIfArmed_of_quiet (h first), playIfArmed_of_quiet (second ▸ quiet), second]

/-- R12: what entering RUNNING leaves, with both players at rest and no request held. -/
theorem startRunning_effect {s : State} {q : Request} (mode : LockMode) (result : Word) (first : Player) (h : Quiet s)
    (waiting : s.clock.waiting = some q) (held : s.clock.held = none) :
    (s.startRunning mode result first).clock = { s.clock.startedAt mode with waiting := none }
      ∧ (∀ pl, (s.startRunning mode result first).session pl = (s.session pl).played)
      ∧ (s.startRunning mode result first).work = s.work ++ [.completion .slot0 .ok q.tag result]
      ∧ Completed s (s.startRunning mode result first) .slot0 q.tag .ok result
      ∧ Keeps [.clock, .session .p0, .session .p1, .work, .slot .slot0] s (s.startRunning mode result first) := by
  have both := startBoth_of_quiet (s := s.onClock (Clock.startedAt mode)) first h
  rw [startRunning_eq, both,
    completeWaiting_of_noneHeld (by exact waiting) (by exact held)]
  refine ⟨rfl, fun pl => ?_, rfl, completed_of_same (completed_complete ..) rfl rfl, ?_⟩
  · cases first <;> cases pl <;> rfl
  · have sessions (pl : Player) : Part.session pl ∈ [Part.clock, .session .p0, .session .p1, .work, .slot .slot0] := by
      cases pl <;> decide
    exact (((((Keeps.refl s).onClock _).setSession _ (sessions _)).setSession _ (sessions _)).onClock _).complete ..

theorem quiet_reportSync {s : State} (h : Quiet s) (f : BitVec 16) : Quiet (s.reportSync f) := by
  intro pl armed
  obtain ⟨noEnd, due⟩ := h pl armed
  exact ⟨by rw [State.scoreUnit_reportSync]; exact noEnd, due⟩

/-- R12: the fallback of STARTING, with both players at rest and no request held. -/
theorem startFallback_effect {s : State} {q : Request} (first : Player) (h : Quiet s) (waiting : s.clock.waiting = some q)
    (held : s.clock.held = none) :
    (∀ pl, (s.startFallback first).session pl = (s.session pl).played)
      ∧ (s.startFallback first).work = s.work ++ [.completion .slot0 .ok q.tag 1]
      ∧ Completed s (s.startFallback first) .slot0 q.tag .ok 1
      ∧ (s.startFallback first).notice = s.notice ||| 0x40
      ∧ (∀ pl, (s.startFallback first).scoreUnit pl = { s.scoreUnit pl with flags := (s.scoreUnit pl).flags ||| 1 })
      ∧ Keeps [.clock, .notice, .score .p0, .score .p1, .session .p0, .session .p1, .work, .slot .slot0] s
        (s.startFallback first) := by
  obtain ⟨-, sessions, work, completed, keeps⟩ :=
    startRunning_effect (s := s.reportSync flagSyncLost) .free 1 first (quiet_reportSync h _) waiting held
  refine ⟨sessions, work, completed_of_same completed rfl rfl, ?_, fun pl => ?_, ?_⟩
  · exact keeps.2 .notice (by decide)
  · exact (keeps.2 (.score pl) (by cases pl <;> decide)).trans (State.scoreUnit_reportSync ..)
  · exact ((Keeps.refl s).reportSync _).trans (keeps.mono (by decide))

/-- Settles O27. -/
theorem songStarts : Obligations.SongStarts := by
  intro s first q op starting waiting held quiet
  refine ⟨fun taking good => ?pulse, fun waited => ?fallback, fun rd order late => ?round⟩
  case pulse =>
    obtain ⟨clock, sessions, work, completed, keeps⟩ := startRunning_effect
      (s := s.setClock { s.clock with phase := 0, anomalyRun := 0 }) .locked 0 first quiet waiting held
    have act : s.checkSpacing.actPulse first
        = (s.setClock { s.clock with phase := 0, anomalyRun := 0 }).startRunning .locked 0 first := by
      rw [checkSpacing_of_good good]
      simp only [State.actPulse, State.clock_setClock, starting]
    exact ⟨_, act ▸ exec_syncPulse op taking first, clock, sessions, work, completed_of_same completed rfl rfl,
      ((Keeps.refl s).setClock _).trans keeps⟩
  case fallback =>
    exact ⟨_, exec_startFallback op starting waited first, (startFallback_of_noneHeld first held).1,
      startFallback_effect first quiet waiting held⟩
  case round =>
    have after := roundStrobe_after s rd order
    obtain ⟨clock, work, sync⟩ := startFallback_of_noneHeld (s := s.counted) order.first held
    obtain ⟨sessions, -⟩ := startFallback_effect (s := s.counted) order.first quiet waiting held
    rw [clockStrobe_starting order.first starting, if_pos late] at after
    have reported := sync.afterStrobe after
    refine ⟨_, exec_roundStrobe op rd order, ?_, fun pl armed => after.staging pl ?_, after.work.subset (work q waiting),
      reported.1, reported.2⟩
    · rw [after.beside.clock, clock, clock_counted_of_le late]
      rfl
    · rw [sessions, show (s.counted.session pl).played = { s.session pl with state := .playing } from if_pos armed]
      exact List.mem_cons_self

end Sys2Proof.Machine

namespace Sys2Proof.Machine

/-! ### The end of a slot read (R10, R192, R193) -/

/-- The part as a slot read hands over what it has read: the bus is free, and the slot's read no longer in flight. -/
def State.readEnded (s : State) (slot : SlotId) : State := s.freeBus.slotReadOver slot

theorem slotRead_carrying {s : State} {slot : SlotId} (c : Carrying s (.request (.slotRead slot))) (kind : BitVec 16)
    (w : SlotWords) (first : Player) :
    s.slotRead slot kind w first = ((s.readEnded slot).takeRead slot kind w first).readReadySlots :=
  State.endTransfer_carrying _ _ _ c (decide_eq_true rfl)

theorem isStale_iff (s : State) (slot : SlotId) (w : SlotWords) : s.isStale slot w = true ↔
    w.tag = w.doneTag ∨ (slot = .slot0 ∧ ∃ r, s.clock.waiting = some r ∧ r.tag = w.tag) := by
  simp [State.isStale, Option.any_eq_true]

theorem isHeldBack_iff (s : State) (slot : SlotId) (r : Request) : s.isHeldBack slot r = true ↔
    slot = .slot0 ∧ s.clock.waiting ≠ none ∧ takenKind .slot0 r.kind ≠ some .songStop := by
  simp [State.isHeldBack, Option.isSome_iff_ne_none, and_assoc]

section takeRead
variable {s : State} {slot : SlotId} {kind : BitVec 16} {w : SlotWords} {first : Player}

theorem takeRead_of_stale (stale : s.isStale slot w = true) : s.takeRead slot kind w first = s := if_pos stale

theorem takeRead_of_heldBack (fresh : ¬ s.isStale slot w = true)
    (back : s.isHeldBack slot (SlotWords.request kind w) = true) :
    s.takeRead slot kind w first = s.holdBack (SlotWords.request kind w) := (if_neg fresh).trans (if_pos back)

theorem takeRead_of_served (fresh : ¬ s.isStale slot w = true)
    (front : ¬ s.isHeldBack slot (SlotWords.request kind w) = true) (other : takenKind slot kind ≠ some .songStop) :
    s.takeRead slot kind w first = s.serve slot first (SlotWords.request kind w) :=
  (if_neg fresh).trans ((if_neg front).trans (if_neg other))

theorem takeRead_of_songStop (fresh : ¬ s.isStale slot w = true) (stop : takenKind slot kind = some .songStop) :
    s.takeRead slot kind w first = (s.serve slot first (SlotWords.request kind w)).startHeld first := by
  have front : ¬ s.isHeldBack slot (SlotWords.request kind w) = true := by
    rw [isHeldBack_iff]
    rintro ⟨rfl, -, other⟩
    exact other stop
  exact (if_neg fresh).trans ((if_neg front).trans (if_pos stop))

end takeRead

/-- The kinds that a slot takes, by their codes (R193). -/
def takenCodes (slot : SlotId) : List (BitVec 16) := if slot = .slot0 then [1, 2, 3, 4, 5, 6, 7] else [8, 9, 10]

theorem takenKind_eq_none_iff (slot : SlotId) (kind : BitVec 16) : takenKind slot kind = none ↔ kind ∉ takenCodes slot := by
  cases slot <;> simp only [takenKind, takenCodes, reduceCtorEq, if_true, if_false, List.mem_cons, List.not_mem_nil,
    or_false, BitVec.toNat_eq] <;> split <;> simp_all

theorem serve_of_untaken {s : State} {slot : SlotId} {first : Player} {r : Request} (h : takenKind slot r.kind = none) :
    s.serve slot first r = s.unknownKind slot r := by
  unfold State.serve; rw [h]

/-! ### The state that a slot read leaves -/

theorem keeps_readEnded (s : State) (slot : SlotId) : Keeps readerParts s (s.readEnded slot) :=
  ((Keeps.refl s).freeBus).setSlot _ (by cases slot <;> decide)

theorem slot_readEnded (s : State) (slot i : SlotId) : (s.readEnded slot).slot i =
    { s.slot i with readInFlight := if i = slot then false else (s.slot i).readInFlight } := by
  cases slot <;> cases i <;> rfl

/-- A completion joins the work list, and the reads of the slots that are ready follow it (R192, R194). -/
theorem completed_readReadySlots {s u : State} {slot : SlotId} (tag : BitVec 16) (st : Status) (r : Word)
    (work : u.work = s.work) (unwritten : (u.slot slot).unwritten = (s.slot slot).unwritten) :
    Completed s (u.complete slot tag st r).readReadySlots slot tag st r := by
  obtain ⟨reads, asked, only⟩ := (u.complete slot tag st r).asked_readReadySlots
  refine ⟨⟨reads, by rw [asked]; simp [work], only⟩, ?_⟩
  rw [State.slot_readReadySlots]; simp [unwritten]

/-- A slot read that does nothing but hand over a completion. -/
theorem slotRead_completes {s : State} {slot : SlotId} {kind : BitVec 16} {w : SlotWords} {first : Player} {tag : BitVec 16}
    {st : Status} {r : Word} (c : Carrying s (.request (.slotRead slot)))
    (h : (s.readEnded slot).takeRead slot kind w first = (s.readEnded slot).complete slot tag st r) :
    Completed s (s.slotRead slot kind w first) slot tag st r ∧ (s.slotRead slot kind w first).bus = Freed s.bus
      ∧ Keeps readerParts s (s.slotRead slot kind w first) := by
  rw [slotRead_carrying c, h]
  exact ⟨completed_readReadySlots tag st r rfl (by rw [slot_readEnded]), State.bus_readReadySlots _,
    ((keeps_readEnded s slot).complete tag st r (by cases slot <;> decide)).readReadySlots⟩

/-- A slot read that changes nothing but the clock beside the reader's own parts. -/
theorem slotRead_onClock {s : State} {slot : SlotId} {kind : BitVec 16} {w : SlotWords} {first : Player} {f : Clock → Clock}
    (c : Carrying s (.request (.slotRead slot)))
    (h : (s.readEnded slot).takeRead slot kind w first = (s.readEnded slot).onClock f) :
    (s.slotRead slot kind w first).clock = f s.clock ∧ (s.slotRead slot kind w first).bus = Freed s.bus
      ∧ AskedNothing s (s.slotRead slot kind w first) ∧ Keeps (readerParts ++ [.clock]) s (s.slotRead slot kind w first) := by
  rw [slotRead_carrying c, h]
  refine ⟨State.clock_readReadySlots _, State.bus_readReadySlots _, State.asked_readReadySlots _, ?_⟩
  exact (((keeps_readEnded s slot).mono (List.subset_append_left ..)).onClock f).readReadySlots

/-- A slot read that takes nothing, in a state `u` that has the reader's parts: the slots that are ready are read. -/
theorem nothingTaken {s u : State} {slot : SlotId} (bus : u.bus = Freed s.bus) (work : u.work = s.work)
    (slots : u.slots = (s.readEnded slot).slots) (held : u.clock.held = s.clock.held) :
    u.readReadySlots.bus = Freed s.bus ∧ AskedNothing s u.readReadySlots
      ∧ (∀ i, (u.readReadySlots.slot i).executing = (s.slot i).executing
        ∧ (u.readReadySlots.slot i).unwritten = (s.slot i).unwritten
        ∧ (u.readReadySlots.slot i).attention = (s.slot i).attention)
      ∧ ((s.slot slot).attention = false → (u.readReadySlots.slot slot).readInFlight = false
        ∧ .slotRead slot ∉ u.readReadySlots.work.drop s.work.length)
      ∧ ((s.slot slot).attention = true → (s.slot slot).executing = none → (s.slot slot).unwritten = 0 →
        (slot = .slot0 → s.clock.held = none) →
        (u.readReadySlots.slot slot).readInFlight = true ∧ .slotRead slot ∈ u.readReadySlots.work) := by
  have slot_u (i : SlotId) : u.slot i = { s.slot i with readInFlight := if i = slot then false else (s.slot i).readInFlight } :=
    (slot_of_slots slots i).trans (slot_readEnded s slot i)
  have ready : u.slotReady slot = true ↔ (s.slot slot).attention = true ∧ (s.slot slot).executing = none
      ∧ (s.slot slot).unwritten = 0 ∧ (slot = .slot0 → s.clock.held = none) := by
    rw [slotReady_iff, slot_u, held]; simp
  have asks : .slotRead slot ∈ ([SlotId.slot0, .slot1, .slot2].filter u.slotReady).map Work.slotRead
      ↔ u.slotReady slot = true := by
    cases slot <;> simp
  refine ⟨by rw [State.bus_readReadySlots, bus], ?_, fun i => ?_, fun calm => ?_, fun attention free written unheld => ?_⟩
  · rw [AskedNothing, ← work]; exact State.asked_readReadySlots u
  · rw [State.slot_readReadySlots, slot_u]; exact ⟨rfl, rfl, rfl⟩
  · have unready : ¬ u.slotReady slot = true := fun e => by rw [(ready.mp e).1] at calm; nomatch calm
    refine ⟨by rw [State.slot_readReadySlots, slot_u]; simpa using unready, ?_⟩
    rw [State.work_readReadySlots, work, List.drop_left, asks]
    exact unready
  · have is := ready.mpr ⟨attention, free, written, unheld⟩
    refine ⟨by rw [State.slot_readReadySlots, is]; simp, ?_⟩
    rw [State.work_readReadySlots]
    exact List.mem_append_right _ (asks.mpr is)

/-- Settles O55. -/
theorem slotReadsEnd : Obligations.SlotReadsEnd := by
  intro s slot kind w taken stale waits player _
  have untaken : kind ∉ taken ↔ takenKind slot kind = none := (takenKind_eq_none_iff slot kind).symm
  have fresh : ¬ stale → ¬ (s.readEnded slot).isStale slot w = true := fun n h => n ((isStale_iff _ _ _).mp h)
  refine ⟨fun carrying unknown live => ⟨fun front => ?unknown, fun back => ?back⟩, fun known => ?known,
    fun carrying old => ?stale, fun live => ?live, fun carrying => ?fault⟩
  case unknown =>
    have none := untaken.mp unknown
    have served : (s.readEnded slot).takeRead slot kind w .p0
        = (s.readEnded slot).complete slot w.tag .unknownKind (kind.setWidth 32) := by
      rw [takeRead_of_served (fresh live), serve_of_untaken none]
      · rfl
      · exact fun h => front (by obtain ⟨zero, waiting, -⟩ := (isHeldBack_iff _ _ _).mp h; exact ⟨zero, waiting⟩)
      · rw [none]; exact nofun
    exact ⟨_, congrArg Host.Outcome.next (if_pos (Option.isNone_iff_eq_none.mpr none)), slotRead_completes carrying served⟩
  case back =>
    have none := untaken.mp unknown
    obtain ⟨rfl, waiting⟩ := back
    have held := takeRead_of_heldBack (first := .p0) (fresh live)
      ((isHeldBack_iff (s.readEnded .slot0) .slot0 (SlotWords.request kind w)).mpr ⟨rfl, waiting, by
        rw [show takenKind .slot0 (SlotWords.request kind w).kind = Option.none from none]; exact nofun⟩)
    exact ⟨_, congrArg Host.Outcome.next (if_pos (Option.isNone_iff_eq_none.mpr none)), slotRead_onClock carrying held⟩
  case known =>
    exact congrArg Host.Outcome.next (if_neg (fun h => untaken.mpr (Option.isNone_iff_eq_none.mp h) known))
  case stale =>
    have stands : s.isStale slot w = true := (isStale_iff _ _ _).mpr old
    have left : s.slotRead slot 0 w .p0 = (s.readEnded slot).readReadySlots := by
      rw [slotRead_carrying carrying, takeRead_of_stale (s := s.readEnded slot) stands]
    exact ⟨_, congrArg Host.Outcome.next ((if_pos stands).trans left), nothingTaken (u := s.readEnded slot) rfl rfl rfl rfl,
      (keeps_readEnded s slot).readReadySlots⟩
  case live => exact congrArg Host.Outcome.next (if_neg (fun h => live ((isStale_iff _ _ _).mp h)))
  case fault =>
    have ended : s.endTransfer (Xfer.isSlotRead slot) (fun _ s => s.slotReadFailed slot)
        = ((s.readEnded slot).logFault .busRead (slotPlayer slot) 0 0).readReadySlots :=
      State.endTransfer_carrying _ _ _ carrying (decide_eq_true rfl)
    have whose : slotPlayer slot = player := by cases slot <;> rfl
    refine ⟨_, congrArg Host.Outcome.next ended, nothingTaken rfl rfl rfl rfl, ⟨?_, ?_⟩, ?_⟩
    · rw [State.fault_readReadySlots, whose]; rfl
    · rw [State.notice_readReadySlots, State.notice_logFault, show s.notice ||| 0 = s.notice from BitVec.or_zero]; rfl
    · exact (((keeps_readEnded s slot).mono (List.subset_append_left ..)).logFault ..).readReadySlots

end Sys2Proof.Machine

namespace Sys2Proof.Machine

/-! ### Song requests (R9, R11, R13 to R15) -/

section serve
variable {s : State} {r : Request} (first : Player)

theorem serve_songStart (h : takenKind .slot0 r.kind = some .songStart) : s.serve .slot0 first r = s.songStart r := by
  unfold State.serve; rw [h]; rfl

theorem serve_songPause (h : takenKind .slot0 r.kind = some .songPause) : s.serve .slot0 first r = s.songPause r := by
  unfold State.serve; rw [h]; rfl

theorem serve_songResume (h : takenKind .slot0 r.kind = some .songResume) : s.serve .slot0 first r = s.songResume r := by
  unfold State.serve; rw [h]; rfl

end serve

/-- A fresh request of slot 0 other than SONG_STOP is served when no song request waits (R193). -/
theorem takeRead_freshSong {s : State} {kind : BitVec 16} {w : SlotWords} {first : Player} (f : FreshSong s w)
    (other : takenKind .slot0 kind ≠ some .songStop) : (s.readEnded .slot0).takeRead .slot0 kind w first =
      (s.readEnded .slot0).serve .slot0 first (SlotWords.request kind w) := by
  obtain ⟨⟨-, tag⟩, none⟩ := f
  refine takeRead_of_served (fun h => ?_) (fun h => ?_) other
  · rcases (isStale_iff _ _ _).mp h with same | ⟨-, r, waiting, -⟩
    · exact tag same
    · rw [show (s.readEnded .slot0).clock.waiting = s.clock.waiting from rfl, none] at waiting
      nomatch waiting
  · exact ((isHeldBack_iff _ _ _).mp h).2.1 none

/-! ### A value handed to players that are not PLAYING (R87) -/

theorem serveDues_of_rest {s : State} {pl : Player} (rest : (s.session pl).state ≠ .playing) (seen : PerPad Pad) (v : Int)
    (fuel : Nat) : s.serveDues seen pl v fuel = s := by
  cases fuel with
  | zero => rfl
  | succ fuel => exact if_neg (fun h => rest h.1)

theorem clearingCheck_of_rest {s : State} {pl : Player} (rest : (s.session pl).state ≠ .playing) : s.clearingCheck pl = s := by
  unfold State.clearingCheck
  split
  · rfl
  · exact if_neg (fun h => rest h.1)

/-- R87: a judge whose player is not PLAYING keeps the value and nothing more. -/
theorem handOver_of_rest {s : State} {pl : Player} (rest : (s.session pl).state ≠ .playing) (seen : PerPad Pad) (v : Int) :
    s.handOver seen pl v = s.setJudge pl { s.judge pl with judged := v, serving := false } := by
  have dues := serveDues_of_rest (s := s.takeTime pl v) rest seen v ((s.takeTime pl v).judge pl).dueFuel
  have check := clearingCheck_of_rest (s := (s.takeTime pl v).markServing pl false) rest
  rw [State.handOver, dues, check]
  cases pl <;> rfl

theorem handToBoth_of_rest {s : State} (rest : ∀ pl, (s.session pl).state ≠ .playing) (idle : JudgesAtRest s) :
    s.handToBoth .p0 = (s.setJudge .p0 { s.judge .p0 with judged := s.clock.songTime }).setJudge .p1
      { s.judge .p1 with judged := s.clock.songTime } := by
  have judge (pl : Player) : { s.judge pl with judged := s.clock.songTime, serving := false }
      = { s.judge pl with judged := s.clock.songTime } :=
    congrArg (fun b => { s.judge pl with judged := s.clock.songTime, serving := b }) (idle pl).symm
  have first := handOver_of_rest (rest .p0) s.pads s.clock.songTime
  have second := handOver_of_rest (s := s.setJudge .p0 { s.judge .p0 with judged := s.clock.songTime }) (pl := .p1)
    (rest .p1) s.pads s.clock.songTime
  rw [judge] at first
  refine (congrArg (fun u : State => u.handOver u.pads .p1 u.clock.songTime) first).trans (second.trans ?_)
  exact congrArg _ (judge .p1)

/-- R11: what a SONG_START taken in IDLE leaves, with no player PLAYING. -/
theorem songStart_of_idle {s : State} (r : Request) (h : s.clock.state = .idle) (rest : ∀ pl, (s.session pl).state ≠ .playing)
    (idle : JudgesAtRest s) :
    let v := max (-8388608) (min 8388607 r.arg0.toInt)
    s.songStart r = ((s.setClock { s.clock with
        state := .starting, start := v, songTime := v, wait := 0, waiting := some r }).setJudge .p0
          { s.judge .p0 with judged := v }).setJudge .p1 { s.judge .p1 with judged := v } := by
  intro v
  have started : s.songStart r = (s.setClock { s.clock with
      state := .starting, start := v, songTime := v, wait := 0, waiting := some r }).handToBoth .p0 := by
    unfold State.songStart; rw [h]; rfl
  rw [started]
  exact handToBoth_of_rest (s := s.setClock { s.clock with
    state := .starting, start := v, songTime := v, wait := 0, waiting := some r }) rest idle

/-- R9, R11, R13, R14: the song requests that their state checks refuse. -/
theorem songStart_of_busy {s : State} (r : Request) (h : s.clock.state ≠ .idle) : s.songStart r = s.refuseSong r := by
  unfold State.songStart; split
  · rename_i e; exact absurd e h
  all_goals rfl

theorem songPause_of_busy {s : State} (r : Request) (h : s.clock.state ≠ .running ∨ s.clock.change ≠ .none) :
    s.songPause r = s.refuseSong r := if_neg (fun k => h.elim (fun n => n k.1) (fun n => n k.2))

theorem songResume_of_busy {s : State} (r : Request) (h : s.clock.state ≠ .paused ∨ s.clock.change ≠ .none) :
    s.songResume r = s.refuseSong r := if_neg (fun k => h.elim (fun n => n k.1) (fun n => n k.2))

theorem songPause_of_free {s : State} (r : Request) (h : s.clock.state = .running) (none : s.clock.change = .none) :
    s.songPause r = s.onClock (fun c => { c with change := .pause, waiting := some r }) := if_pos ⟨h, none⟩

theorem songResume_of_free {s : State} (r : Request) (h : s.clock.state = .paused) (none : s.clock.change = .none) :
    s.songResume r = s.onClock (fun c => { c with change := .resume, wait := 0, waiting := some r }) := if_pos ⟨h, none⟩

/-- Settles O29. -/
theorem songRequestsTakenOrRefused : Obligations.SongRequestsTakenOrRefused := by
  refine ⟨fun s w fresh idle stopped rest => ?start, fun s w fresh none => ⟨fun running => ?pause, fun paused => ?resume⟩,
    fun s w fresh => ⟨fun busy => ?noStart, fun busy => ?noPause, fun busy => ?noResume⟩⟩
  case start =>
    have carrying := fresh.1.1
    have served := takeRead_freshSong (kind := 1) (first := .p0) fresh nofun
    rw [serve_songStart _ rfl, songStart_of_idle (s := s.readEnded .slot0) _ stopped rest idle] at served
    refine ⟨s.slotRead .slot0 1 w .p0, rfl, ?_⟩
    rw [slotRead_carrying carrying, served]
    refine ⟨State.clock_readReadySlots _, fun pl => ?_, State.bus_readReadySlots _, State.asked_readReadySlots _, ?_, ?_⟩
    · rw [State.judge_readReadySlots]; cases pl <;> rfl
    · rw [State.slot_readReadySlots]; rfl
    · exact (((((keeps_readEnded s .slot0).mono (List.subset_append_left ..)).setClock _).setJudge _).setJudge
        _).readReadySlots
  case pause =>
    have served := takeRead_freshSong (kind := 2) (first := .p0) fresh nofun
    rw [serve_songPause _ rfl, songPause_of_free (s := s.readEnded .slot0) _ running none] at served
    exact ⟨_, rfl, slotRead_onClock fresh.1.1 served⟩
  case resume =>
    have served := takeRead_freshSong (kind := 3) (first := .p0) fresh nofun
    rw [serve_songResume _ rfl, songResume_of_free (s := s.readEnded .slot0) _ paused none] at served
    exact ⟨_, rfl, slotRead_onClock fresh.1.1 served⟩
  case noStart =>
    have served := takeRead_freshSong (kind := 1) (first := .p0) fresh nofun
    rw [serve_songStart _ rfl, songStart_of_busy (s := s.readEnded .slot0) _ busy] at served
    exact ⟨_, rfl, slotRead_completes fresh.1.1 served⟩
  case noPause =>
    have served := takeRead_freshSong (kind := 2) (first := .p0) fresh nofun
    rw [serve_songPause _ rfl, songPause_of_busy (s := s.readEnded .slot0) _ busy] at served
    exact ⟨_, rfl, slotRead_completes fresh.1.1 served⟩
  case noResume =>
    have served := takeRead_freshSong (kind := 3) (first := .p0) fresh nofun
    rw [serve_songResume _ rfl, songResume_of_busy (s := s.readEnded .slot0) _ busy] at served
    exact ⟨_, rfl, slotRead_completes fresh.1.1 served⟩

end Sys2Proof.Machine

namespace Sys2Proof.Machine

/-! ### SONG_STOP (R15) -/

/-- R10, R193: a SONG_STOP whose tag is no other's is served, and then the held request starts. -/
theorem takeRead_freshStop {s : State} {w : SlotWords} (first : Player) (tag : w.tag ≠ w.doneTag)
    (apart : ∀ r, s.clock.waiting = some r → r.tag ≠ w.tag) : (s.readEnded .slot0).takeRead .slot0 4 w first =
      ((s.readEnded .slot0).songStop (SlotWords.request 4 w) first).startHeld first := by
  rw [takeRead_of_songStop _ rfl, serve_songStop first rfl]
  rw [isStale_iff]
  rintro (same | ⟨-, r, waiting, same⟩)
  · exact tag same
  · exact apart r waiting same

theorem songStop_of_idle {s : State} (r : Request) (first : Player) (h : s.clock.state = .idle) :
    s.songStop r first = s.stopDone r := by
  unfold State.songStop; rw [h]

theorem songStop_of_live {s : State} (r : Request) (first : Player) (h : s.clock.state ≠ .idle) : s.songStop r first =
    ((s.cancelWaiting.onClock Clock.stop).eachPlayer first (fun pl s => s.abortIfPlaying pl)).stopDone r := by
  unfold State.songStop; split
  · rename_i e; exact absurd e h
  all_goals rfl

theorem cancelWaiting_of_none {s : State} (h : s.clock.waiting = none) : s.cancelWaiting = s := by
  rw [State.cancelWaiting, h]

theorem cancelWaiting_of_some {s : State} {q : Request} (h : s.clock.waiting = some q) :
    s.cancelWaiting = (s.onClock (fun c => { c with waiting := none })).complete .slot0 q.tag .busy 0 := by
  rw [State.cancelWaiting, h]

theorem abortBoth_of_rest {s : State} (first : Player) (rest : ∀ pl, (s.session pl).state ≠ .playing) :
    s.eachPlayer first (fun pl s => s.abortIfPlaying pl) = s := by
  have still (pl : Player) : s.abortIfPlaying pl = s := if_neg (rest pl)
  simp only [State.eachPlayer, still]

/-- Settles O30. -/
theorem songStop : Obligations.SongStop := by
  refine ⟨fun s w first fresh held => ⟨fun idle noneWaits => ?idle, fun live rest => ⟨fun noneWaits => ?stop,
    fun q waiting apart => ?cancel⟩⟩, fun s w first fresh live noneWaits held => ?players⟩
  case idle =>
    have stopped := takeRead_freshStop first fresh.2 (fun r waiting => by rw [noneWaits] at waiting; nomatch waiting)
    rw [songStop_of_idle (s := s.readEnded .slot0) _ _ idle, startHeld_of_none (by exact held)] at stopped
    exact ⟨_, rfl, slotRead_completes fresh.1 stopped⟩
  case stop =>
    have stopped := takeRead_freshStop first fresh.2 (fun r waiting => by rw [noneWaits] at waiting; nomatch waiting)
    rw [songStop_of_live (s := s.readEnded .slot0) _ _ live, cancelWaiting_of_none (by exact noneWaits),
      abortBoth_of_rest first (by exact rest), startHeld_of_none (by exact held)] at stopped
    refine ⟨s.slotRead .slot0 4 w first, rfl, ?_⟩
    rw [slotRead_carrying fresh.1, stopped]
    exact ⟨State.clock_readReadySlots _, completed_readReadySlots _ _ _ rfl rfl, State.bus_readReadySlots _,
      ((((keeps_readEnded s .slot0).mono (List.subset_append_left ..)).onClock _).complete ..).readReadySlots⟩
  case cancel =>
    have stopped := takeRead_freshStop first fresh.2
      (fun r also => by rw [waiting] at also; obtain rfl := Option.some.inj also; exact apart)
    rw [songStop_of_live (s := s.readEnded .slot0) _ _ live, cancelWaiting_of_some (by exact waiting),
      abortBoth_of_rest first (by exact rest), startHeld_of_none (by exact held)] at stopped
    obtain ⟨reads, asked, only⟩ := State.asked_readReadySlots ((((s.readEnded .slot0).onClock (fun c =>
      { c with waiting := none })).complete .slot0 q.tag .busy 0).onClock Clock.stop |>.stopDone (SlotWords.request 4 w))
    refine ⟨s.slotRead .slot0 4 w first, reads, rfl, ?_⟩
    rw [slotRead_carrying fresh.1, stopped]
    refine ⟨State.clock_readReadySlots _, ?_, only, ?_, State.bus_readReadySlots _, ?_⟩
    · refine asked.trans ?_
      show s.work ++ [.completion .slot0 .busy q.tag 0] ++ [.completion .slot0 .ok w.tag (BitVec.ofInt 32 s.clock.songTime)]
        ++ reads = _
      simp
    · rw [State.slot_readReadySlots]; rfl
    · exact ((((((keeps_readEnded s .slot0).mono (List.subset_append_left ..)).onClock _).complete ..).onClock _).complete
        ..).readReadySlots
  case players =>
    have stopped := takeRead_freshStop first fresh.2 (fun r waiting => by rw [noneWaits] at waiting; nomatch waiting)
    have aborted := abortBoth_moved ((s.readEnded .slot0).onClock Clock.stop) first
    have unheld : ((((s.readEnded .slot0).onClock Clock.stop).eachPlayer first (fun pl s => s.abortIfPlaying pl)).stopDone
        (SlotWords.request 4 w)).clock.held = none := (congrArg Clock.held aborted.inner.clock).trans held
    rw [songStop_of_live (s := s.readEnded .slot0) _ _ live, cancelWaiting_of_none (by exact noneWaits),
      startHeld_of_none unheld] at stopped
    refine ⟨s.slotRead .slot0 4 w first, rfl, fun pl => ?_⟩
    rw [slotRead_carrying fresh.1, stopped, State.session_readReadySlots, State.scoreUnit_readReadySlots]
    exact abortBoth_player ((s.readEnded .slot0).onClock Clock.stop) first pl

end Sys2Proof.Machine

namespace Sys2Proof.Machine

/-! ### The held request (R10) -/

theorem takenKind_songStop_iff (kind : BitVec 16) : takenKind .slot0 kind = some .songStop ↔ kind = 4 := by
  constructor
  · intro h
    simp only [takenKind] at h
    split at h
    case h_4 e => exact BitVec.eq_of_toNat_eq e
    all_goals nomatch h
  · rintro rfl; rfl

section serve
variable {s : State} {r : Request} (first : Player)

theorem serve_loadProfile (h : takenKind .slot0 r.kind = some .loadProfile) : s.serve .slot0 first r = s.loadProfile r := by
  unfold State.serve; rw [h]; rfl

theorem serve_calibrate (h : takenKind .slot0 r.kind = some .calibrate) : s.serve .slot0 first r = s.calibrate r := by
  unfold State.serve; rw [h]; rfl

theorem serve_sensorDump (h : takenKind .slot0 r.kind = some .sensorDump) : s.serve .slot0 first r = s.sensorDump r := by
  unfold State.serve; rw [h]; rfl

/-- R15: a SONG_STOP adds its completions to the work list. -/
theorem work_songStop_prefix (s : State) (r : Request) : s.work <+: (s.songStop r first).work := by
  have cancel : s.work <+: s.cancelWaiting.work := by
    unfold State.cancelWaiting; split
    exacts [List.prefix_rfl, List.prefix_append _ _]
  have abort := (abortBoth_moved (s.cancelWaiting.onClock Clock.stop) first).inner.work
  unfold State.songStop; split
  · exact List.prefix_append _ _
  all_goals
    refine cancel.trans ?_
    rw [State.stopDone, State.work_complete, abort]
    exact List.prefix_append _ _

/-- A request of slot 0 is served with additions to the work list alone. -/
theorem work_serve_prefix (s : State) (r : Request) : s.work <+: (s.serve .slot0 first r).work := by
  have adds (w : Work) : s.work <+: s.work ++ [w] := List.prefix_append _ _
  unfold State.serve; split
  · unfold State.songStart; split
    · rw [(Moves.refl.handToBoth .p0).inner.work]; exact List.prefix_rfl
    all_goals exact adds _
  · unfold State.songPause; split
    exacts [List.prefix_rfl, adds _]
  · unfold State.songResume; split
    exacts [List.prefix_rfl, adds _]
  · exact work_songStop_prefix first s r
  · unfold State.loadProfile; split
    · exact adds _
    · split
      · exact adds _
      · split
        exacts [adds _, adds _]
  · unfold State.calibrate; split
    · exact adds _
    · split
      · exact adds _
      · split
        exacts [adds _, List.prefix_rfl]
  · exact List.prefix_rfl
  iterate 3
    · rename_i player; nomatch player
  · exact adds _

end serve

/-- A waiting SONG_START has completed and a held request is about to start, in `v` (R10). -/
structure HandedOver (s v : State) (r : Request) (result : Word) : Prop where
  run : v.run = .operating
  state : v.clock.state = .running
  change : v.clock.change = .none
  waiting : v.clock.waiting = none
  held : v.clock.held = none
  work : v.work = s.work ++ [.completion .slot0 .ok r.tag result]
  owner : ∀ pad, v.owner pad = s.owner pad
  pad : ∀ pad, (v.pad pad).state = (s.pad pad).state

/-- R10: RUNNING begins, the waiting request completes, and then the held request is served. -/
theorem startRunning_of_held {s : State} {r h : Request} (mode : LockMode) (result : Word) (first : Player)
    (op : s.run = .operating) (change : s.clock.change = .none) (waiting : s.clock.waiting = some r)
    (held : s.clock.held = some h) :
    ∃ v, HandedOver s v r result ∧ s.startRunning mode result first = v.serve .slot0 first h := by
  have both := startBoth_moved s mode first
  have eq := startRunning_eq s mode result first
  generalize (s.onClock (Clock.startedAt mode)).eachPlayer first (fun pl s => s.playIfArmed pl) = u at both eq
  have clock : u.clock = s.clock.startedAt mode := both.inner.clock
  refine ⟨((u.onClock (fun c => { c with waiting := none })).complete .slot0 r.tag .ok result).onClock
    (fun c => { c with held := none }), ⟨both.inner.run.trans op, congrArg Clock.state clock,
      (congrArg Clock.change clock).trans change, rfl, rfl, congrArg (· ++ _) both.inner.work,
      fun pad => congrArg (PerPad.get · pad) both.inner.owners, fun pad => both.padState pad⟩, ?_⟩
  rw [eq, completeWaiting_of ((congrArg Clock.waiting clock).trans waiting)]
  exact startHeld_of ((congrArg Clock.held clock).trans held)

/-- What comes before leaves the work list, the owners and the pads. -/
theorem HandedOver.of_keeps {s u v : State} {r : Request} {result : Word} (h : HandedOver u v r result)
    (k : Keeps [.clock, .notice, .fault, .score .p0, .score .p1] s u) : HandedOver s v r result where
  run := h.run
  state := h.state
  change := h.change
  waiting := h.waiting
  held := h.held
  work := by rw [h.work, show u.work = s.work from k.2 .work (by decide)]
  owner pad := (h.owner pad).trans (k.2 (.owner pad) (by simp))
  pad pad := by rw [h.pad, show u.pad pad = s.pad pad from k.2 (.pad pad) (by simp)]

theorem keeps_checkSpacing (s : State) : Keeps [.clock, .notice, .fault, .score .p0, .score .p1] s s.checkSpacing := by
  unfold State.checkSpacing; dsimp only; split
  · exact ((Keeps.refl s).onClock _).onClock _
  · split
    · exact (((((Keeps.refl s).logFault ..).onClock _).reportSync _).onClock _).onClock _
    · exact (((Keeps.refl s).logFault ..).onClock _).onClock _

/-- What serving the held request asks for, by its kind, after the completion of the waiting request (R10, R11, R13, R14, R32,
R34, R39, R193). -/
def HeldStarts (s t : State) (r h : Request) (result : Word) : Prop :=
  ∃ more, t.clock.held = none
    ∧ t.work = s.work ++ .completion .slot0 .ok r.tag result :: more
    ∧ (takenKind .slot0 h.kind = none → more = [.completion .slot0 .unknownKind h.tag (h.kind.setWidth 32)])
    ∧ (h.kind = 1 → more = [.completion .slot0 .busy h.tag 0])
    ∧ (h.kind = 3 → more = [.completion .slot0 .busy h.tag 0])
    ∧ (h.kind = 2 → more = [] ∧ t.clock.change = .pause ∧ t.clock.waiting = some h)
    ∧ (h.kind = 5 → padOfNumber h.arg0.toNat = none → more = [.completion .slot0 .badArg h.tag 0])
    ∧ (∀ pad, h.kind = 5 → padOfNumber h.arg0.toNat = some pad → s.owner pad = none →
      (s.pad pad).state ≠ .calibrating →
      more = [.profile pad h.arg1.toNat false] ∧ (t.slot .slot0).executing = some h)
    ∧ (h.kind = 6 → padOfNumber h.arg0.toNat = none → more = [.completion .slot0 .badArg h.tag 0])
    ∧ (∀ pad, h.kind = 6 → padOfNumber h.arg0.toNat = some pad → s.owner pad = none → (s.pad pad).state = .active →
      more = [] ∧ (t.slot .slot0).executing = some h ∧ (t.pad pad).state = .calibrating)
    ∧ (h.kind = 7 → more = [] ∧ (t.slot .slot0).executing = some h ∧ t.scan.dump = some ⟨h.arg0.toNat, false⟩)

section HandedOver
variable {s v : State} {r h : Request} {result : Word} (first : Player)

theorem HandedOver.serve_refused (k : HandedOver s v r result) (kind : h.kind = 1 ∨ h.kind = 3) :
    v.serve .slot0 first h = v.complete .slot0 h.tag .busy 0 := by
  rcases kind with e | e
  · rw [serve_songStart first (by rw [e]; rfl), songStart_of_busy h (by rw [k.state]; decide)]; rfl
  · rw [serve_songResume first (by rw [e]; rfl), songResume_of_busy h (.inl (by rw [k.state]; decide))]; rfl

theorem HandedOver.serve_pause (k : HandedOver s v r result) (kind : h.kind = 2) :
    v.serve .slot0 first h = v.onClock (fun c => { c with change := .pause, waiting := some h }) := by
  rw [serve_songPause first (by rw [kind]; rfl), songPause_of_free h k.state k.change]

theorem loadProfile_of_badArg (kind : h.kind = 5) (arg : padOfNumber h.arg0.toNat = none) :
    v.serve .slot0 first h = v.complete .slot0 h.tag .badArg 0 := by
  rw [serve_loadProfile first (by rw [kind]; rfl), State.loadProfile, arg]

theorem calibrate_of_badArg (kind : h.kind = 6) (arg : padOfNumber h.arg0.toNat = none) :
    v.serve .slot0 first h = v.complete .slot0 h.tag .badArg 0 := by
  rw [serve_calibrate first (by rw [kind]; rfl), State.calibrate, arg]

theorem HandedOver.serve_loadProfile (k : HandedOver s v r result) {pad : PadId} (kind : h.kind = 5)
    (arg : padOfNumber h.arg0.toNat = some pad) (owner : s.owner pad = none) (state : (s.pad pad).state ≠ .calibrating) :
    v.serve .slot0 first h = (v.execute .slot0 h).ask (.profile pad h.arg1.toNat false) := by
  rw [Machine.serve_loadProfile first (by rw [kind]; rfl), State.loadProfile, arg]
  dsimp only
  rw [k.owner, k.pad, owner, if_neg (by decide), if_neg state]

theorem HandedOver.serve_calibrate (k : HandedOver s v r result) {pad : PadId} (kind : h.kind = 6)
    (arg : padOfNumber h.arg0.toNat = some pad) (owner : s.owner pad = none) (state : (s.pad pad).state = .active) :
    v.serve .slot0 first h
      = (v.execute .slot0 h).setPad pad ((v.pad pad).startCalibration (clampNat 64 65535 h.arg1.toNat)) := by
  rw [Machine.serve_calibrate first (by rw [kind]; rfl), State.calibrate, arg]
  dsimp only
  rw [k.owner, k.pad, owner, if_neg (by rw [state]; decide), if_neg (by decide)]

theorem serve_dump (kind : h.kind = 7) : v.serve .slot0 first h = v.sensorDump h :=
  serve_sensorDump first (by rw [kind]; rfl)

/-- R10: the held request starts as if it had just been read. -/
theorem HandedOver.heldStarts (k : HandedOver s v r result) : HeldStarts s (v.serve .slot0 first h) r h result := by
  obtain ⟨more, grown⟩ := work_serve_prefix first v h
  have added {l : List Work} {t : State} (e : v.serve .slot0 first h = t) (work : t.work = v.work ++ l) : more = l := by
    rw [e, work] at grown
    exact List.append_cancel_left grown
  have held : (v.serve .slot0 first h).clock.held = none := by
    rcases ((serve_songStep (s := v) .slot0 first h).slot k.run).held with same | ⟨none, -⟩
    · rw [same, k.held]
    · exact none
  refine ⟨more, held, ?_, fun untaken => added (serve_of_untaken untaken) rfl,
    fun kind => added (k.serve_refused first (.inl kind)) rfl, fun kind => added (k.serve_refused first (.inr kind)) rfl,
    fun kind => ?pause, fun kind arg => added (loadProfile_of_badArg first kind arg) rfl,
    fun pad kind arg owner state => ?profile, fun kind arg => added (calibrate_of_badArg first kind arg) rfl,
    fun pad kind arg owner state => ?calibrate, fun kind => ?dump⟩
  · rw [← grown, k.work, List.append_assoc]; rfl
  case pause =>
    have served := k.serve_pause first kind
    refine ⟨added served (List.append_nil _).symm, ?_⟩
    rw [served]; exact ⟨rfl, rfl⟩
  case profile =>
    have served := k.serve_loadProfile first kind arg owner state
    refine ⟨added served rfl, ?_⟩
    rw [served]; rfl
  case calibrate =>
    have served := k.serve_calibrate first kind arg owner state
    refine ⟨added served (List.append_nil _).symm, ?_⟩
    rw [served, State.pad_setPad, if_pos rfl]; exact ⟨rfl, rfl⟩
  case dump =>
    have served := serve_dump (v := v) first kind
    refine ⟨added served (List.append_nil _).symm, ?_⟩
    rw [served]; exact ⟨rfl, rfl⟩

end HandedOver

/-- R12: the fallback of STARTING with a request held. -/
theorem startFallback_of_held {s : State} {r h : Request} (first : Player) (op : s.run = .operating)
    (change : s.clock.change = .none) (waiting : s.clock.waiting = some r) (held : s.clock.held = some h) :
    ∃ v, HandedOver s v r 1 ∧ s.startFallback first = v.serve .slot0 first h := by
  obtain ⟨v, handed, eq⟩ := startRunning_of_held (s := s.reportSync flagSyncLost) .free 1 first op change waiting held
  exact ⟨v, handed.of_keeps ((Keeps.refl s).reportSync _), eq⟩

/-- Settles O31. -/
theorem heldRequest : Obligations.HeldRequest := by
  refine ⟨fun s kind w r fresh waiting apart other => ?held, fun s first r h op starting change waiting held =>
    ⟨fun waited => ?fallback, fun taking => ?pulse, fun rd order late => ?round⟩⟩
  case held =>
    have live : ¬ (s.readEnded .slot0).isStale .slot0 w = true := by
      rw [isStale_iff]
      rintro (same | ⟨-, q, also, same⟩)
      · exact fresh.2 same
      · obtain rfl := Option.some.inj (waiting.symm.trans also)
        exact apart same
    have back : (s.readEnded .slot0).isHeldBack .slot0 (SlotWords.request kind w) = true := by
      rw [isHeldBack_iff]
      exact ⟨rfl, fun none => Option.some_ne_none r (waiting.symm.trans none),
        fun stop => other ((takenKind_songStop_iff kind).mp stop)⟩
    have taken := takeRead_of_heldBack (kind := kind) (first := .p0) live back
    obtain ⟨clock, bus, -, keeps⟩ := slotRead_onClock fresh.1 taken
    have run : exec (.heldRequest kind w) s = .next (s.slotRead .slot0 kind w .p0) :=
      congrArg Host.Outcome.next (if_pos (by rw [waiting]; rfl))
    refine ⟨_, run, clock, ?_, ?_, bus, keeps⟩
    · rw [slotRead_carrying fresh.1, taken]
      refine ⟨_, State.work_readReadySlots _, fun x asked => ?_⟩
      obtain ⟨i, ready, rfl⟩ := List.mem_map.mp asked
      have is := (List.mem_filter.mp ready).2
      cases i with
      | slot0 => exact nomatch ((slotReady_iff _ _).mp is).2.2.2.2 rfl
      | slot1 => exact .inl rfl
      | slot2 => exact .inr rfl
    · rw [slotRead_carrying fresh.1]; exact State.slotReady_readReadySlots _ _
  case fallback =>
    obtain ⟨v, handed, eq⟩ := startFallback_of_held first op change waiting held
    obtain ⟨more, facts⟩ := handed.heldStarts (h := h) first
    exact ⟨_, more, (exec_startFallback op starting waited first).trans (congrArg Host.Outcome.next eq), facts⟩
  case pulse =>
    have checked := clock_checkSpacing s
    have act : s.checkSpacing.actPulse first = s.checkSpacing.startRunning .locked 0 first := by
      rw [State.actPulse, checked]; simp only [starting]
    obtain ⟨v, handed, eq⟩ := startRunning_of_held (s := s.checkSpacing) .locked 0 first ((checkSpacing_same s).1.trans op)
      (by rw [checked]; exact change) (by rw [checked]; exact waiting) (by rw [checked]; exact held)
    obtain ⟨more, facts⟩ := (handed.of_keeps (keeps_checkSpacing s)).heldStarts (h := h) first
    exact ⟨_, more, (exec_syncPulse op taking first).trans (congrArg Host.Outcome.next (act.trans eq)), facts⟩
  case round =>
    have after := roundStrobe_after s rd order
    rw [clockStrobe_starting order.first starting, if_pos late] at after
    obtain ⟨v, handed, eq⟩ := startFallback_of_held (s := s.counted) order.first op change waiting held
    rw [eq] at after
    have clock := after.beside.clock
    obtain ⟨more, unheld, work, -⟩ := handed.heldStarts (h := h) order.first
    refine ⟨_, exec_roundStrobe op rd order, by rw [clock]; exact unheld, after.work.subset (by rw [work]; simp),
      fun kind => ?_, fun kind => ?_⟩
    · rw [handed.serve_refused order.first kind] at after clock
      exact ⟨after.work.subset (by simp), by rw [clock]; exact handed.waiting⟩
    · rw [clock, handed.serve_pause order.first kind]
      exact ⟨rfl, rfl⟩

end Sys2Proof.Machine

namespace Sys2Proof.Tab

/-! ### Tables entry by entry -/

variable {n : Nat} {α β : Type}

theorem ext_get {t u : Tab n α} (h : ∀ i, t.get i = u.get i) : t = u := by
  obtain ⟨a, la⟩ := t
  obtain ⟨b, lb⟩ := u
  have cells : a = b := List.ext_getElem (la.trans lb.symm) (fun i low _ => h ⟨i, la ▸ low⟩)
  subst cells; rfl

theorem get_set (t : Tab n α) (i j : Fin n) (a : α) : (t.set i a).get j = if j = i then a else t.get j := by
  simp only [Tab.get, Tab.set, List.getElem_set, Fin.ext_iff, eq_comm]

@[simp] theorem get_set_same (t : Tab n α) (i : Fin n) (a : α) : (t.set i a).get i = a := by rw [get_set, if_pos rfl]

theorem get_modify (t : Tab n α) (i j : Fin n) (f : α → α) :
    (t.modify i f).get j = if j = i then f (t.get j) else t.get j := by
  rw [Tab.modify, get_set]
  split
  · rename_i same; rw [same]
  · rfl

@[simp] theorem get_ofFn (f : Fin n → α) (i : Fin n) : (Tab.ofFn f).get i = f i := by simp [Tab.ofFn, Tab.get]

@[simp] theorem get_mapIdx (t : Tab n α) (f : Fin n → α → β) (i : Fin n) : (t.mapIdx f).get i = f i (t.get i) := get_ofFn _ i

/-- A change of several entries, each once. -/
theorem get_foldl_modify {ι : Type} (place : ι → Fin n) (f : α → α) (l : List ι) (once : (l.map place).Nodup) (t : Tab n α)
    (j : Fin n) : (l.foldl (fun t c => t.modify (place c) f) t).get j =
      if j ∈ l.map place then f (t.get j) else t.get j := by
  induction l generalizing t with
  | nil => rfl
  | cons c l ih =>
    obtain ⟨fresh, rest⟩ := List.nodup_cons.mp once
    rw [List.foldl_cons, ih rest, get_modify, List.map_cons]
    by_cases here : j = place c
    · subst here; simp [fresh]
    · simp [here]

end Sys2Proof.Tab

namespace Sys2Proof.Machine

/-! ### Sensors and panels of a pad (R18, R23) -/

theorem channel_inj {p q : PanelId} {c d : SensorId} : channel p c = channel q d ↔ p = q ∧ c = d := by
  simp only [channel, Fin.ext_iff]; omega

/-- Every place of a pad's table is a sensor of a panel. -/
theorem exists_channel (k : Fin 24) : ∃ p c, k = channel p c :=
  ⟨⟨k.val / 4, by omega⟩, ⟨k.val % 4, by omega⟩, by simp only [channel, Fin.ext_iff]; omega⟩

theorem mem_healthyOf {pad : Pad} {p : PanelId} {c : SensorId} :
    c ∈ pad.healthyOf p ↔ pad.profile.enabled p c = true ∧ (pad.sensor p c).healthy = true := by
  have all : c ∈ sensorIds := by revert c; decide
  simp [Pad.healthyOf, Pad.enabledOf, all, and_comm]

theorem channels_nodup (pad : Pad) (p : PanelId) : ((pad.healthyOf p).map (channel p)).Nodup := by
  have ids : sensorIds.Nodup := by decide
  exact ((ids.filter _).filter _).map (fun _ _ e => (channel_inj.mp e).2)

/-- R22, R30: the healthy sensors of the panel change, and no others. -/
theorem get_onHealthy (pad : Pad) (p : PanelId) (f : Sensor → Sensor) (j : Fin 24) :
    (pad.onHealthy p f).sensors.get j =
      if j ∈ (pad.healthyOf p).map (channel p) then f (pad.sensors.get j) else pad.sensors.get j :=
  Tab.get_foldl_modify _ f _ (channels_nodup pad p) _ j

/-! ### One panel in one round (R24 to R30) -/

section round
variable {x : Panel} {f : Profile} {healthy load : Nat} {stamp : Int}

theorem round_of_off (h : x.state = .off) : x.round f healthy load stamp = ⟨x, none, false, false⟩ := if_pos h

theorem round_of_unhealthy (h : x.state ≠ .off) : x.round f 0 load stamp =
    ⟨x.die stamp, if x.state.pressed then some (.release stamp true) else none, false, false⟩ :=
  (if_neg h).trans (if_pos rfl)

theorem round_of_dead (alive : healthy ≠ 0) (h : x.state = .dead) :
    x.round f healthy load stamp = ⟨Panel.revive { x with load := load }, none, false, false⟩ := by
  simp only [Panel.round, h, reduceCtorEq, if_false, if_neg alive]

theorem round_of_unpressed (alive : healthy ≠ 0) (h : x.state = .up ∨ x.state = .rising) :
    x.round f healthy load stamp = Panel.roundUp { x with load := load } f stamp := by
  rcases h with h | h <;> simp only [Panel.round, h, reduceCtorEq, if_false, if_neg alive]

theorem round_of_pressed (alive : healthy ≠ 0) (h : x.state = .down ∨ x.state = .falling) :
    x.round f healthy load stamp = Panel.roundDown { x with load := load } f stamp := by
  rcases h with h | h <;> simp only [Panel.round, h, reduceCtorEq, if_false, if_neg alive]

end round

theorem pressed_iff (st : PanelState) : st.pressed = true ↔ st = .down ∨ st = .falling := by cases st <;> decide

/-- R25, R29, R30: a pressed panel that is not released counts its stuck timer, and is released when the limit is reached. -/
theorem roundDown_of_held {x : Panel} {f : Profile} {stamp : Int} (pressed : (x.fall f.tOff stamp).state.pressed = true)
    (held : (x.fall f.tOff stamp).releaseReached f.dOff = false) :
    (f.stuckLimit = 0 ∨ (x.fall f.tOff stamp).countStuck.stuck < 2000 * f.stuckLimit →
        x.roundDown f stamp = ⟨(x.fall f.tOff stamp).countStuck, none, false, false⟩)
      ∧ (f.stuckLimit ≠ 0 → 2000 * f.stuckLimit ≤ (x.fall f.tOff stamp).countStuck.stuck →
        x.roundDown f stamp = (x.fall f.tOff stamp).countStuck.stuckRound stamp) := by
  have reached : (x.fall f.tOff stamp).countStuck.stuckReached f.stuckLimit = true ↔
      f.stuckLimit ≠ 0 ∧ 2000 * f.stuckLimit ≤ (x.fall f.tOff stamp).countStuck.stuck := by
    have same : (x.fall f.tOff stamp).countStuck.state.pressed = true := pressed
    rw [Panel.stuckReached, same, Bool.true_and, Bool.and_eq_true, bne_iff_ne, decide_eq_true_eq]; rfl
  simp only [Panel.roundDown, held, Bool.false_eq_true, if_false]
  refine ⟨fun short => if_neg ?_, fun limit full => if_pos (reached.mpr ⟨limit, full⟩)⟩
  rw [reached]; omega

/-- R24: the steps of a panel that is not pressed, with its load formed. -/
theorem roundUp_of_low {x : Panel} {f : Profile} {stamp : Int} (low : x.load < f.tOn) :
    x.roundUp f stamp = ⟨{ x with state := .up, confirm := 0 }, none, true, false⟩ := by
  simp [Panel.roundUp, Panel.rise, if_pos low, Panel.pressReached]

theorem round_of_up {x : Panel} {f : Profile} {healthy load : Nat} {stamp : Int} (alive : healthy ≠ 0) (up : x.state = .up)
    (high : f.tOn ≤ load) : x.round f healthy load stamp =
      if f.dOn + 1 ≤ 1 then Panel.pressRound { x with load, state := .rising, riseStamp := stamp, confirm := 1 }
      else ⟨{ x with load, state := .rising, riseStamp := stamp, confirm := 1 }, none, false, false⟩ := by
  have rise : Panel.rise { x with load := load } f.tOn stamp =
      { x with load, state := .rising, riseStamp := stamp, confirm := 1 } := (if_neg (Nat.not_lt.mpr high)).trans (if_pos up)
  simp [round_of_unpressed alive (.inl up), Panel.roundUp, Panel.pressReached, rise]

theorem round_of_rising {x : Panel} {f : Profile} {healthy load : Nat} {stamp : Int} (alive : healthy ≠ 0)
    (rising : x.state = .rising) (high : f.tOn ≤ load) : x.round f healthy load stamp =
      if f.dOn + 1 ≤ x.confirm + 1 then Panel.pressRound { x with load, confirm := x.confirm + 1 }
      else ⟨{ x with load, confirm := x.confirm + 1 }, none, false, false⟩ := by
  have rise : Panel.rise { x with load := load } f.tOn stamp = { x with load, confirm := x.confirm + 1 } :=
    (if_neg (Nat.not_lt.mpr high)).trans (if_neg (by rw [rising]; decide))
  rw [round_of_unpressed alive (.inr rising), Panel.roundUp, rise]
  simp [Panel.pressReached, rising]

/-- R25: the load of a pressed panel against T_off. -/
theorem fall_eq {x : Panel} {tOff : Nat} {stamp : Int} (pressed : x.state = .down ∨ x.state = .falling) :
    x.fall tOff stamp = { x with
      fallStamp := if x.load < tOff ∧ x.state = .down then stamp else x.fallStamp,
      state := if x.load < tOff then .falling else .down,
      confirm := if x.load < tOff then (if x.state = .down then 1 else x.confirm + 1) else 0 } := by
  by_cases low : x.load < tOff
  · rcases pressed with h | h <;> simp [Panel.fall, h, low, Nat.not_le.mpr low]
  · simp [Panel.fall, low, Nat.not_lt.mp low]

/-- R25: the round that releases a pressed panel. -/
theorem roundDown_of_released {x : Panel} {f : Profile} {stamp : Int}
    (reached : (x.fall f.tOff stamp).releaseReached f.dOff = true) :
    x.roundDown f stamp = (x.fall f.tOff stamp).releaseRound := by
  simp only [Panel.roundDown, reached, if_true]

/-- Settles O33, row by row of the panel tables. -/
theorem panelStateMachine : Obligations.PanelStateMachine := by
  intro x f healthy load stamp r
  refine ⟨round_of_off, fun on none => ?died, fun alive =>
    ⟨round_of_dead alive, fun state low => ?calm, fun up high slow => ?rises, fun up high fast => ?pressedAtOnce,
      fun rising high early => ?counts, fun rising high late => ?pressed, fun down low fast => ?releasedAtOnce,
      fun falling low late => ?released, fun pressed kept => ?held⟩⟩
  case died =>
    have died : r = _ := none ▸ round_of_unhealthy on
    rw [died]
    simp only [Panel.die, pressed_iff, and_self]
  case calm => exact (round_of_unpressed alive state).trans (roundUp_of_low low)
  case rises => exact (round_of_up alive up high).trans (if_neg (by omega))
  case pressedAtOnce => exact (round_of_up alive up high).trans (if_pos (by omega))
  case counts => exact (round_of_rising alive rising high).trans (if_neg (by omega))
  case pressed => exact (round_of_rising alive rising high).trans (if_pos late)
  case releasedAtOnce =>
    have fallen := fall_eq (x := { x with load := load }) (tOff := f.tOff) (stamp := stamp) (.inl down)
    refine (round_of_pressed alive (.inl down)).trans ((roundDown_of_released ?_).trans ?_) <;> rw [fallen]
    · simp [Panel.releaseReached, down, low, fast]
    · simp [Panel.releaseRound, Panel.confirmRelease, down, low]
  case released =>
    have fallen := fall_eq (x := { x with load := load }) (tOff := f.tOff) (stamp := stamp) (.inr falling)
    refine (round_of_pressed alive (.inr falling)).trans ((roundDown_of_released ?_).trans ?_) <;> rw [fallen]
    · simp [Panel.releaseReached, falling, low, late]
    · simp [Panel.releaseRound, Panel.confirmRelease, falling, low]
  case held =>
    have fallen := fall_eq (x := { x with load := load }) (tOff := f.tOff) (stamp := stamp) pressed
    have counting : (Panel.fall { x with load := load } f.tOff stamp).state.pressed = true := by
      rw [fallen, pressed_iff]; dsimp only; split <;> simp
    have unreleased : (Panel.fall { x with load := load } f.tOff stamp).releaseReached f.dOff = false := by
      rw [fallen]
      refine decide_eq_false (fun reached => ?_)
      have low : load < f.tOff := by
        by_contra high
        simp [high] at reached
      rcases kept with high | ⟨down, slow⟩ | ⟨falling, early⟩
      · omega
      · simp [low, down] at reached; omega
      · simp [low, falling] at reached; omega
    obtain ⟨short, full⟩ := roundDown_of_held counting unreleased
    rw [fallen] at short full
    exact ⟨fun h => (round_of_pressed alive pressed).trans (short h),
      fun limit h => (round_of_pressed alive pressed).trans (full limit h)⟩

end Sys2Proof.Machine

/-! ### More updates and what they leave unchanged -/

namespace Sys2Proof.Keeps

open Machine

variable {but : List Part} {s t : State}

theorem setPad (h : Keeps but s t) {i : PadId} (x : Pad) (k : Part.pad i ∈ but := by decide) : Keeps but s (t.setPad i x) := by
  refine h.trans ⟨rfl, fun p n => ?_⟩
  cases p with
  | pad j => exact State.pad_setPad_ne t i x j (by rintro rfl; exact n k)
  | _ => rfl

theorem setScore (h : Keeps but s t) {pl : Player} (x : Score) (k : Part.score pl ∈ but := by decide) :
    Keeps but s (t.setScore pl x) := by
  refine h.trans ⟨rfl, fun p n => ?_⟩
  cases p with
  | score q => exact State.scoreUnit_setScore_ne t pl x q (by rintro rfl; exact n k)
  | _ => rfl

theorem setScan (h : Keeps but s t) (x : Scan) (k : Part.scan ∈ but := by decide) : Keeps but s (t.setScan x) :=
  h.trans ⟨rfl, fun p n => by cases p <;> first | rfl | exact absurd k n⟩

theorem setLamps (h : Keeps but s t) (x : Lamps) (k : Part.lamps ∈ but := by decide) : Keeps but s (t.setLamps x) :=
  h.trans ⟨rfl, fun p n => by cases p <;> first | rfl | exact absurd k n⟩

theorem raise (h : Keeps but s t) (b : BitVec 8) (k : Part.notice ∈ but := by decide) : Keeps but s (t.raise b) :=
  h.trans ⟨rfl, fun p n => by cases p <;> first | rfl | exact absurd k n⟩

theorem flagOwner (h : Keeps but s t) (pad : PadId) (f : BitVec 16) (k : [Part.score .p0, .score .p1] ⊆ but := by decide) :
    Keeps but s (t.flagOwner pad f) := by
  unfold State.flagOwner; split
  · exact h
  · exact h.setScore _ (k (by cases ‹Player› <;> decide))

theorem execute (h : Keeps but s t) {x : SlotId} (r : Request) (k : Part.slot x ∈ but := by decide) :
    Keeps but s (t.execute x r) := h.setSlot _ k

theorem finishExecuting (h : Keeps but s t) {x : SlotId} (st : Status) (r : Word) (k : Part.slot x ∈ but := by decide)
    (w : Part.work ∈ but := by decide) : Keeps but s (t.finishExecuting x st r) := by
  unfold State.finishExecuting; split
  exacts [h, (h.setSlot _ k).complete _ _ _ k w]

end Sys2Proof.Keeps

namespace Sys2Proof.Machine

/-! ### Pad requests as they are taken or refused (R32, R34, R39) -/

theorem padOfNumber_of_two_le {n : Nat} (h : 2 ≤ n) : padOfNumber n = none := by
  match n, h with
  | _ + 2, _ => rfl

section requests
variable {s : State} {r : Request} {pad : PadId}

theorem loadProfile_of_noPad (arg : padOfNumber r.arg0.toNat = none) :
    s.loadProfile r = s.complete .slot0 r.tag .badArg 0 := by rw [State.loadProfile, arg]

theorem loadProfile_of_owned (arg : padOfNumber r.arg0.toNat = some pad) (owned : s.owner pad ≠ none) :
    s.loadProfile r = s.complete .slot0 r.tag .padBusy 0 := by
  rw [State.loadProfile, arg]; exact if_pos (Option.isSome_iff_ne_none.mpr owned)

theorem loadProfile_of_calibrating (arg : padOfNumber r.arg0.toNat = some pad) (free : s.owner pad = none)
    (busy : (s.pad pad).state = .calibrating) : s.loadProfile r = s.complete .slot0 r.tag .busy 0 := by
  rw [State.loadProfile, arg]; exact (if_neg (by rw [free]; decide)).trans (if_pos busy)

theorem loadProfile_of_ready (arg : padOfNumber r.arg0.toNat = some pad) (free : s.owner pad = none)
    (ready : (s.pad pad).state ≠ .calibrating) :
    s.loadProfile r = (s.execute .slot0 r).ask (.profile pad r.arg1.toNat false) := by
  rw [State.loadProfile, arg]; exact (if_neg (by rw [free]; decide)).trans (if_neg ready)

theorem calibrate_of_noPad (arg : padOfNumber r.arg0.toNat = none) :
    s.calibrate r = s.complete .slot0 r.tag .badArg 0 := by rw [State.calibrate, arg]

theorem calibrate_of_inactive (arg : padOfNumber r.arg0.toNat = some pad) (idle : (s.pad pad).state ≠ .active) :
    s.calibrate r = s.complete .slot0 r.tag .noProfile 0 := by
  rw [State.calibrate, arg]; exact if_pos idle

theorem calibrate_of_owned (arg : padOfNumber r.arg0.toNat = some pad) (active : (s.pad pad).state = .active)
    (owned : s.owner pad ≠ none) : s.calibrate r = s.complete .slot0 r.tag .padBusy 0 := by
  rw [State.calibrate, arg]; exact (if_neg (fun h => h active)).trans (if_pos (Option.isSome_iff_ne_none.mpr owned))

theorem calibrate_of_ready (arg : padOfNumber r.arg0.toNat = some pad) (active : (s.pad pad).state = .active)
    (free : s.owner pad = none) : s.calibrate r =
      (s.execute .slot0 r).setPad pad ((s.pad pad).startCalibration (clampNat 64 65535 r.arg1.toNat)) := by
  rw [State.calibrate, arg]; exact (if_neg (fun h => h active)).trans (if_neg (by rw [free]; decide))

end requests

/-- R193: a request that is taken and executes; what it leaves beside the bus, the work list and the slots is in `u`. -/
theorem slotRead_executes {s u : State} {kind : BitVec 16} {w : SlotWords} {first : Player} {r : Request} {but : List Part}
    (c : Carrying s (.request (.slotRead .slot0)))
    (h : (s.readEnded .slot0).takeRead .slot0 kind w first = u) (bus : u.bus = Freed s.bus)
    (executing : (u.slot .slot0).executing = some r) (keeps : Keeps but s u)
    (k : [Part.work, .slot .slot0, .slot .slot1, .slot .slot2] ⊆ but) :
    ((s.slotRead .slot0 kind w first).slot .slot0).executing = some r
      ∧ (∃ reads, (s.slotRead .slot0 kind w first).work = u.work ++ reads ∧ OnlySlotReads reads)
      ∧ (s.slotRead .slot0 kind w first).bus = Freed s.bus ∧ (∀ i, (s.slotRead .slot0 kind w first).pad i = u.pad i)
      ∧ (s.slotRead .slot0 kind w first).scan = u.scan ∧ Keeps but s (s.slotRead .slot0 kind w first) := by
  rw [slotRead_carrying c, h]
  refine ⟨?_, State.asked_readReadySlots u, (State.bus_readReadySlots u).trans bus, fun i => State.pad_readReadySlots u i,
    State.scan_readReadySlots u, keeps.readReadySlots k⟩
  rw [State.slot_readReadySlots]; exact executing

theorem takeRead_loadProfile {s : State} {w : SlotWords} (fresh : FreshSong s w) :
    (s.readEnded .slot0).takeRead .slot0 5 w .p0 = (s.readEnded .slot0).loadProfile (SlotWords.request 5 w) :=
  (takeRead_freshSong (kind := 5) fresh nofun).trans (serve_loadProfile _ rfl)

theorem takeRead_calibrate {s : State} {w : SlotWords} (fresh : FreshSong s w) :
    (s.readEnded .slot0).takeRead .slot0 6 w .p0 = (s.readEnded .slot0).calibrate (SlotWords.request 6 w) :=
  (takeRead_freshSong (kind := 6) fresh nofun).trans (serve_calibrate _ rfl)

/-- R34: the include marks of a new calibration. -/
theorem startCalibration_included (pad : Pad) (wanted : Nat) : ∃ c, (pad.startCalibration wanted).cal = some c
    ∧ c.wanted = wanted ∧ c.taken = 0 ∧ ∀ k, c.sums.get k = 0 ∧ (c.included.get k = true ↔
      pad.profile.enables.getLsbD k.val = true ∧ k.val / 4 < pad.profile.panelCount
        ∧ (pad.sensors.get k).healthy = true) :=
  ⟨_, rfl, rfl, rfl, fun k => ⟨tab_get_fill 0 k, by simp [and_assoc]⟩⟩

/-- R34: the panels of a pad that becomes CALIBRATING. -/
theorem startCalibration_panel (pad : Pad) (wanted : Nat) (p : PanelId) : (pad.startCalibration wanted).panels.get p =
    if (pad.panels.get p).state ∈ [PanelState.rising, .down, .falling] then
      { pad.panels.get p with state := .up, confirm := 0, stuck := 0 }
    else pad.panels.get p := by
  rw [Pad.startCalibration, Tab.get_mapIdx]
  cases h : (pad.panels.get p).state <;> simp

/-- Settles O35, by the first check of the request that fails. -/
theorem loadProfileAndCalibrate : Obligations.LoadProfileAndCalibrate := by
  refine ⟨fun s w fresh => ⟨fun large => ?loadBadArg, fun pad arg => ⟨fun owned => ?loadOwned, fun free busy => ?loadBusy,
      fun free ready => ?load⟩⟩,
    fun s w fresh => ⟨fun large => ?badArg, fun pad arg => ⟨fun idle => ?noProfile, fun active owned => ?owned,
      fun active free => ?calibrate⟩⟩⟩
  case loadBadArg =>
    exact ⟨_, rfl, slotRead_completes fresh.1.1
      ((takeRead_loadProfile fresh).trans (loadProfile_of_noPad (padOfNumber_of_two_le large)))⟩
  case loadOwned =>
    exact ⟨_, rfl, slotRead_completes fresh.1.1 ((takeRead_loadProfile fresh).trans (loadProfile_of_owned arg owned))⟩
  case loadBusy =>
    exact ⟨_, rfl, slotRead_completes fresh.1.1
      ((takeRead_loadProfile fresh).trans (loadProfile_of_calibrating arg free busy))⟩
  case load =>
    obtain ⟨executing, ⟨reads, work, only⟩, bus, -, -, keeps⟩ := slotRead_executes fresh.1.1
      ((takeRead_loadProfile fresh).trans (loadProfile_of_ready arg free ready)) rfl rfl
      (((keeps_readEnded s .slot0).execute _).ask _) (by decide)
    exact ⟨_, rfl, executing, ⟨reads, work.trans (List.append_assoc _ _ _), only⟩, bus, keeps⟩
  case badArg =>
    exact ⟨_, rfl, slotRead_completes fresh.1.1
      ((takeRead_calibrate fresh).trans (calibrate_of_noPad (padOfNumber_of_two_le large)))⟩
  case noProfile =>
    exact ⟨_, rfl, slotRead_completes fresh.1.1 ((takeRead_calibrate fresh).trans (calibrate_of_inactive arg idle))⟩
  case owned =>
    exact ⟨_, rfl, slotRead_completes fresh.1.1 ((takeRead_calibrate fresh).trans (calibrate_of_owned arg active owned))⟩
  case calibrate =>
    obtain ⟨executing, asked, bus, pads, -, keeps⟩ := slotRead_executes (but := readerParts ++ [.pad pad]) fresh.1.1
      ((takeRead_calibrate fresh).trans (calibrate_of_ready arg active free)) rfl rfl
      ((((keeps_readEnded s .slot0).mono (List.subset_append_left ..)).execute _ (by simp [readerParts])).setPad _
        (by simp)) (by simp [readerParts])
    obtain ⟨c, cal, wanted, taken, marks⟩ := startCalibration_included (s.pad pad) (max 64 (min 65535 w.arg1.toNat))
    have now : (s.slotRead .slot0 6 w .p0).pad pad = (s.pad pad).startCalibration (max 64 (min 65535 w.arg1.toNat)) :=
      (pads pad).trans (State.pad_setPad_same ..)
    refine ⟨s.slotRead .slot0 6 w .p0, c, rfl, executing, asked, bus, ?_⟩
    rw [now]
    exact ⟨rfl, cal, rfl, rfl, rfl, wanted, taken, marks, startCalibration_panel _ _, keeps⟩

end Sys2Proof.Machine

namespace Sys2Proof.Machine

/-! ### The request of slot 0 that executes completes (R194) -/

/-- The executing request completes, in a state `u` that has the work list and the slot. -/
theorem completedExecuting_of_same {s u : State} {x : SlotId} (st : Status) (result : Word)
    (executing : (s.slot x).executing ≠ none) (work : u.work = s.work) (slot : u.slot x = s.slot x) :
    CompletedExecuting s (u.finishExecuting x st result) x st result := by
  obtain ⟨r, is⟩ := Option.ne_none_iff_exists'.mp executing
  have here : (u.slot x).executing = some r := by rw [slot, is]
  have done := State.slot_finishExecuting_same u x st result r here
  refine ⟨r, is, ⟨⟨[], ?_, fun _ h => nomatch h⟩, ?_⟩, ?_⟩
  · rw [State.work_finishExecuting _ _ _ _ r here, work]
  · rw [done, slot]
  · rw [done]

/-- R197: a fault is logged with the song time at which the clock stands. -/
theorem logged_logFault {s u : State} (kind : FaultKind) (pl : Option Player) (seq index : Nat) (notices : BitVec 8)
    (fault : u.fault = s.fault) (notice : u.notice = s.notice ||| notices) (clock : u.clock = s.clock) :
    Logged s (u.logFault kind pl seq index) kind pl seq index s.clock.songTime notices := by
  refine ⟨?_, ?_⟩
  · rw [State.fault_logFault, fault, clock]
  · rw [State.notice_logFault, notice]

/-- A transfer of a pad request ends in a bus error: the fault has no player, and the request completes (R32, R37, R39). -/
theorem padRequest_faulted {s : State} (kind : FaultKind) (result : Word) (executing : (s.slot .slot0).executing ≠ none) :
    let t := (s.freeBus.logFault kind none 0 0).finishExecuting .slot0 .busFault result
    CompletedExecuting s t .slot0 .busFault result ∧ Logged s t kind none 0 0 s.clock.songTime 0 ∧ t.bus = Freed s.bus
      ∧ Keeps [.bus, .work, .slot .slot0, .notice, .fault] s t := by
  intro t
  obtain ⟨fault, notice⟩ := logged_logFault (s := s) (u := s.freeBus) kind none 0 0 0 rfl (BitVec.or_zero).symm rfl
  refine ⟨completedExecuting_of_same _ _ executing rfl rfl, ⟨?_, ?_⟩, State.bus_finishExecuting .., ?_⟩
  · rw [State.fault_finishExecuting, fault]
  · rw [State.notice_finishExecuting, notice]
  · exact (((Keeps.refl s).freeBus).logFault ..).finishExecuting ..

/-- A transfer of a pad request ends, and the request completes with nothing else to it (R32, R37, R39). -/
theorem padRequest_done {s : State} (st : Status) (result : Word) (executing : (s.slot .slot0).executing ≠ none) :
    let t := s.freeBus.finishExecuting .slot0 st result
    CompletedExecuting s t .slot0 st result ∧ t.bus = Freed s.bus ∧ Keeps [.bus, .work, .slot .slot0] s t :=
  ⟨completedExecuting_of_same _ _ executing rfl rfl, State.bus_finishExecuting .., ((Keeps.refl s).freeBus).finishExecuting ..⟩

/-! ### Flashes cancelled (R183) -/

theorem lampOf_inj {a : Assign} {pad : PadId} {p q : PanelId} : lampOf a pad p = lampOf a pad q ↔ p = q := by
  cases a <;> cases pad <;> simp only [lampOf, Fin.ext_iff] <;> omega

section cancel
variable (l : Lamps) (pad : PadId) (p : PanelId)

@[simp] theorem assign_cancel : (l.cancel pad p).assign = l.assign := rfl

theorem panel_cancel (q : PanelId) : (l.cancel pad p).panel pad q =
    if q = p then { l.panel pad q with level := 0, remaining := 0 } else l.panel pad q := by
  have set : (l.cancel pad p).panel pad q =
      ((l.panels.get pad).set p { l.panel pad p with level := 0, remaining := 0 }).get q :=
    congrArg (fun t : Tab 6 LampPanel => t.get q) (PerPad.get_set_same l.panels pad _)
  rw [set, Tab.get_set]
  split
  · rename_i same; rw [same]
  · rfl

theorem output_cancel (i : Fin 12) : (l.cancel pad p).output.get i =
    if i = lampOf l.assign pad p then (l.panel pad p).base else l.output.get i := by
  have formed : ((l.setPanel pad p { l.panel pad p with level := 0, remaining := 0 }).panel pad p) =
      { l.panel pad p with level := 0, remaining := 0 } := by
    have := panel_cancel l pad p p
    rwa [if_pos rfl] at this
  rw [Lamps.cancel, Lamps.form, formed, Tab.get_set, Nat.max_zero]
  rfl

end cancel

/-- R183: the flashes of several panels are cancelled, one after the other. -/
theorem cancelAll (pad : PadId) (ps : List PanelId) (l : Lamps) :
    (ps.foldl (fun l p => l.cancel pad p) l).assign = l.assign ∧ ∀ q,
      (ps.foldl (fun l p => l.cancel pad p) l).panel pad q =
          (if q ∈ ps then { l.panel pad q with level := 0, remaining := 0 } else l.panel pad q)
        ∧ (ps.foldl (fun l p => l.cancel pad p) l).output.get (lampOf l.assign pad q) =
          if q ∈ ps then (l.panel pad q).base else l.output.get (lampOf l.assign pad q) := by
  induction ps generalizing l with
  | nil => exact ⟨rfl, fun q => ⟨rfl, rfl⟩⟩
  | cons p ps ih =>
    obtain ⟨assign, each⟩ := ih (l.cancel pad p)
    refine ⟨assign, fun q => ?_⟩
    obtain ⟨panel, output⟩ := each q
    simp only [assign_cancel, output_cancel, lampOf_inj, panel_cancel] at panel output
    rw [List.foldl_cons, panel, output]
    by_cases here : q = p
    · subst here; simp
    · simp [here]

/-! ### A profile is applied (R33) -/

theorem healthyOf_eq_nil {pad : Pad} {p : PanelId} :
    pad.healthyOf p = [] ↔ ∀ c, pad.profile.enabled p c = true → (pad.sensor p c).healthy = false := by
  simp [List.eq_nil_iff_forall_not_mem, mem_healthyOf]

theorem settledState_eq (pad : Pad) (p : PanelId) : pad.settledState p =
    if pad.profile.panelCount ≤ p.val then .off
    else if ∀ c, pad.profile.enabled p c = true → (pad.sensor p c).healthy = false then .dead else .up := by
  simp only [Pad.settledState, List.length_eq_zero_iff, healthyOf_eq_nil, ← Nat.not_lt, ite_not]

/-- The include bits of a profile, sensor by sensor. -/
theorem enabled_parseProfile (d : BitVec 768) (p : PanelId) (c : SensorId) :
    (parseProfile d).enabled p c = (fieldAt d 0x0C 4).testBit (4 * p.val + c.val) := by
  have low : 4 * p.val + c.val < 24 := by omega
  simp only [parseProfile, Profile.enabled, channel, BitVec.getLsbD_ofNat, low, decide_true, Bool.true_and]

/-- R33: every field of a profile, clamped. -/
theorem parseProfile_fields (d : BitVec 768) :
    let f := parseProfile d
    let tOn := max 1 (min 16380 (fieldAt d 0x04 2))
    f.panelCount = max 1 (min 6 (fieldAt d 0x00 1)) ∧ f.enables = BitVec.ofNat 24 (fieldAt d 0x0C 4) ∧ f.tOn = tOn
      ∧ f.tOff = min (tOn - 1) (fieldAt d 0x06 2)
      ∧ f.dOn = min 7 (fieldAt d 0x01 1) ∧ f.dOff = min 7 (fieldAt d 0x02 1)
      ∧ f.shift = max 4 (min 10 (fieldAt d 0x03 1)) ∧ f.stuckLimit = min 240 (fieldAt d 0x08 1)
      ∧ f.lamps.flashLength = max 1 (min 4095 (fieldAt d 0x0A 2)) :=
  ⟨rfl, rfl, rfl, Nat.zero_max _, Nat.zero_max _, Nat.zero_max _, rfl, Nat.zero_max _, rfl⟩

/-- R33: the panels of a pad to which a profile has been applied. -/
theorem applyProfile_panel (pad : Pad) (d : BitVec 768) (addr : Nat) (p : PanelId) :
    (pad.applyProfile (parseProfile d) addr).panels.get p = { pad.panels.get p with
      state :=
        if max 1 (min 6 (fieldAt d 0x00 1)) ≤ p.val then .off
        else if ∀ c : SensorId, (fieldAt d 0x0C 4).testBit (4 * p.val + c.val) = true →
          (pad.sensors.get (channel p c)).healthy = false then .dead
        else .up,
      confirm := 0, stuck := 0, load := 0, lastPress := -8388608, lastRelease := -8388608 } := by
  simp only [Pad.applyProfile, Tab.get_mapIdx, settledState_eq, enabled_parseProfile, Pad.sensor]
  rfl

/-- R33: the sensors of a pad to which a profile has been applied. -/
theorem applyProfile_sensor (pad : Pad) (d : BitVec 768) (addr : Nat) (c : Fin 24) :
    (pad.applyProfile (parseProfile d) addr).sensors.get c = { pad.sensors.get c with
      baseline := 16 * min 4095 (fieldAt d (0x10 + 2 * c.val) 2), failRun := 0, recoverRun := 0 } := by
  simp only [Pad.applyProfile, parseProfile, Tab.get_mapIdx, Tab.get_ofFn, clampNat, Nat.zero_max]

theorem pad_applyProfile (s : State) (pad : PadId) (f : Profile) (addr : Nat) :
    (s.applyProfile pad f addr).pad pad = (s.pad pad).applyProfile f addr := by
  rw [State.applyProfile, State.pad_setLamps, State.pad_setPad_same]

theorem exec_profileReadDone {s : State} {pad : PadId} {addr : Nat} {claimed : Bool}
    (c : Carrying s (.request (.profile pad addr claimed))) (reply : Option (BitVec 768)) :
    exec (.profileReadDone reply) s = .next (s.freeBus.profileRead pad addr claimed reply) :=
  congrArg Host.Outcome.next (State.endTransfer_carrying _ _ _ c rfl)

/-- Settles O36, by the ends of the read: in error, of a claimed pad, and with a profile to apply. -/
theorem profileReadEnds : Obligations.ProfileReadEnds := by
  refine ⟨fun s pad addr claimed carrying executing => ⟨?fault, fun d taken => ?busy⟩,
    fun s pad addr d carrying executing free => ?applied⟩
  case fault => exact ⟨_, exec_profileReadDone carrying none, padRequest_faulted .busRead 0 executing⟩
  case busy =>
    have refused : (claimed || (s.freeBus.owner pad).isSome) = true := by
      rcases taken with owned | rfl
      · rw [Bool.or_eq_true]; exact .inr (Option.isSome_iff_ne_none.mpr owned)
      · rfl
    exact ⟨_, (exec_profileReadDone carrying (some d)).trans (congrArg Host.Outcome.next (if_pos refused)),
      padRequest_done .padBusy 0 executing⟩
  case applied =>
    intro count tOn
    have ready : ¬ (false || (s.freeBus.owner pad).isSome) = true := by
      rw [show s.freeBus.owner pad = none from free]; decide
    have now : (s.freeBus.applyProfile pad (parseProfile d) addr).pad pad = (s.pad pad).applyProfile (parseProfile d) addr :=
      pad_applyProfile ..
    have keeps : Keeps [.bus, .work, .slot .slot0, .pad pad, .lamps] s
        (s.freeBus.applyProfile pad (parseProfile d) addr) :=
      (((Keeps.refl s).freeBus (by simp)).setPad _ (by simp)).setLamps _ (by simp)
    obtain ⟨-, cancelled⟩ := cancelAll pad panelIds s.lamps
    refine ⟨_, (exec_profileReadDone carrying (some d)).trans (congrArg Host.Outcome.next (if_neg ready)),
      completedExecuting_of_same _ _ executing rfl rfl, State.bus_finishExecuting .., ?_⟩
    rw [State.pad_finishExecuting, now, State.lamps_finishExecuting]
    obtain ⟨panelCount, enables, on, off, dOn, dOff, shift, limit, flash⟩ := parseProfile_fields d
    refine ⟨rfl, rfl, rfl, ⟨panelCount, enables, on, off, dOn, dOff, shift, limit, flash, fun p => ?_⟩,
      applyProfile_sensor _ d addr, applyProfile_panel _ d addr, fun p => ?_, ?_⟩
    · exact Tab.get_ofFn _ p
    · have here : p ∈ panelIds := by revert p; decide
      obtain ⟨panel, output⟩ := cancelled p
      rw [if_pos here] at panel output
      exact ⟨congrArg LampPanel.level panel, congrArg LampPanel.remaining panel, output⟩
    · exact keeps.finishExecuting _ _ (by simp) (by simp)

end Sys2Proof.Machine

namespace Sys2Proof.Machine

/-! ### What the owner of a pad is told (R26, R85, R131) -/

/-- Both Score Units as before, but for an event flag of the pad's owner. -/
def OwnerFlagged (s t : State) (pad : PadId) (flags : BitVec 16) : Prop := ∀ pl,
  t.scoreUnit pl = if s.owner pad = some pl then (s.scoreUnit pl).setFlag flags else s.scoreUnit pl

section flagOwner
variable (s : State) (pad : PadId) (f : BitVec 16)

theorem flagOwner_eq : s.flagOwner pad f = { s with scores := (s.flagOwner pad f).scores } := by
  unfold State.flagOwner; split <;> rfl

@[simp] theorem owner_flagOwner (i : PadId) : (s.flagOwner pad f).owner i = s.owner i := by rw [flagOwner_eq]; rfl
@[simp] theorem pad_flagOwner (i : PadId) : (s.flagOwner pad f).pad i = s.pad i := by rw [flagOwner_eq]; rfl
@[simp] theorem notice_flagOwner : (s.flagOwner pad f).notice = s.notice := by rw [flagOwner_eq]
@[simp] theorem fault_flagOwner : (s.flagOwner pad f).fault = s.fault := by rw [flagOwner_eq]
@[simp] theorem clock_flagOwner : (s.flagOwner pad f).clock = s.clock := by rw [flagOwner_eq]

theorem ownerFlagged_flagOwner : OwnerFlagged s (s.flagOwner pad f) pad f := by
  intro pl
  unfold State.flagOwner
  cases h : s.owner pad with
  | none => rfl
  | some q =>
    rw [show (s.flag q f).scoreUnit pl = _ from State.scoreUnit_setScore ..]
    by_cases same : pl = q
    · subst same; simp
    · simp [same, Ne.symm same]

end flagOwner

theorem OwnerFlagged.trans {s t u : State} {pad : PadId} {f g : BitVec 16} (h : OwnerFlagged s t pad f)
    (k : OwnerFlagged t u pad g) (owner : t.owner pad = s.owner pad) : OwnerFlagged s u pad (f ||| g) := by
  intro pl
  rw [k pl, h pl, owner]
  split
  · simp [Score.setFlag, BitVec.or_assoc]
  · rfl

theorem OwnerFlagged.of_scores {s t u : State} {pad : PadId} {f : BitVec 16} (h : OwnerFlagged s t pad f)
    (scores : u.scores = t.scores) : OwnerFlagged s u pad f := fun pl =>
  (congrArg (PerPlayer.get · pl) scores).trans (h pl)

/-- The owner of a pad, if any, has no HELD hold that a release of the panel could slip (R85). -/
def NoHold (s : State) (pad : PadId) (p : PanelId) : Prop := ∀ pl l, s.owner pad = some pl → s.laneOf pl pad p = some l →
  (s.session pl).state ≠ .playing ∨ s.clock.state ≠ .running ∨ (s.judge pl).firstIn l .held = none

theorem NoHold.of_same {s t : State} {pad : PadId} {p : PanelId} (h : NoHold s pad p) (owners : t.owners = s.owners)
    (sessions : t.sessions = s.sessions) (clock : t.clock = s.clock) (judges : t.judges = s.judges) : NoHold t pad p := by
  have session (pl : Player) : t.session pl = s.session pl := congrArg (PerPlayer.get · pl) sessions
  have lane (pl : Player) : t.laneOf pl pad p = s.laneOf pl pad p := by
    unfold State.laneOf State.laneTargetOf; rw [session]
  intro pl l own at'
  rw [session, clock, show t.judge pl = s.judge pl from congrArg (PerPlayer.get · pl) judges]
  exact h pl l ((congrArg (PerPad.get · pad) owners).symm.trans own) ((lane pl).symm.trans at')

/-- R85: a release that meets no HELD hold leaves the judge. -/
theorem judgeRelease_of_noHold {s : State} {pl : Player} {pad : PadId} {p : PanelId} (own : s.owner pad = some pl)
    (free : NoHold s pad p) (stamp : Int) (forced : Bool) : s.judgeRelease pl pad p stamp forced = s := by
  unfold State.judgeRelease
  split
  · rfl
  · rename_i l at'
    split
    · rename_i on
      rw [((free pl l own at').resolve_left (fun n => n on.1)).resolve_left (fun n => n on.2)]
    · rfl

/-- R27, R30, R85: a release with no hold of the lane HELD sets FORCED_RELEASE when it is forced, and does nothing else. -/
theorem emit_release_of_noHold {s : State} {pad : PadId} {p : PanelId} (free : NoHold s pad p) (stamp : Int) (forced : Bool) :
    s.emit pad p (.release stamp forced) = if forced then s.flagOwner pad flagForcedRelease else s := by
  have after : NoHold (if forced then s.flagOwner pad flagForcedRelease else s) pad p := by
    split
    · rw [flagOwner_eq]; exact free.of_same rfl rfl rfl rfl
    · exact free
  unfold State.emit
  dsimp only
  split
  · rfl
  · rename_i pl own
    exact judgeRelease_of_noHold own after stamp forced

/-- R26: a press on a pad without an owner reaches nobody. -/
theorem emit_press_of_unowned {s : State} {pad : PadId} (free : s.owner pad = none) (p : PanelId) (stamp : Int) :
    s.emit pad p (.press stamp) = s := by
  unfold State.emit; dsimp only; rw [free]

/-! ### Sensors that fail and recover (R20, R21) -/

/-- R20, R21: a sensor of a pad with its health changed, both runs 0. -/
def Pad.resense (pad : Pad) (p : PanelId) (c : SensorId) (healthy : Bool) : Pad :=
  { pad with
    sensors := pad.sensors.set (channel p c)
      { pad.sensors.get (channel p c) with healthy, failRun := 0, recoverRun := 0 } }

@[simp] theorem panel_resense (pad : Pad) (p q : PanelId) (c : SensorId) (healthy : Bool) :
    (pad.resense p c healthy).panel q = pad.panel q := rfl

theorem mem_healthyOf_resense {pad : Pad} {p : PanelId} {c d : SensorId} {healthy : Bool} :
    d ∈ (pad.resense p c healthy).healthyOf p ↔
      if d = c then pad.profile.enabled p c = true ∧ healthy = true else d ∈ pad.healthyOf p := by
  have sensor : (pad.resense p c healthy).sensor p d =
      if d = c then { pad.sensor p d with healthy, failRun := 0, recoverRun := 0 } else pad.sensor p d := by
    simp only [Pad.sensor, Pad.resense, Tab.get_set, channel_inj, true_and]
    split
    · rename_i same; rw [same]
    · rfl
  rw [mem_healthyOf, sensor, mem_healthyOf]
  by_cases same : d = c
  · subst same; simp [Pad.resense]
  · simp [same, Pad.resense]

/-- R20, R27: no sensor of the panel is believed once the last one has failed. -/
theorem healthyOf_failed {pad : Pad} {p : PanelId} {c : SensorId} :
    ((pad.resense p c false).healthyOf p).length = 0 ↔ ¬ ∃ d, d ∈ pad.healthyOf p ∧ d ≠ c := by
  rw [List.length_eq_zero_iff, List.eq_nil_iff_forall_not_mem, not_exists]
  refine forall_congr' (fun d => ?_)
  rw [mem_healthyOf_resense]
  by_cases same : d = c <;> simp [same]

/-- R21, R28: a sensor that has recovered is believed. -/
theorem healthyOf_recovered {pad : Pad} {p : PanelId} {c : SensorId} (enabled : pad.profile.enabled p c = true) :
    ((pad.resense p c true).healthyOf p).length ≠ 0 := by
  refine List.length_pos_iff.mpr (List.ne_nil_of_mem (a := c) ?_) |>.ne'
  rw [mem_healthyOf_resense, if_pos rfl]
  exact ⟨enabled, rfl⟩

theorem failSensor_eq (s : State) (n : SensorName) : s.failSensor n =
    (((s.setPad n.pad ((s.pad n.pad).resense n.panel n.sensor false)).raise 0x80).flagOwner n.pad 0x80).logFault .sensorFail
      (s.owner n.pad) (padNumber n.pad) (channel n.panel n.sensor).val := by
  unfold State.failSensor
  dsimp only
  rw [owner_flagOwner]
  rfl

theorem recoverSensor_eq (s : State) (n : SensorName) : s.recoverSensor n =
    ((s.setPad n.pad ((s.pad n.pad).resense n.panel n.sensor true)).raise 0x80).flagOwner n.pad 0x80 := rfl

/-- What is touched on a pad and of its owner. -/
def ownedParts (pad : PadId) : List Part := [.pad pad, .score .p0, .score .p1]

/-- R20: what the failure of a sensor leaves. -/
theorem failSensor_effect (s : State) (n : SensorName) :
    (s.failSensor n).pad n.pad = (s.pad n.pad).resense n.panel n.sensor false
      ∧ OwnerFlagged s (s.failSensor n) n.pad 0x80
      ∧ Logged s (s.failSensor n) .sensorFail (s.owner n.pad) (padNumber n.pad) (channel n.panel n.sensor).val
          s.clock.songTime 0x80
      ∧ Keeps (ownedParts n.pad ++ [.notice, .fault]) s (s.failSensor n) := by
  rw [failSensor_eq]
  have flagged := ownerFlagged_flagOwner ((s.setPad n.pad ((s.pad n.pad).resense n.panel n.sensor false)).raise 0x80) n.pad 0x80
  refine ⟨?_, ?_, logged_logFault _ _ _ _ 0x80 (by simp) (by simp) (by simp), ?_⟩
  · rw [State.pad_logFault, pad_flagOwner, State.pad_raise, State.pad_setPad_same]
  · exact OwnerFlagged.of_scores (s := s) flagged rfl
  · exact ((((Keeps.refl s).setPad _ (by simp [ownedParts])).raise _ (by simp)).flagOwner _ _ (by simp [ownedParts])).logFault
      _ _ _ _ (by simp)

/-- R21: what the recovery of a sensor leaves. -/
theorem recoverSensor_effect (s : State) (n : SensorName) :
    (s.recoverSensor n).pad n.pad = (s.pad n.pad).resense n.panel n.sensor true
      ∧ OwnerFlagged s (s.recoverSensor n) n.pad 0x80 ∧ (s.recoverSensor n).notice = s.notice ||| 0x80
      ∧ Keeps (ownedParts n.pad ++ [.notice]) s (s.recoverSensor n) := by
  rw [recoverSensor_eq]
  refine ⟨?_, ownerFlagged_flagOwner _ n.pad 0x80, by simp, ?_⟩
  · rw [pad_flagOwner, State.pad_raise, State.pad_setPad_same]
  · exact (((Keeps.refl s).setPad _ (by simp [ownedParts])).raise _ (by simp)).flagOwner _ _ (by simp [ownedParts])

theorem tracked_iff {pad : Pad} {p : PanelId} {c : SensorId} : pad.tracked p c = true ↔
    pad.state ≠ .unconfigured ∧ p.val < pad.profile.panelCount ∧ pad.profile.enabled p c = true := by
  simp only [Pad.tracked, Bool.and_eq_true, decide_eq_true_eq]
  tauto

theorem failReached_iff {s : State} {n : SensorName} : s.failReached n = true ↔
    (s.pad n.pad).tracked n.panel n.sensor = true ∧ (s.sensorOf n).healthy = true ∧ 64 ≤ (s.sensorOf n).failRun := by
  simp only [State.failReached, Bool.and_eq_true, decide_eq_true_eq, and_assoc]; rfl

theorem recoverReached_iff {s : State} {n : SensorName} : s.recoverReached n = true ↔
    (s.pad n.pad).tracked n.panel n.sensor = true ∧ (s.sensorOf n).healthy = false
      ∧ 1024 ≤ (s.sensorOf n).recoverRun := by
  simp only [State.recoverReached, Bool.and_eq_true, decide_eq_true_eq, and_assoc, Bool.not_eq_true']; rfl

theorem exec_sensorFail {s : State} {n : SensorName} (op : s.run = .operating) (reached : s.failReached n = true) :
    exec (.sensorFail n) s = .next ((s.failSensor n).killIfDead n.pad n.panel s.clock.songTime) :=
  congrArg Host.Outcome.next ((whenOperating_of op _).trans (if_pos reached))

theorem exec_sensorRecover {s : State} {n : SensorName} (op : s.run = .operating) (reached : s.recoverReached n = true) :
    exec (.sensorRecover n) s = .next ((s.recoverSensor n).reviveIfAlive n.pad n.panel) :=
  congrArg Host.Outcome.next ((whenOperating_of op _).trans (if_pos reached))

/-! ### Panels that die (R27) -/

theorem killIfDead_of_alive {s : State} {pad : PadId} {p : PanelId} {stamp : Int}
    (alive : ((s.pad pad).panel p).state = .off ∨ ((s.pad pad).panel p).state = .dead
      ∨ ((s.pad pad).healthyOf p).length ≠ 0) : s.killIfDead pad p stamp = s := by
  refine if_neg ?_
  rintro ⟨-, on, live, none⟩
  rcases alive with off | dead | some
  exacts [on off, live dead, some none]

/-- R27: a panel left without a believable sensor dies, with no hold of its lane HELD. -/
theorem killIfDead_of_dies {s : State} {pad : PadId} {p : PanelId} {stamp : Int}
    (within : p.val < (s.pad pad).profile.panelCount) (on : ((s.pad pad).panel p).state ≠ .off)
    (live : ((s.pad pad).panel p).state ≠ .dead) (none : ((s.pad pad).healthyOf p).length = 0)
    (free : ((s.pad pad).panel p).state.pressed = true → NoHold s pad p) :
    s.killIfDead pad p stamp =
      if ((s.pad pad).panel p).state.pressed then
        (s.setPad pad ((s.pad pad).setPanel p (((s.pad pad).panel p).die stamp))).flagOwner pad 0x100
      else s.setPad pad ((s.pad pad).setPanel p (((s.pad pad).panel p).die stamp)) := by
  refine (if_pos ⟨within, on, live, none⟩).trans ?_
  split
  · rename_i pressed
    exact emit_release_of_noHold (s := s.setPad pad _) ((free pressed).of_same rfl rfl rfl rfl) stamp true
  · rfl

/-- R20, R27: a sensor fails and its panel does not die. -/
theorem sensorFail_effect_of_alive {s : State} {n : SensorName} (op : s.run = .operating) (reached : s.failReached n = true)
    (alive : ((s.pad n.pad).panel n.panel).state = .off ∨ ((s.pad n.pad).panel n.panel).state = .dead
      ∨ ∃ d, d ∈ (s.pad n.pad).healthyOf n.panel ∧ d ≠ n.sensor) :
    ∃ t, exec (.sensorFail n) s = .next t ∧ t.pad n.pad = (s.pad n.pad).resense n.panel n.sensor false
      ∧ OwnerFlagged s t n.pad 0x80
      ∧ Logged s t .sensorFail (s.owner n.pad) (padNumber n.pad) (channel n.panel n.sensor).val s.clock.songTime 0x80
      ∧ Keeps (ownedParts n.pad ++ [.notice, .fault]) s t := by
  have effect := failSensor_effect s n
  refine ⟨_, (exec_sensorFail op reached).trans (congrArg _ (killIfDead_of_alive ?_)), effect⟩
  rw [effect.1]
  refine alive.imp id (Or.imp id (fun some => ?_))
  rw [Ne, healthyOf_failed, not_not]
  exact some

/-- R20, R27: the last believable sensor of a panel fails, and the panel dies. -/
theorem sensorFail_effect_of_dies {s : State} {n : SensorName} (op : s.run = .operating) (reached : s.failReached n = true)
    (within : n.panel.val < (s.pad n.pad).profile.panelCount)
    (on : ((s.pad n.pad).panel n.panel).state ≠ .off) (live : ((s.pad n.pad).panel n.panel).state ≠ .dead)
    (none : ¬ ∃ d, d ∈ (s.pad n.pad).healthyOf n.panel ∧ d ≠ n.sensor)
    (free : ((s.pad n.pad).panel n.panel).state.pressed = true → NoHold s n.pad n.panel) :
    ∃ t, exec (.sensorFail n) s = .next t
      ∧ t.pad n.pad = ((s.pad n.pad).resense n.panel n.sensor false).setPanel n.panel
          (((s.pad n.pad).panel n.panel).die s.clock.songTime)
      ∧ OwnerFlagged s t n.pad (if ((s.pad n.pad).panel n.panel).state.pressed then 0x180 else 0x80)
      ∧ Logged s t .sensorFail (s.owner n.pad) (padNumber n.pad) (channel n.panel n.sensor).val s.clock.songTime 0x80
      ∧ Keeps (ownedParts n.pad ++ [.notice, .fault]) s t := by
  obtain ⟨pad, flagged, ⟨fault, notice⟩, keeps⟩ := failSensor_effect s n
  have unheld (h : ((s.pad n.pad).panel n.panel).state.pressed = true) : NoHold (s.failSensor n) n.pad n.panel := by
    rw [failSensor_eq, flagOwner_eq]
    exact (free h).of_same rfl rfl rfl rfl
  have died := killIfDead_of_dies (s := s.failSensor n) (pad := n.pad) (p := n.panel) (stamp := s.clock.songTime)
    (by rw [pad]; exact within) (by rw [pad]; exact on) (by rw [pad]; exact live)
    (by rw [pad]; exact healthyOf_failed.mpr none) (by rw [pad]; exact unheld)
  rw [pad, panel_resense] at died
  have put (x : Pad) : Keeps (ownedParts n.pad ++ [.notice, .fault]) s ((s.failSensor n).setPad n.pad x) :=
    keeps.setPad x (by simp [ownedParts])
  have owner : (s.failSensor n).owner n.pad = s.owner n.pad := keeps.2 (.owner n.pad) (by simp [ownedParts])
  by_cases pressed : ((s.pad n.pad).panel n.panel).state.pressed = true
  · rw [if_pos pressed] at died ⊢
    refine ⟨_, (exec_sensorFail op reached).trans (congrArg _ died), ?_, ?_, ⟨?_, ?_⟩,
      (put _).flagOwner _ _ (by simp [ownedParts])⟩
    · rw [pad_flagOwner, State.pad_setPad_same]
    · have forced := ownerFlagged_flagOwner ((s.failSensor n).setPad n.pad (((s.pad n.pad).resense n.panel n.sensor
        false).setPanel n.panel (((s.pad n.pad).panel n.panel).die s.clock.songTime))) n.pad 0x100
      exact flagged.trans (t := (s.failSensor n).setPad n.pad _) forced owner
    · rw [fault_flagOwner]; exact fault
    · rw [notice_flagOwner]; exact notice
  · rw [if_neg pressed] at died ⊢
    exact ⟨_, (exec_sensorFail op reached).trans (congrArg _ died), State.pad_setPad_same .., flagged, ⟨fault, notice⟩,
      put _⟩

/-- R21, R28: a sensor recovers, and the panel of an ACTIVE pad revives if it was DEAD. -/
theorem sensorRecover_effect {s : State} {n : SensorName} (op : s.run = .operating) (reached : s.recoverReached n = true)
    (within : n.panel.val < (s.pad n.pad).profile.panelCount) (enabled : (s.pad n.pad).profile.enabled n.panel n.sensor = true) :
    ∃ t, exec (.sensorRecover n) s = .next t
      ∧ t.pad n.pad = (if (s.pad n.pad).state = .active ∧ ((s.pad n.pad).panel n.panel).state = .dead then
          ((s.pad n.pad).resense n.panel n.sensor true).setPanel n.panel ((s.pad n.pad).panel n.panel).revive
        else (s.pad n.pad).resense n.panel n.sensor true)
      ∧ OwnerFlagged s t n.pad 0x80 ∧ t.notice = s.notice ||| 0x80 ∧ Keeps (ownedParts n.pad ++ [.notice]) s t := by
  obtain ⟨pad, flagged, notice, keeps⟩ := recoverSensor_effect s n
  refine ⟨_, exec_sensorRecover op reached, ?_⟩
  unfold State.reviveIfAlive
  rw [pad]
  by_cases dead : (s.pad n.pad).state = .active ∧ ((s.pad n.pad).panel n.panel).state = .dead
  · rw [if_pos dead, if_pos ⟨dead.1, within, dead.2, healthyOf_recovered enabled⟩]
    exact ⟨State.pad_setPad_same .., flagged, notice, keeps.setPad _ (by simp [ownedParts])⟩
  · rw [if_neg dead, if_neg (fun h => dead ⟨h.1, h.2.2.1⟩)]
    exact ⟨pad, flagged, notice, keeps⟩

/-! ### Presses and releases at their thresholds (R22, R24, R25, R30) -/

/-- R22: how a baseline moves. -/
theorem track_eq (x : Sensor) (k : Nat) : x.track k = { x with baseline :=
    (let d : Int := 16 * (x.raw : Int) - x.baseline
     let step := Int.tdiv d (2 ^ k)
     (x.baseline + (if step ≠ 0 then step else if 0 < d then 1 else if d < 0 then -1 else 0)).toNat) } := by
  simp only [Sensor.track, baselineStep, ne_eq, ite_not, gt_iff_lt]

section panelEvent
variable {s : State} {pad : PadId} {p : PanelId}

/-- R26: a panel at its threshold takes its round; the event goes to the owner after the pad has changed. -/
theorem panelEvent_of {is : Panel → Profile → Bool} {r : Panel → PanelRound} (active : (s.pad pad).state = .active)
    (within : p.val < (s.pad pad).profile.panelCount) (reached : is ((s.pad pad).panel p) (s.pad pad).profile = true) :
    s.panelEvent pad p is r =
      (s.setPad pad ((s.pad pad).afterPanel p (r ((s.pad pad).panel p)))).emitAll pad p (r ((s.pad pad).panel p)).event :=
  if_pos ⟨active, within, reached⟩

/-- R24, R26: a press of a pad without an owner. -/
theorem panelEvent_of_press {is : Panel → Profile → Bool} {r : Panel → PanelRound} {stamp : Int}
    (active : (s.pad pad).state = .active) (within : p.val < (s.pad pad).profile.panelCount)
    (reached : is ((s.pad pad).panel p) (s.pad pad).profile = true)
    (event : (r ((s.pad pad).panel p)).event = some (.press stamp)) (free : s.owner pad = none) :
    s.panelEvent pad p is r = s.setPad pad ((s.pad pad).afterPanel p (r ((s.pad pad).panel p))) := by
  rw [panelEvent_of active within reached, event]
  exact emit_press_of_unowned (s := s.setPad pad _) free p stamp

/-- R25, R26, R30, R85: a release with no hold of the lane HELD. -/
theorem panelEvent_of_release {is : Panel → Profile → Bool} {r : Panel → PanelRound} {stamp : Int} {forced : Bool}
    (active : (s.pad pad).state = .active) (within : p.val < (s.pad pad).profile.panelCount)
    (reached : is ((s.pad pad).panel p) (s.pad pad).profile = true)
    (event : (r ((s.pad pad).panel p)).event = some (.release stamp forced)) (free : NoHold s pad p) :
    s.panelEvent pad p is r =
      if forced then (s.setPad pad ((s.pad pad).afterPanel p (r ((s.pad pad).panel p)))).flagOwner pad 0x100
      else s.setPad pad ((s.pad pad).afterPanel p (r ((s.pad pad).panel p))) := by
  rw [panelEvent_of active within reached, event]
  exact emit_release_of_noHold (s := s.setPad pad _) (free.of_same rfl rfl rfl rfl) stamp forced

theorem afterPanel_of_tracks {x : Pad} {r : PanelRound} (h : r.tracks = true) : x.afterPanel p r =
    (x.setPanel p r.panel).onHealthy p (fun y => y.track x.profile.shift) := if_pos h

theorem afterPanel_of_absorbs {x : Pad} {r : PanelRound} (h : r.tracks = false) (k : r.absorbs = true) : x.afterPanel p r =
    (x.setPanel p r.panel).onHealthy p Sensor.absorb := (if_neg (by rw [h]; decide)).trans (if_pos k)

theorem afterPanel_of_stays {x : Pad} {r : PanelRound} (h : r.tracks = false) (k : r.absorbs = false) : x.afterPanel p r =
    x.setPanel p r.panel := (if_neg (by rw [h]; decide)).trans (if_neg (by rw [k]; decide))

/-- R22, R30: which baselines move. -/
theorem sensors_onHealthy (x : Pad) (y : Panel) (f : Sensor → Sensor) (j : Fin 24) :
    ((∃ c ∈ x.healthyOf p, j = channel p c) → ((x.setPanel p y).onHealthy p f).sensors.get j = f (x.sensors.get j))
      ∧ ((¬ ∃ c ∈ x.healthyOf p, j = channel p c) → ((x.setPanel p y).onHealthy p f).sensors.get j = x.sensors.get j) := by
  have mem : j ∈ ((x.setPanel p y).healthyOf p).map (channel p) ↔ ∃ c ∈ x.healthyOf p, j = channel p c := by
    rw [List.mem_map]
    exact exists_congr (fun c => and_congr_right (fun _ => eq_comm))
  rw [get_onHealthy]
  exact ⟨fun h => if_pos (mem.mpr h), fun h => if_neg (mem.not.mpr h)⟩

end panelEvent

/-- Settles O39: an event that meets no HELD hold goes no further than the pad and its owner's flags. -/
theorem sensorsAndUnownedPanels : Obligations.SensorsAndUnownedPanels := by
  intro s n op within pad f k x panel pressed others noHold flagged touched sensed
  refine ⟨fun known enabled => ⟨fun healthy run => ⟨fun alive => ?alive, fun none state => ?unpressed,
      fun none state free => ?pressed⟩, fun failed run => ?recover⟩,
    fun active => ⟨fun rising held free => ?press, fun falling held free => ?release,
      fun state limit held free => ?stuck⟩⟩
  case alive =>
    have reached : s.failReached n = true := failReached_iff.mpr ⟨tracked_iff.mpr ⟨known, within, enabled⟩, healthy, run⟩
    exact sensorFail_effect_of_alive op reached (by tauto)
  case unpressed =>
    have reached : s.failReached n = true := failReached_iff.mpr ⟨tracked_iff.mpr ⟨known, within, enabled⟩, healthy, run⟩
    have state : ((s.pad n.pad).panel n.panel).state = .up ∨ ((s.pad n.pad).panel n.panel).state = .rising := state
    have free : ¬ ((s.pad n.pad).panel n.panel).state.pressed = true := by
      rw [pressed_iff]; rcases state with h | h <;> simp [h]
    obtain ⟨t, run, pad, flagged, logged, keeps⟩ := sensorFail_effect_of_dies op reached within
      (by rcases state with h | h <;> simp [h]) (by rcases state with h | h <;> simp [h]) none (fun h => absurd h free)
    rw [if_neg free] at flagged
    refine ⟨t, run, ?_, flagged, logged, keeps⟩
    rw [pad, Panel.die, if_neg free]
    rfl
  case pressed =>
    have reached : s.failReached n = true := failReached_iff.mpr ⟨tracked_iff.mpr ⟨known, within, enabled⟩, healthy, run⟩
    have state : ((s.pad n.pad).panel n.panel).state = .down ∨ ((s.pad n.pad).panel n.panel).state = .falling := state
    have down : ((s.pad n.pad).panel n.panel).state.pressed = true := (pressed_iff _).mpr state
    obtain ⟨t, run, pad, flagged, logged, keeps⟩ := sensorFail_effect_of_dies op reached within
      (by rcases state with h | h <;> simp [h]) (by rcases state with h | h <;> simp [h]) none (fun _ => free)
    rw [if_pos down] at flagged
    refine ⟨t, run, ?_, flagged, logged, keeps⟩
    rw [pad, Panel.die, if_pos down]
    rfl
  case recover =>
    have reached : s.recoverReached n = true :=
      recoverReached_iff.mpr ⟨tracked_iff.mpr ⟨known, within, enabled⟩, failed, run⟩
    obtain ⟨t, run, now, flagged, notice, keeps⟩ := sensorRecover_effect op reached within enabled
    refine ⟨t, run, ?_, notice, flagged, keeps⟩
    rw [now]
    split
    · rename_i dead; exact congrArg (fun l => { pad with sensors := sensed true, panels := l }) (if_pos dead).symm
    · rename_i live; exact congrArg (fun l => { pad with sensors := sensed true, panels := l }) (if_neg live).symm
  case press =>
    have reached : ((s.pad n.pad).panel n.panel).pressReached (s.pad n.pad).profile.dOn = true := decide_eq_true ⟨rising, held⟩
    have event := panelEvent_of_press (is := fun x f => x.pressReached f.dOn) (r := Panel.pressRound) active within reached
      rfl free
    rw [afterPanel_of_stays rfl rfl] at event
    refine ⟨_, congrArg Host.Outcome.next ((whenOperating_of op _).trans event), ?_⟩
    dsimp only
    rw [State.pad_setPad_same]
    exact ⟨rfl, rfl, (Keeps.refl s).setPad _ (by simp)⟩
  case release =>
    have reached : ((s.pad n.pad).panel n.panel).releaseReached (s.pad n.pad).profile.dOff = true :=
      decide_eq_true ⟨falling, held⟩
    have event := panelEvent_of_release (is := fun x f => x.releaseReached f.dOff) (r := Panel.releaseRound) active within
      reached rfl free
    rw [afterPanel_of_tracks rfl] at event
    refine ⟨_, congrArg Host.Outcome.next ((whenOperating_of op _).trans event), ?_⟩
    dsimp only
    rw [if_neg Bool.false_ne_true, State.pad_setPad_same]
    refine ⟨rfl, fun j => ?_, (Keeps.refl s).setPad _ (by simp)⟩
    obtain ⟨moved, stayed⟩ := sensors_onHealthy (p := n.panel) (s.pad n.pad) ((s.pad n.pad).panel n.panel).releaseRound.panel
      (fun y => y.track (s.pad n.pad).profile.shift) j
    exact ⟨fun mine => (moved mine).trans (track_eq _ _), stayed⟩
  case stuck =>
    have reached : ((s.pad n.pad).panel n.panel).stuckReached (s.pad n.pad).profile.stuckLimit = true := by
      rw [Panel.stuckReached, Bool.and_eq_true, Bool.and_eq_true, bne_iff_ne, decide_eq_true_eq]
      exact ⟨⟨(pressed_iff _).mpr state, limit⟩, held⟩
    have event := panelEvent_of_release (is := fun x f => x.stuckReached f.stuckLimit)
      (r := fun x => x.stuckRound s.clock.songTime) active within reached rfl free
    rw [afterPanel_of_absorbs rfl rfl, if_pos rfl] at event
    refine ⟨_, congrArg Host.Outcome.next ((whenOperating_of op _).trans event), ?_⟩
    dsimp only
    rw [pad_flagOwner, State.pad_setPad_same]
    refine ⟨rfl, fun j => ?_, ownerFlagged_flagOwner _ _ _, ?_⟩
    · exact sensors_onHealthy (p := n.panel) (s.pad n.pad) _ Sensor.absorb j
    · exact ((Keeps.refl (but := ownedParts n.pad) s).setPad _ (by simp [ownedParts])).flagOwner _ _ (by simp [ownedParts])

end Sys2Proof.Machine

namespace Sys2Proof.Spells

open Machine

/-! ### Where a field stands in what the part writes (R201) -/

variable {a b d : List Byte} {off size v : Nat}

theorem leBytes (n v : Nat) : Spells (leBytes n v) 0 n v := by
  intro k low
  simp [Machine.leBytes, low, Nat.shiftRight_eq_div_pow, Nat.pow_mul]

theorem leSigned (n : Nat) (v : Int) : SpellsSigned (leSigned n v) 0 n v := leBytes n _

theorem append_left (h : Spells a off size v) (b : List Byte) : Spells (a ++ b) off size v := by
  intro k low
  have here := h k low
  rw [List.getElem?_append_left (List.getElem?_eq_some_iff.mp here).1, here]

theorem append_right (h : Spells b off size v) (a : List Byte) : Spells (a ++ b) (a.length + off) size v := by
  intro k low
  rw [Nat.add_assoc, List.getElem?_append_right (Nat.le_add_right ..), Nat.add_sub_cancel_left, h k low]

/-- A field of one of several pieces of `w` bytes each. -/
theorem flatMap {α : Type} {f : α → List Byte} {w : Nat} (wide : ∀ x, (f x).length = w) {l : List α} {i : Nat} {x : α}
    (at' : l[i]? = some x) (h : Spells (f x) off size v) : Spells (l.flatMap f) (w * i + off) size v := by
  induction l generalizing i with
  | nil => nomatch at'
  | cons y l ih =>
    cases i with
    | zero =>
      obtain rfl := Option.some.inj at'
      rw [Nat.mul_zero, Nat.zero_add]
      exact h.append_left _
    | succ i =>
      have there := (ih at').append_right (f y)
      rwa [wide, ← Nat.add_assoc, Nat.add_comm w, ← Nat.mul_succ] at there

end Sys2Proof.Spells

namespace Sys2Proof.Machine

@[simp] theorem length_leBytes (n v : Nat) : (leBytes n v).length = n := by simp [leBytes]

@[simp] theorem length_leSigned (n : Nat) (v : Int) : (leSigned n v).length = n := length_leBytes n _

theorem length_flatMap_of {α : Type} {f : α → List Byte} {w : Nat} (wide : ∀ x, (f x).length = w) (l : List α) :
    (l.flatMap f).length = w * l.length := by
  rw [List.length_flatMap, List.map_congr_left (fun x _ => wide x), List.map_const', List.sum_replicate, smul_eq_mul,
    Nat.mul_comm]

/-- R37: the baseline table, sensor by sensor. -/
theorem tableBytes_spells (pad : Pad) :
    (tableBytes pad).length = 48 ∧ ∀ k : Fin 24, Spells (tableBytes pad) (2 * k.val) 2 ((pad.sensors.get k).baseline / 16) := by
  have wide (c : Sensor) : (leBytes 2 (c.baseline / 16)).length = 2 := length_leBytes ..
  refine ⟨?_, fun k => ?_⟩
  · rw [tableBytes, length_flatMap_of wide, pad.sensors.size]
  · have at' : pad.sensors.cells[k.val]? = some (pad.sensors.get k) := List.getElem?_eq_getElem _
    exact Spells.flatMap (off := 0) wide at' (Spells.leBytes 2 _)

/-! ### The bytes of a sensor dump (R39) -/

/-- The six bytes of one channel. -/
def dumpSensor (pad : Pad) (p : PanelId) (c : SensorId) : List Byte :=
  leBytes 2 (pad.sensors.get (channel p c)).raw ++ leBytes 2 ((pad.sensors.get (channel p c)).baseline / 16)
    ++ leBytes 1 (if (pad.sensors.get (channel p c)).healthy then 0 else 1)
    ++ leBytes 1 (if pad.state ≠ .unconfigured ∧ pad.profile.enables.getLsbD (channel p c).val = true then 1 else 0)

/-- The twelve bytes of one panel. -/
def dumpPanel (x : Panel) : List Byte :=
  leSigned 4 x.lastPress ++ leSigned 4 x.lastRelease ++ leBytes 1 x.state.code ++ leBytes 3 0

def dumpSensors (pad : Pad) : List Byte := panelIds.flatMap (fun p => sensorIds.flatMap (fun c => dumpSensor pad p c))

def dumpPanels (pad : Pad) : List Byte := panelIds.flatMap (fun p => dumpPanel (pad.panels.get p))

theorem dumpBytes_eq (time : Int) (serial : Nat) (pads : PerPad Pad) : dumpBytes time serial pads =
    leSigned 4 time ++ leBytes 4 serial ++ padIds.flatMap (fun i => dumpSensors (pads.get i))
      ++ padIds.flatMap (fun i => dumpPanels (pads.get i)) := rfl

@[simp] theorem length_dumpSensor (pad : Pad) (p : PanelId) (c : SensorId) : (dumpSensor pad p c).length = 6 := by
  simp [dumpSensor]

@[simp] theorem length_dumpPanel (x : Panel) : (dumpPanel x).length = 12 := by simp [dumpPanel]

@[simp] theorem length_dumpSensors (pad : Pad) : (dumpSensors pad).length = 144 :=
  length_flatMap_of (fun p => length_flatMap_of (fun c => length_dumpSensor pad p c) sensorIds) panelIds

@[simp] theorem length_dumpPanels (pad : Pad) : (dumpPanels pad).length = 72 :=
  length_flatMap_of (fun _ => length_dumpPanel _) panelIds

/-- The place of a pad in the dump. -/
theorem padIds_get (i : PadId) : padIds[padNumber i]? = some i := by cases i <;> rfl
theorem panelIds_get (p : PanelId) : panelIds[p.val]? = some p := by revert p; decide
theorem sensorIds_get (c : SensorId) : sensorIds[c.val]? = some c := by revert c; decide

/-- A field of a channel of the dump. -/
theorem dumpBytes_sensor {time : Int} {serial : Nat} {pads : PerPad Pad} {i : PadId} {p : PanelId} {c : SensorId}
    {off size v : Nat} (h : Spells (dumpSensor (pads.get i) p c) off size v) :
    Spells (dumpBytes time serial pads) (8 + 6 * (24 * padNumber i + 4 * p.val + c.val) + off)
      size v := by
  have panel := h.flatMap (fun c => length_dumpSensor _ p c) (sensorIds_get c)
  have pad := panel.flatMap (fun p => length_flatMap_of (fun c => length_dumpSensor _ p c) sensorIds) (panelIds_get p)
  have both : Spells (padIds.flatMap (fun i => dumpSensors (pads.get i))) _ size v :=
    pad.flatMap (fun i => length_dumpSensors (pads.get i)) (padIds_get i)
  have all := (both.append_right (leSigned 4 time ++ leBytes 4 serial)).append_left
    (padIds.flatMap (fun i => dumpPanels (pads.get i)))
  rw [← dumpBytes_eq] at all
  convert all using 1
  simp [sensorIds]; omega

/-- A field of a panel of the dump. -/
theorem dumpBytes_panel {time : Int} {serial : Nat} {pads : PerPad Pad} {i : PadId} {p : PanelId} {off size v : Nat}
    (h : Spells (dumpPanel ((pads.get i).panels.get p)) off size v) :
    Spells (dumpBytes time serial pads) (0x128 + 12 * (6 * padNumber i + p.val) + off) size v := by
  have pad := h.flatMap (fun p => length_dumpPanel ((pads.get i).panels.get p)) (panelIds_get p)
  have both : Spells (padIds.flatMap (fun i => dumpPanels (pads.get i))) _ size v :=
    pad.flatMap (fun i => length_dumpPanels (pads.get i)) (padIds_get i)
  have all := both.append_right
    (leSigned 4 time ++ leBytes 4 serial ++ padIds.flatMap (fun i => dumpSensors (pads.get i)))
  rw [← dumpBytes_eq] at all
  convert all using 1
  simp [padIds]; omega

/-- R39: the dump's length, and each field at its place. -/
theorem dumpBytes_spells (time : Int) (serial : Nat) (pads : PerPad Pad) :
    let d := dumpBytes time serial pads
    d.length = 440 ∧ SpellsSigned d 0 4 time ∧ Spells d 4 4 serial
      ∧ (∀ (i : PadId) (p : PanelId) (c : SensorId),
        let at' := 8 + 6 * (24 * padNumber i + 4 * p.val + c.val)
        let x := (pads.get i).sensors.get (channel p c)
        Spells d at' 2 x.raw ∧ Spells d (at' + 2) 2 (x.baseline / 16)
          ∧ Spells d (at' + 4) 1 (if x.healthy then 0 else 1)
          ∧ Spells d (at' + 5) 1 (if (pads.get i).state ≠ .unconfigured
              ∧ (pads.get i).profile.enables.getLsbD (4 * p.val + c.val) = true then 1 else 0))
      ∧ ∀ (i : PadId) (p : PanelId),
        let at' := 0x128 + 12 * (6 * padNumber i + p.val)
        let x := (pads.get i).panels.get p
        SpellsSigned d at' 4 x.lastPress ∧ SpellsSigned d (at' + 4) 4 x.lastRelease
          ∧ Spells d (at' + 8) 1 x.state.code ∧ Spells d (at' + 9) 3 0 := by
  intro d
  refine ⟨?_, ?_, ?_, fun i p c => ⟨?_, ?_, ?_, ?_⟩, fun i p => ⟨?_, ?_, ?_, ?_⟩⟩
  · simp [d, dumpBytes_eq, padIds]
  · exact (((Spells.leSigned 4 time).append_left _).append_left _).append_left _
  · exact (((Spells.leBytes 4 serial).append_right (leSigned 4 time)).append_left _).append_left _
  · exact dumpBytes_sensor (off := 0) ((((Spells.leBytes 2 _).append_left _).append_left _).append_left _)
  · exact dumpBytes_sensor (off := 2) ((((Spells.leBytes 2 _).append_right (leBytes 2 _)).append_left _).append_left _)
  · exact dumpBytes_sensor (off := 4) (((Spells.leBytes 1 _).append_right (leBytes 2 _ ++ leBytes 2 _)).append_left _)
  · exact dumpBytes_sensor (off := 5) ((Spells.leBytes 1 _).append_right (leBytes 2 _ ++ leBytes 2 _ ++ leBytes 1 _))
  · exact dumpBytes_panel (off := 0) ((((Spells.leSigned 4 _).append_left _).append_left _).append_left _)
  · exact dumpBytes_panel (off := 4) ((((Spells.leSigned 4 _).append_right (leSigned 4 _)).append_left _).append_left _)
  · exact dumpBytes_panel (off := 8) (((Spells.leBytes 1 _).append_right (leSigned 4 _ ++ leSigned 4 _)).append_left _)
  · exact dumpBytes_panel (off := 9) ((Spells.leBytes 3 0).append_right (leSigned 4 _ ++ leSigned 4 _ ++ leBytes 1 _))

/-! ### SENSOR_DUMP and DUMP_CAPTURE (R39) -/

/-- R39: SENSOR_DUMP executes, and waits. -/
theorem sensorDump_effect {s : State} {w : SlotWords} (fresh : FreshSong s w) : ∃ t, exec (.sensorDump w) s = .next t
    ∧ (t.slot .slot0).executing = some ⟨w.tag, 7, w.arg0, w.arg1⟩
    ∧ t.scan = { s.scan with dump := some ⟨w.arg0.toNat, false⟩ } ∧ AskedNothing s t ∧ t.bus = Freed s.bus
    ∧ Keeps (readerParts ++ [.scan]) s t := by
  have taken := (takeRead_freshSong (kind := 7) (first := .p0) fresh nofun).trans (serve_sensorDump _ rfl)
  obtain ⟨executing, asked, bus, -, scan, keeps⟩ := slotRead_executes (but := readerParts ++ [.scan]) fresh.1.1 taken rfl rfl
    ((((keeps_readEnded s .slot0).mono (List.subset_append_left ..)).execute _ (by simp [readerParts])).setScan _ (by simp))
    (by simp [readerParts])
  exact ⟨_, rfl, executing, scan, asked, bus, keeps⟩

theorem captureIfDue_of_due {s : State} {addr : Nat} (due : s.scan.dump = some ⟨addr, true⟩) :
    s.captureIfDue = s.captureDump addr := by
  rw [State.captureIfDue, due]; rfl

theorem captureIfDue_of_notDue {s : State} (h : s.scan.dump = none ∨ ∃ addr, s.scan.dump = some ⟨addr, false⟩) :
    s.captureIfDue = s := by
  rcases h with none | ⟨addr, waits⟩
  · rw [State.captureIfDue, none]
  · rw [State.captureIfDue, waits]; rfl

/-- R39: a capture that is due is made. -/
theorem dumpCapture_effect {s : State} {addr : Nat} (op : s.run = .operating) (due : s.scan.dump = some ⟨addr, true⟩) :
    let serial := (s.scan.dumpSerial + 1) % 4294967296
    ∃ t data, exec .dumpCapture s = .next t ∧ t.scan = { s.scan with dumpSerial := serial, dump := none }
      ∧ t.work = s.work ++ [.dump addr data (BitVec.ofNat 32 serial)]
      ∧ data = dumpBytes s.clock.songTime serial s.pads ∧ data.length = 440
      ∧ Keeps [.scan, .work] s t :=
  ⟨s.captureDump addr, _, congrArg Host.Outcome.next ((whenOperating_of op _).trans (captureIfDue_of_due due)), rfl, rfl, rfl,
    (dumpBytes_spells ..).1, ((Keeps.refl s).setScan _).ask _⟩

/-! ### The ends of the pad requests' writes (R37, R39) -/

/-- A write of slot 0's executing request ends, good or in error. -/
theorem padWriteEnded_effect {s : State} (result : Word) (executing : (s.slot .slot0).executing ≠ none) (c : Bool → Instr)
    (h : ∀ ok, exec (c ok) s = .next (s.freeBus.padWriteEnded ok result)) :
    (∃ t, exec (c true) s = .next t ∧ CompletedExecuting s t .slot0 .ok result ∧ t.bus = Freed s.bus
        ∧ Keeps [.bus, .work, .slot .slot0] s t)
      ∧ ∃ t, exec (c false) s = .next t ∧ CompletedExecuting s t .slot0 .busFault result ∧ t.bus = Freed s.bus
        ∧ Logged s t .busWrite none 0 0 s.clock.songTime 0 ∧ Keeps [.bus, .work, .slot .slot0, .notice, .fault] s t := by
  obtain ⟨completed, logged, bus, keeps⟩ := padRequest_faulted (s := s) .busWrite result executing
  exact ⟨⟨_, h true, padRequest_done .ok result executing⟩, ⟨_, h false, completed, bus, logged, keeps⟩⟩

theorem exec_baselineTableWriteDone {s : State} {addr : Nat} {data : List Byte} {result : Word}
    (c : Carrying s (.request (.table addr data result))) (ok : Bool) :
    exec (.baselineTableWriteDone ok) s = .next (s.freeBus.padWriteEnded ok result) :=
  congrArg Host.Outcome.next (State.endTransfer_carrying _ _ _ c rfl)

theorem exec_dumpWriteDone {s : State} {addr : Nat} {data : List Byte} {result : Word}
    (c : Carrying s (.request (.dump addr data result))) (ok : Bool) :
    exec (.dumpWriteDone ok) s = .next (s.freeBus.padWriteEnded ok result) :=
  congrArg Host.Outcome.next (State.endTransfer_carrying _ _ _ c rfl)

end Sys2Proof.Machine

namespace Sys2Proof.Machine

/-! ### What the judges leave alone

A step of a judge changes the blocks of its player, the lamps, the refresh jobs and the hold-active indications of panels
(R31), and nothing else. `unjudged` blanks these, and each operation of a judge leaves what remains as it is. -/

/-- The part with everything blanked that the judges may change. -/
def State.unjudged (s : State) : State :=
  { s with
    pads := ⟨s.pads.pad0.clearHolds, s.pads.pad1.clearHolds⟩, fetchers := State.reset.fetchers,
    judges := State.reset.judges, scores := State.reset.scores, sessions := State.reset.sessions,
    writers := State.reset.writers, refresh := State.reset.refresh, lamps := State.reset.lamps }

namespace State

variable (s : State) (pl : Player)

@[simp] theorem unjudged_setJudge (x : Judge) : (s.setJudge pl x).unjudged = s.unjudged := rfl
@[simp] theorem unjudged_setScore (x : Score) : (s.setScore pl x).unjudged = s.unjudged := rfl
@[simp] theorem unjudged_setSession (x : Session) : (s.setSession pl x).unjudged = s.unjudged := rfl
@[simp] theorem unjudged_setFetcher (x : Fetcher) : (s.setFetcher pl x).unjudged = s.unjudged := rfl
@[simp] theorem unjudged_setWriter (x : Writer) : (s.setWriter pl x).unjudged = s.unjudged := rfl
@[simp] theorem unjudged_setRefresh (x : Refresh) : (s.setRefresh x).unjudged = s.unjudged := rfl
@[simp] theorem unjudged_setLamps (x : Lamps) : (s.setLamps x).unjudged = s.unjudged := rfl
@[simp] theorem unjudged_onJudge (f : Judge → Judge) : (s.onJudge pl f).unjudged = s.unjudged := rfl
@[simp] theorem unjudged_onScore (f : Score → Score) : (s.onScore pl f).unjudged = s.unjudged := rfl
@[simp] theorem unjudged_onSession (f : Session → Session) : (s.onSession pl f).unjudged = s.unjudged := rfl
@[simp] theorem unjudged_onFetcher (f : Fetcher → Fetcher) : (s.onFetcher pl f).unjudged = s.unjudged := rfl
@[simp] theorem unjudged_onWriter (f : Writer → Writer) : (s.onWriter pl f).unjudged = s.unjudged := rfl
@[simp] theorem unjudged_onEntry (i : Nat) (f : Entry → Entry) : (s.onEntry pl i f).unjudged = s.unjudged := rfl
@[simp] theorem unjudged_setChord (k : Fin 8) (c : Option Chord) : (s.setChord pl k c).unjudged = s.unjudged := rfl
@[simp] theorem unjudged_flag (f : BitVec 16) : (s.flag pl f).unjudged = s.unjudged := rfl
@[simp] theorem unjudged_settle (x : Settlement) : (s.settle pl x).unjudged = s.unjudged := rfl

theorem clearHolds_modify (pad : Pad) (p : PanelId) (on : Bool) :
    Pad.clearHolds { pad with panels := pad.panels.modify p (fun x => { x with holdActive := on }) } = pad.clearHolds := by
  refine congrArg (fun l => { pad with panels := l }) (Tab.ext_get (fun q => ?_))
  rw [Tab.get_mapIdx, Tab.get_mapIdx, Tab.get_modify]
  split <;> rfl

@[simp] theorem unjudged_markHold (lane : Nat) (on : Bool) : (s.markHold pl lane on).unjudged = s.unjudged := by
  unfold State.markHold; split
  · rfl
  · rename_i target _
    obtain ⟨pad, p⟩ := target
    cases pad
    · exact congrArg (fun x => { s.unjudged with pads := ⟨x, s.pads.pad1.clearHolds⟩ }) (clearHolds_modify s.pads.pad0 p on)
    · exact congrArg (fun x => { s.unjudged with pads := ⟨s.pads.pad0.clearHolds, x⟩ }) (clearHolds_modify s.pads.pad1 p on)

variable {s} in
theorem unjudged_foldl {α : Type} (f : State → α → State) (step : ∀ t a, (f t a).unjudged = t.unjudged) (l : List α) :
    (l.foldl f s).unjudged = s.unjudged := by
  induction l generalizing s with
  | nil => rfl
  | cons a l ih => exact ih.trans (step s a)

/-! ### Lamps, entries, lists and chords (Lamps.lean, Judge.lean) -/

@[simp] theorem unjudged_trigger (k : Trigger) (level : Nat) (pad : PadId) (p : PanelId) :
    (s.trigger pl k level pad p).unjudged = s.unjudged := by
  unfold State.trigger; split <;> rfl

@[simp] theorem unjudged_triggerBeat (level : Nat) : (s.triggerBeat pl level).unjudged = s.unjudged :=
  unjudged_foldl _ (fun _ _ => unjudged_trigger ..) _

@[simp] theorem unjudged_triggerLane (k : Trigger) (level lane : Nat) :
    (s.triggerLane pl k level lane).unjudged = s.unjudged := by
  unfold State.triggerLane; split <;> simp

@[simp] theorem unjudged_reportRoom (lane : Option Nat) : (s.reportRoom pl lane).unjudged = s.unjudged := rfl
@[simp] theorem unjudged_makeFinal (i : Nat) : (s.makeFinal pl i).unjudged = s.unjudged := rfl
@[simp] theorem unjudged_leaveLane (i : Nat) : (s.leaveLane pl i).unjudged = s.unjudged := rfl
@[simp] theorem unjudged_leaveBeats (i : Nat) : (s.leaveBeats pl i).unjudged = s.unjudged := rfl

@[simp] theorem unjudged_finishMember (i : Nat) : (s.finishMember pl i).unjudged = s.unjudged := by
  unfold State.finishMember; split <;> simp

@[simp] theorem unjudged_settleChord (k : Fin 8) : (s.settleChord pl k).unjudged = s.unjudged := by
  unfold State.settleChord; split
  · rfl
  · refine (unjudged_foldl _ (fun _ _ => unjudged_onEntry ..) _).trans ?_
    refine (unjudged_foldl _ (fun _ _ => unjudged_finishMember ..) _).trans ?_
    exact unjudged_foldl _ (fun _ _ => unjudged_onEntry ..) _

@[simp] theorem unjudged_settleChordIfComplete (k : Fin 8) : (s.settleChordIfComplete pl k).unjudged = s.unjudged := by
  unfold State.settleChordIfComplete; split
  · rfl
  · split <;> simp

@[simp] theorem unjudged_reportGrade (k : Fin 8) (g : Grade) : (s.reportGrade pl k g).unjudged = s.unjudged := by
  unfold State.reportGrade; split <;> simp

@[simp] theorem unjudged_settleUnitOf (u : Option Nat) (g : Grade) : (s.settleUnitOf pl u g).unjudged = s.unjudged := by
  unfold State.settleUnitOf; split <;> simp

@[simp] theorem unjudged_finishTap (i : Nat) : (s.finishTap pl i).unjudged = s.unjudged := by
  unfold State.finishTap; dsimp only; split <;> simp

@[simp] theorem unjudged_settleHead (i : Nat) : (s.settleHead pl i).unjudged = s.unjudged := by
  unfold State.settleHead; dsimp only; split <;> simp

@[simp] theorem unjudged_settleTail (u : Option Nat) (held : Bool) (delta : Int) :
    (s.settleTail pl u held delta).unjudged = s.unjudged := by
  unfold State.settleTail; split <;> simp

@[simp] theorem unjudged_finalOrJudged (i : Nat) : (s.finalOrJudged pl i).unjudged = s.unjudged := by
  unfold State.finalOrJudged; split <;> simp

@[simp] theorem unjudged_completeTail (i : Nat) (held : Bool) : (s.completeTail pl i held).unjudged = s.unjudged := by
  unfold State.completeTail; simp

@[simp] theorem unjudged_enterHeld (i : Nat) : (s.enterHeld pl i).unjudged = s.unjudged := by
  unfold State.enterHeld; dsimp only; split <;> simp

@[simp] theorem unjudged_endSlip (i : Nat) (q : Int) : (s.endSlip pl i q).unjudged = s.unjudged := unjudged_completeTail ..
@[simp] theorem unjudged_slipAt (i : Nat) (q : Int) (forced : Bool) : (s.slipAt pl i q forced).unjudged = s.unjudged := rfl

@[simp] theorem unjudged_slipHold (i : Nat) (q : Int) (forced : Bool) : (s.slipHold pl i q forced).unjudged = s.unjudged := by
  unfold State.slipHold; dsimp only; split
  · simp
  · split <;> simp

@[simp] theorem unjudged_gradeEntry (i : Nat) (d : Int) : (s.gradeEntry pl i d).unjudged = s.unjudged := by
  unfold State.gradeEntry; dsimp only; split <;> simp

@[simp] theorem unjudged_lapseEntry (i : Nat) : (s.lapseEntry pl i).unjudged = s.unjudged := by
  unfold State.lapseEntry; dsimp only; split <;> simp

@[simp] theorem unjudged_strikeEntry (i : Nat) (d : Int) : (s.strikeEntry pl i d).unjudged = s.unjudged := by
  unfold State.strikeEntry; simp

@[simp] theorem unjudged_avoidEntry (i : Nat) : (s.avoidEntry pl i).unjudged = s.unjudged := by
  unfold State.avoidEntry; simp

@[simp] theorem unjudged_crossEntry (i : Nat) (p : PanelState) : (s.crossEntry pl i p).unjudged = s.unjudged := by
  unfold State.crossEntry; split <;> simp

@[simp] theorem unjudged_passBeat (i : Nat) : (s.passBeat pl i).unjudged = s.unjudged := by
  unfold State.passBeat; simp

/-! ### Closing (Closing.lean) -/

@[simp] theorem unjudged_returnReserved : (s.returnReserved pl).unjudged = s.unjudged := by
  unfold State.returnReserved; split <;> rfl

@[simp] theorem unjudged_stopFetcher : (s.stopFetcher pl).unjudged = s.unjudged := unjudged_returnReserved s pl

@[simp] theorem unjudged_voidChord (k : Fin 8) : (s.voidChord pl k).unjudged = s.unjudged := by
  unfold State.voidChord; split
  · rfl
  · exact unjudged_foldl _ (fun _ _ => unjudged_onEntry ..) _

@[simp] theorem unjudged_voidUnit (u : Option Nat) : (s.voidUnit pl u).unjudged = s.unjudged := by
  unfold State.voidUnit; split <;> simp

@[simp] theorem unjudged_finishEntry (i : Nat) : (s.finishEntry pl i).unjudged = s.unjudged := by
  unfold State.finishEntry; dsimp only; split
  · split <;> split <;> simp
  all_goals simp

@[simp] theorem unjudged_finishEntries : (s.finishEntries pl).unjudged = s.unjudged :=
  (unjudged_foldl _ (fun _ _ => unjudged_finishEntry ..) _).trans (unjudged_foldl _ (fun _ _ => unjudged_voidChord ..) _)

@[simp] theorem unjudged_askFinal : (s.askFinal pl).unjudged = s.unjudged := by
  unfold State.askFinal; split <;> rfl

@[simp] theorem unjudged_enterClosing (o : StageOutcome) : (s.enterClosing pl o).unjudged = s.unjudged := by
  unfold State.enterClosing; simp

@[simp] theorem unjudged_endJudgeStep : (s.endJudgeStep pl).unjudged = s.unjudged := by
  unfold State.endJudgeStep; split <;> simp

@[simp] theorem unjudged_clearingCheck : (s.clearingCheck pl).unjudged = s.unjudged := by
  unfold State.clearingCheck; split
  · rfl
  · split <;> simp

/-! ### Presses, releases and due times (Matching.lean) -/

@[simp] theorem unjudged_testAvoid (p : Int) (i : Nat) : (s.testAvoid pl p i).unjudged = s.unjudged := by
  unfold State.testAvoid; dsimp only; split <;> simp

@[simp] theorem unjudged_matchOrFree (l : Nat) (p : Int) : (s.matchOrFree pl l p).unjudged = s.unjudged := by
  have tested := unjudged_foldl (s := s) (fun t i => t.testAvoid pl p i) (fun _ _ => unjudged_testAvoid ..) ((s.judge pl).lane l)
  unfold State.matchOrFree; dsimp only; split
  · exact (unjudged_gradeEntry ..).trans tested
  · exact tested

@[simp] theorem unjudged_usePress (l : Nat) (p : Int) : (s.usePress pl l p).unjudged = s.unjudged := by
  unfold State.usePress; split
  · split <;> simp
  · simp

@[simp] theorem unjudged_judgePress (pad : PadId) (p : PanelId) (stamp : Int) :
    (s.judgePress pl pad p stamp).unjudged = s.unjudged := by
  unfold State.judgePress; split
  · rfl
  · split
    · split <;> simp
    · rfl

@[simp] theorem unjudged_judgeRelease (pad : PadId) (p : PanelId) (stamp : Int) (forced : Bool) :
    (s.judgeRelease pl pad p stamp forced).unjudged = s.unjudged := by
  unfold State.judgeRelease; split
  · rfl
  · split
    · split <;> simp
    · rfl

@[simp] theorem unjudged_serveDue (seen : PerPad Pad) (i : Nat) : (s.serveDue seen pl i).unjudged = s.unjudged := by
  unfold State.serveDue; dsimp only; split
  · simp
  · simp
  · split <;> simp
  · simp
  · split <;> simp
  · rfl

theorem unjudged_serveDues (seen : PerPad Pad) (v : Int) (fuel : Nat) (s : State) :
    (s.serveDues seen pl v fuel).unjudged = s.unjudged := by
  induction fuel generalizing s with
  | zero => rfl
  | succ fuel ih =>
    unfold State.serveDues; split
    · split
      · rfl
      · exact (ih _).trans (by simp)
    · rfl

@[simp] theorem unjudged_handOver (seen : PerPad Pad) (v : Int) : (s.handOver seen pl v).unjudged = s.unjudged :=
  (unjudged_clearingCheck ..).trans ((unjudged_serveDues pl seen v _ (s.takeTime pl v)).trans rfl)

@[simp] theorem unjudged_handToBoth (first : Player) : (s.handToBoth first).unjudged = s.unjudged :=
  (unjudged_handOver ..).trans (unjudged_handOver ..)

@[simp] theorem unjudged_becomePlaying : (s.becomePlaying pl).unjudged = s.unjudged :=
  (unjudged_clearingCheck ..).trans (unjudged_serveDues ..)

@[simp] theorem unjudged_reconcileEntry (i : Nat) : (s.reconcileEntry pl i).unjudged = s.unjudged := by
  unfold State.reconcileEntry; dsimp only; split
  · split <;> simp
  · split <;> simp
  · rfl

@[simp] theorem unjudged_reconcile : (s.reconcile pl).unjudged = s.unjudged := by
  unfold State.reconcile; split
  · exact (unjudged_endJudgeStep ..).trans (unjudged_foldl _ (fun _ _ => unjudged_reconcileEntry ..) _)
  · rfl

@[simp] theorem unjudged_abortIfPlaying : (s.abortIfPlaying pl).unjudged = s.unjudged := by
  unfold State.abortIfPlaying; split <;> simp

end State

end Sys2Proof.Machine

namespace Sys2Proof.Machine

/-! ### Each freely ordered part of a round once (log entry 4) -/

section inOrder
variable {α : Type} [DecidableEq α]

theorem mem_keepFirst {x : α} {l : List α} : ∀ {seen : List α}, x ∈ keepFirst seen l ↔ x ∈ l ∧ x ∉ seen := by
  induction l with
  | nil => simp [keepFirst]
  | cons a l ih =>
    intro seen
    rw [keepFirst]
    split
    · rename_i before
      have (e : x = a) : x ∈ seen := e ▸ before
      rw [ih, List.mem_cons]; tauto
    · rename_i fresh
      have (e : x = a) : x ∉ seen := e ▸ fresh
      rw [List.mem_cons, ih, List.mem_cons, List.mem_cons]; tauto

theorem nodup_keepFirst {l : List α} : ∀ seen : List α, (keepFirst seen l).Nodup := by
  induction l with
  | nil => exact fun _ => List.nodup_nil
  | cons a l ih =>
    intro seen
    rw [keepFirst]
    split
    · exact ih seen
    · exact List.nodup_cons.mpr ⟨fun h => (mem_keepFirst.mp h).2 (List.mem_cons_self ..), ih _⟩

theorem nodup_inOrder (given all : List α) : (inOrder given all).Nodup := nodup_keepFirst []

theorem mem_inOrder {x : α} {given all : List α} (h : x ∈ all) : x ∈ inOrder given all :=
  mem_keepFirst.mpr ⟨List.mem_append_right _ h, List.not_mem_nil⟩

/-- Each part of the round has its place in the order, and comes up there only. -/
theorem inOrder_split {x : α} {all : List α} (h : x ∈ all) (given : List α) :
    ∃ before after, inOrder given all = before ++ x :: after ∧ x ∉ before ∧ x ∉ after := by
  obtain ⟨before, after, split⟩ := List.append_of_mem (mem_inOrder (given := given) h)
  have once := nodup_inOrder given all
  rw [split, List.nodup_append] at once
  obtain ⟨-, rest, apart⟩ := once
  exact ⟨before, after, split, fun k => apart x k x (List.mem_cons_self ..) rfl, (List.nodup_cons.mp rest).1⟩

end inOrder

theorem mem_allSensors (c : SensorName) : c ∈ allSensors := by
  obtain ⟨i, p, c⟩ := c
  have pad : i ∈ padIds := by cases i <;> decide
  have panel : p ∈ panelIds := by revert p; decide
  have sensor : c ∈ sensorIds := by revert c; decide
  exact List.mem_flatMap.mpr ⟨i, pad, List.mem_flatMap.mpr ⟨p, panel, List.mem_map.mpr ⟨c, sensor, rfl⟩⟩⟩

theorem mem_allItems_panel (i : PadId) (p : PanelId) : RoundItem.panel i p ∈ allItems := by
  revert p; cases i <;> decide

/-! ### What a strobe does to the Song Clock, step by step (R1 to R14) -/

/-- A strobe of the Song Clock is made of clock updates that keep the held request, SYNC reports, hand-overs, players that
take RUNNING, and the end of the waiting request. -/
theorem clockStrobe_induction {P : State → Prop} {s : State} (first : Player) (start : P s)
    (clock : ∀ t f, (∀ c, (f c : Clock).held = c.held) → P t → P (t.onClock f))
    (report : ∀ t f, P t → P (t.reportSync f))
    (hand : ∀ t, P t → P (t.handToBoth first))
    (play : ∀ t pl, P t → P (t.playIfArmed pl))
    (compare : ∀ t pl, P t → P (t.reconcile pl))
    (done : ∀ t st result, P t → P (t.completeWaiting st result first)) : P (s.clockStrobe first).state := by
  have phase : P (s.onClock Clock.countPhase) := clock s _ (fun _ => rfl) start
  have waited (t : State) (h : P t) : P (t.onClock Clock.countWait) := clock t _ (fun _ => rfl) h
  have paused (t : State) (h : P t) : P (t.takePause first) := done _ _ _ (clock t _ (fun _ => rfl) h)
  unfold State.clockStrobe
  dsimp only
  split
  case h_1 => exact phase
  case h_2 =>
    dsimp only; split
    · exact done _ _ _ (play _ _ (play _ _ (clock _ _ (fun _ => rfl) (report _ _ (waited _ phase)))))
    · exact waited _ phase
  case h_3 =>
    split
    · have advanced := clock _ Clock.advanceLocked (fun _ => rfl) phase
      unfold State.strobeLocked; dsimp only; split
      exacts [report _ _ (clock _ _ (fun _ => rfl) advanced), advanced]
    · have advanced := clock _ Clock.advanceFree (fun _ => rfl) phase
      unfold State.strobeFree; dsimp only; split
      · dsimp only; split
        exacts [paused _ (hand _ advanced), paused _ advanced]
      · exact advanced
  case h_4 =>
    split
    · dsimp only; split
      · unfold State.resumeFallback State.resumeRunning
        dsimp only; split
        · exact done _ _ _ (compare _ _ (compare _ _ (clock _ _ (fun _ => rfl) (waited _ phase))))
        · exact done _ _ _ (compare _ _ (compare _ _ (clock _ _ (fun _ => rfl) (report _ _ (waited _ phase)))))
      · exact waited _ phase
    · exact phase

theorem completeWaiting_of_none {s : State} {st : Status} {result : Word} {first : Player}
    (waiting : s.clock.waiting = none) : s.completeWaiting st result first = s := by rw [State.completeWaiting, waiting]

/-! ### What it leaves of the pads and the scan -/

/-- The part with everything blanked that the Song Clock and the judges may change. -/
def State.unclocked (s : State) : State :=
  { s.unjudged with
    clock := State.reset.clock, notice := 0, work := [],
    slots :=
      ⟨{ s.slots.slot0 with unwritten := 0 }, { s.slots.slot1 with unwritten := 0 },
        { s.slots.slot2 with unwritten := 0 }⟩ }

theorem unclocked_of_unjudged {s t : State} (h : t.unjudged = s.unjudged) : t.unclocked = s.unclocked := by
  have slots : t.slots = s.slots := (congrArg State.slots h :)
  unfold State.unclocked
  rw [h, slots]

@[simp] theorem unclocked_onClock (s : State) (f : Clock → Clock) : (s.onClock f).unclocked = s.unclocked := rfl
@[simp] theorem unclocked_reportSync (s : State) (f : BitVec 16) : (s.reportSync f).unclocked = s.unclocked := rfl
@[simp] theorem unclocked_complete (s : State) (slot : SlotId) (tag : BitVec 16) (st : Status) (result : Word) :
    (s.complete slot tag st result).unclocked = s.unclocked := by cases slot <;> rfl

theorem unjudged_playIfArmed (s : State) (pl : Player) : (s.playIfArmed pl).unjudged = s.unjudged := by
  unfold State.playIfArmed; split <;> simp

/-- With no request held a strobe of the clock leaves all but the clock's and the judges' own. -/
theorem unclocked_clockStrobe {s : State} (first : Player) (held : s.clock.held = none) :
    (s.clockStrobe first).state.unclocked = s.unclocked := by
  have judged (t u : State) (e : u.unjudged = t.unjudged) (h : t.unclocked = s.unclocked ∧ t.clock.held = none) :
      u.unclocked = s.unclocked ∧ u.clock.held = none :=
    ⟨(unclocked_of_unjudged e).trans h.1, (congrArg (fun v => v.clock.held) e :).trans h.2⟩
  refine (clockStrobe_induction (P := fun t => t.unclocked = s.unclocked ∧ t.clock.held = none) first ⟨rfl, held⟩
    (fun t f keeps h => ⟨h.1, (keeps _).trans h.2⟩) (fun t f h => h)
    (fun t => judged t _ (State.unjudged_handToBoth ..)) (fun t pl => judged t _ (unjudged_playIfArmed ..))
    (fun t pl => judged t _ (State.unjudged_reconcile ..)) (fun t st result h => ?_)).1
  cases waiting : t.clock.waiting with
  | none => rwa [completeWaiting_of_none waiting]
  | some q =>
    rw [completeWaiting_of_noneHeld waiting h.2]
    exact ⟨(unclocked_complete ..).trans h.1, h.2⟩

/-- With no player in a stage a strobe leaves the pads and the sessions whole. -/
theorem pads_clockStrobe_of_idle {s : State} (first : Player) (held : s.clock.held = none)
    (idle : ∀ pl, (s.session pl).state = .idle) :
    (s.clockStrobe first).state.pads = s.pads ∧ (s.clockStrobe first).state.sessions = s.sessions := by
  have resting {t : State} (h : t.sessions = s.sessions) (pl : Player) : (t.session pl).state = .idle :=
    (congrArg (fun x => (x.get pl).state) h :).trans (idle pl)
  have handed (t : State) (seen : PerPad Pad) (pl : Player) (v : Int)
      (h : t.pads = s.pads ∧ t.sessions = s.sessions ∧ t.clock.held = none) :
      (t.handOver seen pl v).pads = s.pads ∧ (t.handOver seen pl v).sessions = s.sessions
        ∧ (t.handOver seen pl v).clock.held = none := by
    rw [handOver_of_rest (by rw [resting h.2.1 pl]; decide)]; exact h
  have kept := clockStrobe_induction (s := s) (P := fun t => t.pads = s.pads ∧ t.sessions = s.sessions ∧ t.clock.held = none)
    first ⟨rfl, rfl, held⟩ (fun t f keeps h => ⟨h.1, h.2.1, (keeps _).trans h.2.2⟩) (fun t f h => h)
    (fun t h => handed _ _ _ _ (handed _ _ _ _ h)) (fun t pl h => ?armed) (fun t pl h => ?compared)
    (fun t st result h => ?completed)
  · exact ⟨kept.1, kept.2.1⟩
  case armed => rwa [State.playIfArmed, if_neg (by rw [resting h.2.1 pl]; decide)]
  case compared => rwa [State.reconcile, if_neg (by rw [resting h.2.1 pl]; decide)]
  case completed =>
    cases waiting : t.clock.waiting with
    | none => rwa [completeWaiting_of_none waiting]
    | some q => rw [completeWaiting_of_noneHeld waiting h.2.2]; exact h

/-- The sensors, the profile and the tracking of both pads, and the pad assignment, are as they were. -/
def SensorsKept (s t : State) : Prop := t.scan.assign = s.scan.assign ∧ ∀ i, (t.pad i).sensors = (s.pad i).sensors
  ∧ (t.pad i).profile = (s.pad i).profile ∧ ((t.pad i).state = .unconfigured ↔ (s.pad i).state = .unconfigured)

theorem SensorsKept.refl (s : State) : SensorsKept s s := ⟨rfl, fun _ => ⟨rfl, rfl, .rfl⟩⟩

theorem SensorsKept.trans {s t u : State} (h : SensorsKept s t) (k : SensorsKept t u) : SensorsKept s u :=
  ⟨k.1.trans h.1, fun i =>
    have ⟨sensors, profile, state⟩ := h.2 i
    have ⟨sensors', profile', state'⟩ := k.2 i
    ⟨sensors'.trans sensors, profile'.trans profile, state'.trans state⟩⟩

theorem SensorsKept.of_same {s t : State} (scan : t.scan.assign = s.scan.assign) (pads : t.pads = s.pads) : SensorsKept s t :=
  ⟨scan, fun i => by rw [show t.pad i = s.pad i from congrArg (PerPad.get · i) pads]; exact ⟨rfl, rfl, .rfl⟩⟩

theorem clearHolds_of_unclocked {s t : State} (h : t.unclocked = s.unclocked) (i : PadId) :
    (t.pad i).clearHolds = (s.pad i).clearHolds := by
  cases i
  · exact congrArg (fun u => u.pads.pad0) h
  · exact congrArg (fun u => u.pads.pad1) h

theorem SensorsKept.of_unclocked {s t : State} (h : t.unclocked = s.unclocked) : SensorsKept s t := by
  refine ⟨congrArg (fun u => u.scan.assign) h, fun i => ?_⟩
  have pad := clearHolds_of_unclocked h i
  have state : (t.pad i).state = (s.pad i).state := (congrArg Pad.state pad :)
  exact ⟨(congrArg Pad.sensors pad :), (congrArg Pad.profile pad :), by rw [state]⟩

theorem SensorsKept.setPad (s : State) (i : PadId) (x : Pad) (sensors : x.sensors = (s.pad i).sensors)
    (profile : x.profile = (s.pad i).profile) (state : x.state = .unconfigured ↔ (s.pad i).state = .unconfigured) :
    SensorsKept s (s.setPad i x) := by
  refine ⟨rfl, fun j => ?_⟩
  rw [State.pad_setPad]
  split
  · rename_i same; rw [same]; exact ⟨sensors, profile, state⟩
  · exact ⟨rfl, rfl, .rfl⟩

theorem unclocked_handToBoth (s : State) (first : Player) : (s.handToBoth first).unclocked = s.unclocked :=
  unclocked_of_unjudged (State.unjudged_handToBoth ..)

theorem unclocked_songStart (s : State) (r : Request) : (s.songStart r).unclocked = s.unclocked := by
  unfold State.songStart; split
  · exact unclocked_handToBoth ..
  all_goals exact unclocked_complete ..

theorem unclocked_cancelWaiting (s : State) : s.cancelWaiting.unclocked = s.unclocked := by
  unfold State.cancelWaiting; split
  exacts [rfl, unclocked_complete ..]

theorem unclocked_songStop (s : State) (r : Request) (first : Player) : (s.songStop r first).unclocked = s.unclocked := by
  have aborted (t : State) (pl : Player) : (t.abortIfPlaying pl).unclocked = t.unclocked :=
    unclocked_of_unjudged (State.unjudged_abortIfPlaying ..)
  unfold State.songStop; split
  · exact unclocked_complete ..
  all_goals exact (unclocked_complete ..).trans ((aborted _ _).trans ((aborted _ _).trans (unclocked_cancelWaiting s)))

/-- No request of slot 0 touches a sensor or a profile when it is taken. -/
theorem serve_sensorsKept (s : State) (first : Player) (r : Request) : SensorsKept s (s.serve .slot0 first r) := by
  unfold State.serve
  split
  case h_1 => exact .of_unclocked (unclocked_songStart s r)
  case h_2 => exact .of_unclocked (by unfold State.songPause; split; exacts [rfl, unclocked_complete ..])
  case h_3 => exact .of_unclocked (by unfold State.songResume; split; exacts [rfl, unclocked_complete ..])
  case h_4 => exact .of_unclocked (unclocked_songStop s r first)
  case h_5 =>
    unfold State.loadProfile; split
    · exact .of_same rfl rfl
    · split
      · exact .of_same rfl rfl
      · split <;> exact .of_same rfl rfl
  case h_6 =>
    unfold State.calibrate; split
    · exact .of_same rfl rfl
    · split
      · exact .of_same rfl rfl
      · rename_i active
        split
        · exact .of_same rfl rfl
        · refine SensorsKept.setPad (s.execute .slot0 r) _ _ rfl rfl ?_
          rw [show ((s.execute .slot0 r).pad _).state = .active from not_not.mp active]
          exact ⟨nofun, nofun⟩
  case h_7 => exact .of_same rfl rfl
  case h_8 => rename_i nobody; nomatch nobody
  case h_9 => rename_i nobody; nomatch nobody
  case h_10 => rename_i nobody; nomatch nobody
  case h_11 => exact .of_same rfl rfl

theorem startHeld_sensorsKept (s : State) (first : Player) : SensorsKept s (s.startHeld first) := by
  cases held : s.clock.held with
  | none => rw [startHeld_of_none held]; exact .refl s
  | some r =>
    rw [startHeld_of held]
    have dropped : SensorsKept s (s.onClock (fun c => { c with held := none })) := .of_same rfl rfl
    exact dropped.trans (serve_sensorsKept _ first r)

theorem completeWaiting_sensorsKept (s : State) (st : Status) (result : Word) (first : Player) :
    SensorsKept s (s.completeWaiting st result first) := by
  cases waiting : s.clock.waiting with
  | none => rw [completeWaiting_of_none waiting]; exact .refl s
  | some q =>
    rw [completeWaiting_of waiting]
    have done : SensorsKept s ((s.onClock (fun c => { c with waiting := none })).complete .slot0 q.tag st result) :=
      .of_same rfl rfl
    exact done.trans (startHeld_sensorsKept _ first)

/-- A strobe of the Song Clock touches no sensor and no profile, whatever request starts in it. -/
theorem clockStrobe_sensorsKept (s : State) (first : Player) : SensorsKept s (s.clockStrobe first).state := by
  have judged (t u : State) (e : u.unjudged = t.unjudged) (h : SensorsKept s t) : SensorsKept s u :=
    h.trans (.of_unclocked (unclocked_of_unjudged e))
  exact clockStrobe_induction (P := SensorsKept s) first (SensorsKept.refl s) (fun t f _ h => h) (fun t f h => h)
    (fun t => judged t _ (State.unjudged_handToBoth ..)) (fun t pl => judged t _ (unjudged_playIfArmed ..))
    (fun t pl => judged t _ (State.unjudged_reconcile ..)) (fun t st result h => h.trans (completeWaiting_sensorsKept ..))

end Sys2Proof.Machine

namespace Sys2Proof.Machine

/-! ### One sensor's health in a round (R20, R21) -/

/-- R20: the round brings the run of a HEALTHY sensor to its limit. -/
def Sensor.failing (x : Sensor) : Bool := x.healthy && x.extreme && decide (63 ≤ x.failRun)

/-- R21: the round brings the run of a FAILED sensor to its limit. -/
def Sensor.recovering (x : Sensor) : Bool := !x.healthy && !x.extreme && decide (1023 ≤ x.recoverRun)

/-- R20, R21: a sensor's health has changed, and both runs have ended. -/
def Sensor.turned (x : Sensor) (healthy : Bool) : Sensor := { x with healthy, failRun := 0, recoverRun := 0 }

/-- R20, R21: a tracked sensor after its round. -/
def Sensor.checked (x : Sensor) : Sensor :=
  if x.failing then x.turned false else if x.recovering then x.turned true else x.countRun

theorem turned_countRun (x : Sensor) (healthy : Bool) : x.countRun.turned healthy = x.turned healthy := by
  unfold Sensor.countRun; split <;> rfl

theorem failing_iff (x : Sensor) : x.failing = true ↔ x.countRun.healthy = true ∧ 64 ≤ x.countRun.failRun := by
  unfold Sensor.failing Sensor.countRun
  by_cases healthy : x.healthy = true <;> by_cases extreme : x.extreme = true <;> simp [healthy, extreme]

theorem recovering_iff (x : Sensor) :
    x.recovering = true ↔ x.countRun.healthy = false ∧ 1024 ≤ x.countRun.recoverRun := by
  unfold Sensor.recovering Sensor.countRun
  by_cases healthy : x.healthy = true <;> by_cases extreme : x.extreme = true <;> simp [healthy, extreme]

/-- The health update of one sensor's pad: nothing for a sensor that is not tracked. -/
def Pad.checkSensor (pad : Pad) (p : PanelId) (c : SensorId) : Pad :=
  if pad.tracked p c then { pad with sensors := pad.sensors.set (channel p c) (pad.sensor p c).checked } else pad

theorem pad_failSensor (s : State) (n : SensorName) (i : PadId) : (s.failSensor n).pad i =
    if i = n.pad then (s.pad n.pad).resense n.panel n.sensor false else s.pad i := by
  rw [failSensor_eq, State.pad_logFault, pad_flagOwner, State.pad_raise, State.pad_setPad]

theorem pad_recoverSensor (s : State) (n : SensorName) (i : PadId) : (s.recoverSensor n).pad i =
    if i = n.pad then (s.pad n.pad).resense n.panel n.sensor true else s.pad i := by
  rw [recoverSensor_eq, pad_flagOwner, State.pad_raise, State.pad_setPad]

theorem held_take (f : FaultRecord) (k : FaultKind) (pl : Option Player) (a b : Nat) (v : Int) :
    (f.take k pl a b v).held = true := by
  unfold FaultRecord.take; split
  exacts [‹_›, rfl]

/-- R20, R21: the run of a sensor is counted. -/
theorem pad_countRun (s : State) (n : SensorName) (i : PadId) : (s.onSensor n Sensor.countRun).pad i =
    if i = n.pad then { s.pad n.pad with
      sensors := (s.pad n.pad).sensors.set (channel n.panel n.sensor) (s.sensorOf n).countRun } else s.pad i :=
  State.pad_setPad ..

theorem resense_countRun (s : State) (n : SensorName) (healthy : Bool) :
    ((s.onSensor n Sensor.countRun).pad n.pad).resense n.panel n.sensor healthy =
      { s.pad n.pad with
        sensors := (s.pad n.pad).sensors.set (channel n.panel n.sensor) ((s.sensorOf n).turned healthy) } := by
  rw [pad_countRun, if_pos rfl, ← turned_countRun]
  refine congrArg (fun l => { s.pad n.pad with sensors := l }) (Tab.ext_get (fun j => ?_))
  dsimp only
  rw [Tab.get_set_same, Tab.get_set, Tab.get_set, Tab.get_set]
  split <;> rfl

section healthStep
variable (s : State) (n : SensorName)

/-- The run of a tracked sensor is counted, and the sensor fails or recovers where that brings the run to its limit. -/
theorem healthStep_of_tracked (tracked : (s.pad n.pad).tracked n.panel n.sensor = true) :
    s.healthStep n =
      if (s.sensorOf n).failing then (s.onSensor n Sensor.countRun).failSensor n
      else if (s.sensorOf n).recovering then (s.onSensor n Sensor.countRun).recoverSensor n
      else s.onSensor n Sensor.countRun := by
  have pad := (pad_countRun s n n.pad).trans (if_pos rfl)
  have still : ((s.onSensor n Sensor.countRun).pad n.pad).tracked n.panel n.sensor = true := by rw [pad]; exact tracked
  have sensor : (s.onSensor n Sensor.countRun).sensorOf n = (s.sensorOf n).countRun := by
    rw [State.sensorOf, pad]; exact Tab.get_set_same ..
  rw [State.healthStep, if_pos tracked]
  dsimp only
  simp only [failReached_iff, recoverReached_iff, still, sensor, true_and, failing_iff, recovering_iff]

theorem healthStep_of_untracked (untracked : ¬ (s.pad n.pad).tracked n.panel n.sensor = true) : s.healthStep n = s :=
  if_neg untracked

theorem pad_healthStep (i : PadId) : (s.healthStep n).pad i =
    if i = n.pad then (s.pad n.pad).checkSensor n.panel n.sensor else s.pad i := by
  by_cases tracked : (s.pad n.pad).tracked n.panel n.sensor = true
  · have other (h : i ≠ n.pad) : (s.onSensor n Sensor.countRun).pad i = s.pad i := (pad_countRun s n i).trans (if_neg h)
    rw [healthStep_of_tracked s n tracked, Pad.checkSensor, if_pos tracked, show (s.pad n.pad).sensor _ _ = s.sensorOf n from rfl,
      Sensor.checked]
    split
    · rw [pad_failSensor, resense_countRun]
      split
      exacts [rfl, other ‹_›]
    · split
      · rw [pad_recoverSensor, resense_countRun]
        split
        exacts [rfl, other ‹_›]
      · exact pad_countRun s n i
  · rw [healthStep_of_untracked s n tracked, Pad.checkSensor, if_neg tracked]
    split
    · rename_i same; rw [same]
    · rfl

/-- A fault record that is held stays so. -/
theorem held_healthStep (held : s.fault.held = true) : (s.healthStep n).fault.held = true := by
  by_cases tracked : (s.pad n.pad).tracked n.panel n.sensor = true
  · rw [healthStep_of_tracked s n tracked]
    split
    · rw [failSensor_eq, State.fault_logFault]; exact held_take ..
    · split
      · rw [recoverSensor_eq, fault_flagOwner]; exact held
      · exact held
  · rwa [healthStep_of_untracked s n tracked]

/-- R20: a tracked sensor that fails in the round raises the SENSOR and FAULT notices and is reported. -/
theorem healthStep_reports (tracked : (s.pad n.pad).tracked n.panel n.sensor = true) (fails : (s.sensorOf n).failing = true) :
    (s.healthStep n).notice.getLsbD 7 = true ∧ (s.healthStep n).notice.getLsbD 5 = true
      ∧ (s.healthStep n).fault.held = true := by
  obtain ⟨-, -, ⟨fault, notice⟩, -⟩ := failSensor_effect (s.onSensor n Sensor.countRun) n
  rw [healthStep_of_tracked s n tracked, if_pos fails, fault, notice]
  exact ⟨by simp, by simp, held_take ..⟩

/-- R21: a tracked sensor that recovers in the round raises the SENSOR notice. -/
theorem healthStep_notices (tracked : (s.pad n.pad).tracked n.panel n.sensor = true)
    (recovers : (s.sensorOf n).recovering = true) : (s.healthStep n).notice.getLsbD 7 = true := by
  have fit : (s.sensorOf n).failing = false := by
    cases healthy : (s.sensorOf n).healthy
    · simp [Sensor.failing, healthy]
    · simp [Sensor.recovering, healthy] at recovers
  obtain ⟨-, -, notice, -⟩ := recoverSensor_effect (s.onSensor n Sensor.countRun) n
  rw [healthStep_of_tracked s n tracked, fit, if_neg Bool.false_ne_true, if_pos recovers, notice]
  simp

end healthStep

/-! ### The health of all sensors in a round (R18, R20, R21) -/

theorem checkSensor_eq (x : Pad) (p : PanelId) (c : SensorId) :
    x.checkSensor p c = { x with sensors := (x.checkSensor p c).sensors } := by
  unfold Pad.checkSensor; split <;> rfl

theorem tracked_of_sensors (x : Pad) (l : Tab 24 Sensor) (p : PanelId) (c : SensorId) :
    Pad.tracked { x with sensors := l } p c = x.tracked p c := rfl

theorem sensor_checkSensor (x : Pad) (p q : PanelId) (c d : SensorId) : (x.checkSensor p c).sensor q d =
    if (q = p ∧ d = c) ∧ x.tracked p c = true then (x.sensor q d).checked else x.sensor q d := by
  unfold Pad.checkSensor
  by_cases tracked : x.tracked p c = true
  · rw [if_pos tracked, Pad.sensor, Tab.get_set]
    by_cases same : q = p ∧ d = c
    · obtain ⟨rfl, rfl⟩ := same; simp [tracked]
    · simp [channel_inj, same, Pad.sensor]
  · simp [tracked]

/-- The health updates of several sensors, each once. -/
theorem pad_healthSteps (l : List SensorName) (once : l.Nodup) (s : State) (i : PadId) :
    (l.foldl (fun u c => u.healthStep c) s).pad i =
        { s.pad i with sensors := ((l.foldl (fun u c => u.healthStep c) s).pad i).sensors }
      ∧ ∀ p c, ((l.foldl (fun u c => u.healthStep c) s).pad i).sensor p c =
          if (⟨i, p, c⟩ : SensorName) ∈ l ∧ (s.pad i).tracked p c = true then ((s.pad i).sensor p c).checked
          else (s.pad i).sensor p c := by
  induction l generalizing s with
  | nil => simp
  | cons n l ih =>
    obtain ⟨fresh, rest⟩ := List.nodup_cons.mp once
    obtain ⟨pad, sensors⟩ := ih rest (s.healthStep n)
    rw [List.foldl_cons]
    by_cases here : i = n.pad
    · have step := (pad_healthStep s n i).trans (if_pos here)
      rw [← here] at step
      rw [step] at pad sensors
      refine ⟨pad.trans ?_, fun p c => (sensors p c).trans ?_⟩
      · rw [checkSensor_eq]
      · have kept : ((s.pad i).checkSensor n.panel n.sensor).tracked p c = (s.pad i).tracked p c := by
          rw [checkSensor_eq, tracked_of_sensors]
        rw [kept, sensor_checkSensor]
        by_cases same : (⟨i, p, c⟩ : SensorName) = n
        · subst same; simp [fresh]
        · have apart : ¬ (p = n.panel ∧ c = n.sensor) := fun h => same (by rw [h.1, h.2, here])
          simp [same, apart]
    · have step := (pad_healthStep s n i).trans (if_neg here)
      rw [step] at pad sensors
      refine ⟨pad, fun p c => (sensors p c).trans ?_⟩
      have other : (⟨i, p, c⟩ : SensorName) ≠ n := fun h => here (congrArg SensorName.pad h)
      simp [other]

/-- The round's conversion of a sensor (R18). -/
def Sensor.converted (x : Sensor) (raw : BitVec 12) : Sensor := { x with raw := raw.toNat }

/-- What a round makes of a sensor before its panel is evaluated (R18, R20, R21). -/
def State.sensedSensor (s : State) (r : Readings) (i : PadId) (p : PanelId) (c : SensorId) : Sensor :=
  let x := ((s.pad i).sensor p c).converted ((readingsOf r s.scan.assign i).get (channel p c))
  if (s.pad i).tracked p c then x.checked else x

/-- R18, R20, R21: all sensors converted, and the health of each updated. -/
def State.healthRound (s : State) (r : Readings) (sensors : List SensorName) : State :=
  (inOrder sensors allSensors).foldl (fun s c => s.healthStep c) (s.convertAll r)

theorem senseRound_eq (s : State) (r : Readings) (sensors : List SensorName) (stamp : Int) :
    s.senseRound r sensors stamp = ((s.healthRound r sensors).calibrationRound .pad0 stamp).calibrationRound .pad1 stamp := rfl

theorem pad_convertAll (s : State) (r : Readings) (i : PadId) :
    (s.convertAll r).pad i = (s.pad i).convert (readingsOf r s.scan.assign i) := by cases i <;> rfl

theorem sensor_convert (x : Pad) (l : Tab 24 (BitVec 12)) (p : PanelId) (c : SensorId) :
    (x.convert l).sensor p c = (x.sensor p c).converted (l.get (channel p c)) := Tab.get_mapIdx ..

section healthRound
variable (s : State) (r : Readings) (sensors : List SensorName)

theorem healthRound_moved : Moved s (s.healthRound r sensors) :=
  Moves.foldl _ (fun _ _ m => m.healthStep _) _ _ (Moves.refl.convertAll r)

theorem pad_healthRound (i : PadId) : (s.healthRound r sensors).pad i =
    { s.pad i with sensors := ((s.healthRound r sensors).pad i).sensors } := by
  refine (pad_healthSteps _ (nodup_inOrder ..) (s.convertAll r) i).1.trans ?_
  rw [pad_convertAll]
  rfl

theorem sensor_healthRound (i : PadId) (p : PanelId) (c : SensorId) :
    ((s.healthRound r sensors).pad i).sensor p c = s.sensedSensor r i p c := by
  refine ((pad_healthSteps _ (nodup_inOrder ..) (s.convertAll r) i).2 p c).trans ?_
  rw [pad_convertAll, sensor_convert, State.sensedSensor]
  simp only [mem_inOrder (mem_allSensors _), true_and]
  rfl

/-- What one sensor's step tells, the round tells of each tracked sensor. -/
theorem healthSteps_tell {Q : Sensor → Prop} {P : State → Prop} (keeps : ∀ (t : State) n, P t → P (t.healthStep n))
    (tells : ∀ (t : State) n, (t.pad n.pad).tracked n.panel n.sensor = true → Q (t.sensorOf n) → P (t.healthStep n))
    (l : List SensorName) (once : l.Nodup) (t : State) (n : SensorName) (mem : n ∈ l)
    (tracked : (t.pad n.pad).tracked n.panel n.sensor = true) (h : Q (t.sensorOf n)) :
    P (l.foldl (fun u c => u.healthStep c) t) := by
  obtain ⟨before, after, rfl⟩ := List.append_of_mem mem
  have fresh : n ∉ before := fun k => (List.nodup_append.mp once).2.2 n k n (List.mem_cons_self ..) rfl
  obtain ⟨pad, same⟩ := pad_healthSteps before (List.nodup_append.mp once).1 t n.pad
  have last (u : State) (k : P u) : P (after.foldl (fun u c => u.healthStep c) u) :=
    List.foldlRecOn after _ k (fun u k c _ => keeps u c k)
  rw [List.foldl_append, List.foldl_cons]
  refine last _ (tells _ n ?_ ?_)
  · rw [pad]; exact tracked
  · rw [State.sensorOf, same, if_neg (fun k => fresh k.1)]; exact h

/-- R20: a tracked sensor that fails in the round is reported. -/
theorem healthRound_reports {i : PadId} {p : PanelId} {c : SensorId} (tracked : (s.pad i).tracked p c = true)
    (fails : (((s.pad i).sensor p c).converted ((readingsOf r s.scan.assign i).get (channel p c))).failing = true) :
    (s.healthRound r sensors).notice.getLsbD 7 = true ∧ (s.healthRound r sensors).notice.getLsbD 5 = true
      ∧ (s.healthRound r sensors).fault.held = true := by
  refine healthSteps_tell (Q := fun x => x.failing = true)
    (P := fun t => t.notice.getLsbD 7 = true ∧ t.notice.getLsbD 5 = true ∧ t.fault.held = true)
    (fun t n h => ?_) healthStep_reports _ (nodup_inOrder ..) _ ⟨i, p, c⟩ (mem_inOrder (mem_allSensors _)) ?_ ?_
  · have moved : Moved t (t.healthStep n) := Moves.refl.healthStep n
    exact ⟨moved.notice _ h.1, moved.notice _ h.2.1, held_healthStep t n h.2.2⟩
  · rw [pad_convertAll]; exact tracked
  · rw [State.sensorOf, pad_convertAll, sensor_convert]; exact fails

/-- R21: a tracked sensor that recovers in the round raises the SENSOR notice. -/
theorem healthRound_notices {i : PadId} {p : PanelId} {c : SensorId} (tracked : (s.pad i).tracked p c = true)
    (recovers : (((s.pad i).sensor p c).converted ((readingsOf r s.scan.assign i).get (channel p c))).recovering = true) :
    (s.healthRound r sensors).notice.getLsbD 7 = true := by
  refine healthSteps_tell (Q := fun x => x.recovering = true) (P := fun t => t.notice.getLsbD 7 = true)
    (fun t n h => ?_) healthStep_notices _ (nodup_inOrder ..) _ ⟨i, p, c⟩ (mem_inOrder (mem_allSensors _)) ?_ ?_
  · exact Moves.notice (Moves.refl.healthStep n : Moved t (t.healthStep n)) _ h
  · rw [pad_convertAll]; exact tracked
  · rw [State.sensorOf, pad_convertAll, sensor_convert]; exact recovers

end healthRound

end Sys2Proof.Machine

namespace Sys2Proof.Machine

/-! ### What health and loads depend on (R23) -/

section sameSensing
variable {x y : Pad} {p : PanelId}

theorem healthyOf_of_health (profile : y.profile = x.profile)
    (health : ∀ c, (y.sensor p c).healthy = (x.sensor p c).healthy) : y.healthyOf p = x.healthyOf p := by
  simp only [Pad.healthyOf, Pad.enabledOf, profile, health]

theorem panelLoad_of_loads (profile : y.profile = x.profile) (health : ∀ c, (y.sensor p c).healthy = (x.sensor p c).healthy)
    (loads : ∀ c, (y.sensor p c).load = (x.sensor p c).load) : y.panelLoad p = x.panelLoad p := by
  simp only [Pad.panelLoad, healthyOf_of_health profile health, Pad.enabledOf, profile, loads]

end sameSensing

/-! ### A round of a CALIBRATING pad (R35 to R37) -/

section addRound
variable (c : Calibration) (sensors : Tab 24 Sensor)

theorem included_addRound (k : Fin 24) :
    (c.addRound sensors).included.get k = (c.included.get k && (sensors.get k).healthy) := Tab.get_mapIdx ..

theorem sums_addRound (k : Fin 24) : (c.addRound sensors).sums.get k =
    c.sums.get k + if (c.included.get k && (sensors.get k).healthy) then (sensors.get k).raw else 0 := by
  simp only [Calibration.addRound, Tab.get_mapIdx]
  split <;> rfl

end addRound

/-- The number of calibrated sensors counts the include marks (R37). -/
theorem measured_eq (c : Calibration) : c.measured = ((List.finRange 24).filter c.included.get).length := by
  have cells : c.included.cells = (List.finRange 24).map c.included.get := by
    refine List.ext_getElem (by simp [c.included.size]) (fun i low _ => ?_)
    simp [Tab.get]
  rw [Calibration.measured, cells, List.filter_map, List.length_map]
  rfl

/-- The pad in its calibration round, before the round's end is decided. -/
def Pad.calibrated (x : Pad) (stamp : Int) (c : Calibration) : Pad :=
  { x.calibrationPanels stamp with cal := some (c.addRound x.sensors) }

/-- R36: a panel that is not DEAD is loaded to T_on. -/
def Pad.Loaded (x : Pad) : Prop := ∃ p : PanelId, p.val < x.profile.panelCount ∧ (x.panels.get p).state ≠ .dead
  ∧ x.healthyOf p ≠ [] ∧ x.profile.tOn ≤ x.panelLoad p

section calibrated
variable (x : Pad) (stamp : Int) (c : Calibration)

theorem panels_calibrated (p : PanelId) : (x.calibrated stamp c).panels.get p =
    if p.val < x.profile.panelCount then
      if (x.panels.get p).state = .dead then { x.panels.get p with load := 0 }
      else if x.healthyOf p = [] then (x.panels.get p).die stamp
      else { x.panels.get p with load := x.panelLoad p }
    else x.panels.get p := by
  simp only [Pad.calibrated, Pad.calibrationPanels, Tab.get_mapIdx, List.length_eq_zero_iff]

/-- R36: only a panel that had no believable sensor has died in the round, so the panels before it tell. -/
theorem disturbed_calibrated : (x.calibrated stamp c).disturbed = true ↔ x.Loaded := by
  have all (p : PanelId) : p ∈ panelIds := by revert p; decide
  simp only [Pad.disturbed, List.any_eq_true, all, true_and, decide_eq_true_eq, Pad.Loaded]
  refine exists_congr (fun p => and_congr_right (fun (within : p.val < x.profile.panelCount) => ?_))
  rw [show (x.calibrated stamp c).panel p = (x.calibrated stamp c).panels.get p from rfl, panels_calibrated, if_pos within]
  rw [show (x.calibrated stamp c).healthyOf p = x.healthyOf p from rfl, Ne, Ne, List.length_eq_zero_iff]
  refine and_congr_left (fun believed => ?_)
  split
  · simp [*]
  · simp [*]

theorem endCalibration_panel (p : PanelId) : x.endCalibration.panels.get p =
    if p.val < x.profile.panelCount then
      { x.panels.get p with state := if x.healthyOf p = [] then .dead else .up, confirm := 0, stuck := 0 }
    else x.panels.get p := by
  simp only [Pad.endCalibration, Tab.get_mapIdx]
  split
  · rename_i within; simp only [Pad.settledState, if_pos within, List.length_eq_zero_iff]
  · rfl

theorem measure_sensor (k : Fin 24) : (x.measure c).sensors.get k = { x.sensors.get k with
    baseline := if c.included.get k then 16 * c.sums.get k / c.wanted else (x.sensors.get k).baseline } := by
  simp only [Pad.measure, Tab.get_mapIdx]
  split <;> rfl

theorem healthyOf_measure (p : PanelId) : (x.measure c).healthyOf p = x.healthyOf p :=
  healthyOf_of_health rfl (fun d => by rw [Pad.sensor, measure_sensor]; rfl)

end calibrated

theorem setPad_setPad (s : State) (i : PadId) (x y : Pad) : (s.setPad i x).setPad i y = s.setPad i y := by cases i <;> rfl

/-- The pad whose calibration has been measured and is over (R37). -/
def Pad.completed (x : Pad) (c : Calibration) : Pad := (x.measure c).endCalibration

theorem completed_panel (x : Pad) (c : Calibration) (p : PanelId) : (x.completed c).panels.get p =
    if p.val < x.profile.panelCount then
      { x.panels.get p with state := if x.healthyOf p = [] then .dead else .up, confirm := 0, stuck := 0 }
    else x.panels.get p := by
  rw [Pad.completed, endCalibration_panel, healthyOf_measure]
  rfl

theorem completeCalibration_eq (s : State) (pad : PadId) (c : Calibration) : s.completeCalibration pad c =
    (s.setPad pad ((s.pad pad).completed c)).ask (.table ((s.pad pad).profileAddr + 0x10)
      (tableBytes ((s.pad pad).completed c)) (BitVec.ofNat 32 c.measured)) := rfl

section calibrationRound
variable {s : State} {pad : PadId} {stamp : Int} {c : Calibration}

theorem calibrationRound_of_none (cal : (s.pad pad).cal = none) : s.calibrationRound pad stamp = s := by
  rw [State.calibrationRound, cal]

theorem calibrationRound_eq (cal : (s.pad pad).cal = some c) : s.calibrationRound pad stamp =
    let u := s.setPad pad ((s.pad pad).calibrated stamp c)
    if ((s.pad pad).calibrated stamp c).disturbed then u.disturbCalibration pad (c.addRound (s.pad pad).sensors)
    else if c.wanted ≤ c.taken + 1 then u.completeCalibration pad (c.addRound (s.pad pad).sensors) else u := by
  rw [State.calibrationRound, cal]
  dsimp only
  rw [State.pad_setPad_same]
  rfl

/-- R36: the round that disturbs the calibration. -/
theorem calibrationRound_of_loaded (cal : (s.pad pad).cal = some c) (loaded : (s.pad pad).Loaded) :
    s.calibrationRound pad stamp = (s.setPad pad ((s.pad pad).calibrated stamp c).endCalibration).finishExecuting .slot0
      .disturbed (BitVec.ofNat 32 (c.taken + 1)) := by
  refine (calibrationRound_eq cal).trans ((if_pos ((disturbed_calibrated ..).mpr loaded)).trans ?_)
  rw [State.disturbCalibration, State.pad_setPad_same, setPad_setPad]
  rfl

/-- R37: the last round. -/
theorem calibrationRound_of_last (cal : (s.pad pad).cal = some c) (calm : ¬ (s.pad pad).Loaded)
    (last : c.wanted ≤ c.taken + 1) :
    s.calibrationRound pad stamp =
      (s.setPad pad (((s.pad pad).calibrated stamp c).completed (c.addRound (s.pad pad).sensors))).ask
        (.table ((s.pad pad).profileAddr + 0x10)
          (tableBytes (((s.pad pad).calibrated stamp c).completed (c.addRound (s.pad pad).sensors)))
          (BitVec.ofNat 32 (c.addRound (s.pad pad).sensors).measured)) := by
  refine (calibrationRound_eq cal).trans ((if_neg ((disturbed_calibrated ..).not.mpr calm)).trans ((if_pos last).trans ?_))
  rw [completeCalibration_eq, State.pad_setPad_same, setPad_setPad]
  rfl

/-- R35: a round that neither disturbs nor completes the calibration. -/
theorem calibrationRound_of_more (cal : (s.pad pad).cal = some c) (calm : ¬ (s.pad pad).Loaded) (more : c.taken + 1 < c.wanted) :
    s.calibrationRound pad stamp = s.setPad pad ((s.pad pad).calibrated stamp c) :=
  (calibrationRound_eq cal).trans ((if_neg ((disturbed_calibrated ..).not.mpr calm)).trans (if_neg (Nat.not_le.mpr more)))

/-- R35 to R37: a calibration round touches its pad, the slot and the work list, and of the pad neither the profile nor
what the readings of the sensors are and tell. -/
theorem calibrationRound_keeps (s : State) (pad : PadId) (stamp : Int) :
    Keeps [.pad pad, .work, .slot .slot0] s (s.calibrationRound pad stamp)
      ∧ ((s.calibrationRound pad stamp).pad pad).profile = (s.pad pad).profile
      ∧ ∀ k, ∃ baseline, ((s.calibrationRound pad stamp).pad pad).sensors.get k =
          { (s.pad pad).sensors.get k with baseline } := by
  cases cal : (s.pad pad).cal with
  | none => rw [calibrationRound_of_none cal]; exact ⟨.refl s, rfl, fun k => ⟨_, rfl⟩⟩
  | some c =>
    have put (x : Pad) : Keeps [.pad pad, .work, .slot .slot0] s (s.setPad pad x) := (Keeps.refl s).setPad x (by simp)
    by_cases loaded : (s.pad pad).Loaded
    · rw [calibrationRound_of_loaded cal loaded, State.pad_finishExecuting, State.pad_setPad_same]
      exact ⟨(put _).finishExecuting _ _ (by simp) (by simp), rfl, fun k => ⟨_, rfl⟩⟩
    · by_cases last : c.wanted ≤ c.taken + 1
      · rw [calibrationRound_of_last cal loaded last, State.pad_ask, State.pad_setPad_same]
        exact ⟨(put _).ask _ (by simp), rfl, fun k => ⟨_, measure_sensor _ _ k⟩⟩
      · rw [calibrationRound_of_more cal loaded (Nat.not_le.mp last), State.pad_setPad_same]
        exact ⟨put _, rfl, fun k => ⟨_, rfl⟩⟩

end calibrationRound

end Sys2Proof.Machine

namespace Sys2Proof.Machine

/-! ### A pad after the round of one of its panels (R19, R22, R30) -/

section afterPanel
variable (x : Pad) (p : PanelId) (r : PanelRound)

/-- R22, R30: the baselines of the panel's healthy sensors move where it tracks, and take the reading where it absorbs. -/
theorem sensors_afterPanel (k : Fin 24) : (x.afterPanel p r).sensors.get k =
    if (∃ c ∈ x.healthyOf p, k = channel p c) ∧ r.tracks = true then (x.sensors.get k).track x.profile.shift
    else if (∃ c ∈ x.healthyOf p, k = channel p c) ∧ r.absorbs = true then (x.sensors.get k).absorb
    else x.sensors.get k := by
  cases tracks : r.tracks
  · cases absorbs : r.absorbs
    · rw [afterPanel_of_stays tracks absorbs]; simp [Pad.setPanel]
    · rw [afterPanel_of_absorbs tracks absorbs]
      obtain ⟨mine, other⟩ := sensors_onHealthy (p := p) x r.panel Sensor.absorb k
      by_cases h : ∃ c ∈ x.healthyOf p, k = channel p c
      · rw [mine h]; simp [h]
      · rw [other h]; simp [h]
  · rw [afterPanel_of_tracks tracks]
    obtain ⟨mine, other⟩ := sensors_onHealthy (p := p) x r.panel (fun y => y.track x.profile.shift) k
    by_cases h : ∃ c ∈ x.healthyOf p, k = channel p c
    · rw [mine h]; simp [h]
    · rw [other h]; simp [h]

/-- Nothing else of the pad changes but the panel. -/
theorem afterPanel_eq : x.afterPanel p r = { x.setPanel p r.panel with sensors := (x.afterPanel p r).sensors } := by
  unfold Pad.afterPanel; dsimp only; split
  · rfl
  · split <;> rfl

theorem panels_afterPanel (q : PanelId) :
    (x.afterPanel p r).panels.get q = if q = p then r.panel else x.panels.get q := by
  rw [afterPanel_eq]; exact Tab.get_set ..

/-- Only baselines move. -/
theorem sensors_afterPanel_baseline (k : Fin 24) :
    ∃ baseline, (x.afterPanel p r).sensors.get k = { x.sensors.get k with baseline } := by
  rw [sensors_afterPanel]
  split
  · exact ⟨_, rfl⟩
  · split <;> exact ⟨_, rfl⟩

end afterPanel

/-! ### The freely ordered parts of a round (log entry 4) -/

@[simp] theorem unjudged_flagOwner (s : State) (pad : PadId) (f : BitVec 16) : (s.flagOwner pad f).unjudged = s.unjudged := by
  rw [flagOwner_eq]; rfl

theorem unjudged_emitAll (s : State) (pad : PadId) (p : PanelId) (e : Option PadEvent) :
    (s.emitAll pad p e).unjudged = s.unjudged := by
  cases e with
  | none => rfl
  | some e =>
    cases e with
    | press stamp =>
      show (State.emit ..).unjudged = _
      unfold State.emit; dsimp only; split
      exacts [rfl, State.unjudged_judgePress ..]
    | release stamp forced =>
      have flagged : (if forced then s.flagOwner pad flagForcedRelease else s).unjudged = s.unjudged := by split <;> simp
      show (State.emit ..).unjudged = _
      unfold State.emit; dsimp only; split
      exacts [flagged, (State.unjudged_judgeRelease ..).trans flagged]

/-- R19: a pad after the round of its panel, if that is within the panel count. -/
def Pad.rounded (x : Pad) (p : PanelId) (stamp : Int) : Pad :=
  if p.val < x.profile.panelCount then x.afterPanel p (x.roundOf p stamp) else x

theorem roundPanel_eq (s : State) (pad : PadId) (p : PanelId) (stamp : Int) : s.roundPanel pad p stamp =
    if p.val < (s.pad pad).profile.panelCount then
      (s.setPad pad ((s.pad pad).rounded p stamp)).emitAll pad p ((s.pad pad).roundOf p stamp).event
    else s := by
  unfold State.roundPanel Pad.rounded; split <;> rfl

section roundItem
variable (pre seen : PerPad Pad) (stamp : Int) (handed : Bool)

/-- But for what judges may change, a part of the round leaves all but the pad of the panel it evaluates. -/
theorem roundItem_cases (s : State) (x : RoundItem) :
    (s.roundItem pre seen stamp handed x).unjudged = s.unjudged
      ∨ ∃ i p, x = .panel i p ∧ (pre.get i).state = .active ∧
        (s.roundItem pre seen stamp handed x).unjudged = (s.setPad i ((s.pad i).rounded p stamp)).unjudged := by
  cases x with
  | handOver pl =>
    refine .inl ?_
    unfold State.roundItem; dsimp only; split
    exacts [State.unjudged_handOver .., rfl]
  | panel i p =>
    by_cases active : (pre.get i).state = .active
    · by_cases within : p.val < (s.pad i).profile.panelCount
      · refine .inr ⟨i, p, rfl, active, ?_⟩
        rw [State.roundItem, if_pos active, roundPanel_eq, if_pos within]
        exact unjudged_emitAll (s.setPad i ((s.pad i).rounded p stamp)) i p _
      · refine .inl ?_
        rw [State.roundItem, if_pos active, roundPanel_eq, if_neg within]
    · exact .inl (by rw [State.roundItem, if_neg active])
  | countdown => exact .inl (State.unjudged_setLamps s _)

end roundItem

/-- What the rest of a round leaves of the part: the fault record, the scan, and of every sensor all but its baseline. -/
structure PartKept (s t : State) : Prop where
  fault : t.fault = s.fault
  scan : t.scan = s.scan
  sensors : ∀ i k, ∃ baseline, (t.pad i).sensors.get k = { (s.pad i).sensors.get k with baseline }

theorem PartKept.refl (s : State) : PartKept s s := ⟨rfl, rfl, fun _ _ => ⟨_, rfl⟩⟩

theorem PartKept.trans {s t u : State} (h : PartKept s t) (k : PartKept t u) : PartKept s u :=
  ⟨k.fault.trans h.fault, k.scan.trans h.scan, fun i j => by
    obtain ⟨_, first⟩ := h.sensors i j
    obtain ⟨b, second⟩ := k.sensors i j
    exact ⟨b, by rw [second, first]⟩⟩

theorem clearHolds_of_unjudged {s t : State} (h : t.unjudged = s.unjudged) (i : PadId) :
    (t.pad i).clearHolds = (s.pad i).clearHolds := clearHolds_of_unclocked (unclocked_of_unjudged h) i

theorem PartKept.of_unjudged {s t : State} (h : t.unjudged = s.unjudged) : PartKept s t := by
  refine ⟨(congrArg State.fault h :), (congrArg State.scan h :),
    fun i k => ⟨((s.pad i).sensors.get k).baseline, ?_⟩⟩
  rw [show (t.pad i).sensors = (s.pad i).sensors from (congrArg Pad.sensors (clearHolds_of_unjudged h i) :)]

theorem PartKept.setPad (s : State) (i : PadId) (x : Pad)
    (sensors : ∀ k, ∃ baseline, x.sensors.get k = { (s.pad i).sensors.get k with baseline }) :
    PartKept s (s.setPad i x) := by
  refine ⟨rfl, rfl, fun j k => ?_⟩
  rw [State.pad_setPad]
  split
  · rename_i same; rw [same]; exact sensors k
  · exact ⟨_, rfl⟩

section roundItem
variable (pre seen : PerPad Pad) (stamp : Int) (handed : Bool)

theorem roundItem_partKept (s : State) (x : RoundItem) : PartKept s (s.roundItem pre seen stamp handed x) := by
  rcases roundItem_cases pre seen stamp handed s x with same | ⟨i, p, -, -, step⟩
  · exact .of_unjudged same
  · refine PartKept.trans (.setPad s i _ (fun k => ?_)) (.of_unjudged step)
    unfold Pad.rounded; split
    exacts [sensors_afterPanel_baseline .., ⟨_, rfl⟩]

/-- The parts of a round one after the other. -/
def State.roundItems (s : State) (l : List RoundItem) : State :=
  l.foldl (fun u x => u.roundItem pre seen stamp handed x) s

theorem roundItems_partKept (s : State) (l : List RoundItem) : PartKept s (s.roundItems pre seen stamp handed l) :=
  List.foldlRecOn l _ (.refl s) (fun t h x _ => h.trans (roundItem_partKept pre seen stamp handed t x))

/-- R31: a pad that was not ACTIVE keeps all but hold-active indications. -/
theorem roundItems_of_inactive (s : State) (l : List RoundItem) (i : PadId) (inactive : (pre.get i).state ≠ .active) :
    ((s.roundItems pre seen stamp handed l).pad i).clearHolds = (s.pad i).clearHolds := by
  refine List.foldlRecOn (motive := fun (t : State) => (t.pad i).clearHolds = (s.pad i).clearHolds) l _ rfl (fun t h x _ => ?_)
  rcases roundItem_cases pre seen stamp handed t x with same | ⟨j, p, -, active, step⟩
  · exact (clearHolds_of_unjudged same i).trans h
  · refine (clearHolds_of_unjudged step i).trans ?_
    rw [State.pad_setPad_ne _ _ _ _ (by rintro rfl; exact inactive active)]
    exact h

end roundItem

/-! ### The end of a round (R39, R40, R166, R179, R180) -/

section endRound
variable (s : State)

theorem captureIfDue_eq : ∃ scan work, s.captureIfDue = { s with scan, work } := by
  unfold State.captureIfDue; split
  · exact ⟨_, _, rfl⟩
  · split <;> exact ⟨_, _, rfl⟩

theorem dumpRoundEnd_eq : ∃ scan, s.dumpRoundEnd = { s with scan } := by
  unfold State.dumpRoundEnd; split <;> exact ⟨_, rfl⟩

theorem timerRound_eq : ∃ refresh, s.timerRound = { s with refresh } := by
  unfold State.timerRound State.periodDue; dsimp only; split
  · split <;> exact ⟨_, rfl⟩
  · exact ⟨_, rfl⟩

theorem askPoll_eq (pl : Player) : ∃ fetchers, s.askPoll pl = { s with fetchers } := by
  unfold State.askPoll; dsimp only; split
  · split <;> exact ⟨_, rfl⟩
  · exact ⟨_, rfl⟩

theorem pollRound_eq (pl : Player) : ∃ fetchers, s.pollRound pl = { s with fetchers } := by
  unfold State.pollRound; dsimp only; split
  · exact askPoll_eq _ pl
  · exact ⟨_, rfl⟩

/-- The state when the sensor dump is dealt with, at the end of the round. -/
def State.shownRound : State := (s.setLamps (s.lamps.roundEnd s.scan.assign s.pads)).showPads

/-- After the sensor dump a round ends with the refresh timer and the polls. -/
theorem endRound_eq : ∃ refresh fetchers,
    s.endRound = { s.shownRound.dumpRoundEnd.captureIfDue with refresh, fetchers } := by
  obtain ⟨refresh, timer⟩ := timerRound_eq s.shownRound.dumpRoundEnd.captureIfDue
  obtain ⟨_, first⟩ := pollRound_eq s.shownRound.dumpRoundEnd.captureIfDue.timerRound .p0
  obtain ⟨fetchers, second⟩ := pollRound_eq (s.shownRound.dumpRoundEnd.captureIfDue.timerRound.pollRound .p0) .p1
  refine ⟨refresh, fetchers, second.trans ?_⟩
  rw [first, timer]

/-- The end of a round leaves the pads, the clock and the fault record. -/
theorem endRound_same : s.endRound.pads = s.pads ∧ s.endRound.clock = s.clock ∧ s.endRound.fault = s.fault := by
  obtain ⟨_, _, ended⟩ := endRound_eq s
  obtain ⟨_, _, captured⟩ := captureIfDue_eq s.shownRound.dumpRoundEnd
  obtain ⟨_, due⟩ := dumpRoundEnd_eq s.shownRound
  rw [ended, captured, due]
  exact ⟨rfl, rfl, rfl⟩

/-- R39: the capture that a SENSOR_DUMP waits for, at the end of the round. -/
theorem endRound_captures {addr : Nat} {due : Bool} (waits : s.scan.dump = some ⟨addr, due⟩) :
    s.endRound.scan.dumpSerial = (s.scan.dumpSerial + 1) % 2 ^ 32 ∧ s.endRound.scan.dump = none
      ∧ .dump addr (dumpBytes s.clock.songTime ((s.scan.dumpSerial + 1) % 2 ^ 32) s.pads)
          (BitVec.ofNat 32 ((s.scan.dumpSerial + 1) % 2 ^ 32)) ∈ s.endRound.work := by
  obtain ⟨_, _, ended⟩ := endRound_eq s
  have shown : s.shownRound.scan.dump = some ⟨addr, due⟩ := waits
  have due : s.shownRound.dumpRoundEnd = s.shownRound.setScan { s.shownRound.scan with dump := some ⟨addr, true⟩ } := by
    rw [State.dumpRoundEnd, shown]
  rw [ended, due, captureIfDue_of_due rfl]
  exact ⟨rfl, rfl, List.mem_append_right _ (List.mem_singleton_self _)⟩

end endRound

end Sys2Proof.Machine

namespace Sys2Proof.Machine

/-! ### The stages of a round strobe (R1, R19) -/

/-- The clock takes the strobe, the sensors are read and judged, the freely ordered parts follow, and the round ends. -/
theorem roundStrobe_stages (s : State) (r : Readings) (order : RoundOrder) : ∃ seen handed, s.roundStrobe r order =
    (((s.clockStrobe order.first).state.senseRound r order.sensors (s.clockStrobe order.first).state.clock.songTime).roundItems
      (s.clockStrobe order.first).state.pads seen (s.clockStrobe order.first).state.clock.songTime handed
      (inOrder order.items allItems)).endRound := ⟨_, _, rfl⟩

theorem calibrationRound_partKept (s : State) (pad : PadId) (stamp : Int) : PartKept s (s.calibrationRound pad stamp) := by
  obtain ⟨keeps, -, sensors⟩ := calibrationRound_keeps s pad stamp
  refine ⟨keeps.2 .fault (by simp), keeps.2 .scan (by simp), fun i k => ?_⟩
  by_cases here : i = pad
  · rw [here]; exact sensors k
  · rw [show (s.calibrationRound pad stamp).pad i = s.pad i from keeps.2 (.pad i) (by simp [here])]
    exact ⟨_, rfl⟩

theorem senseRound_partKept (s : State) (r : Readings) (sensors : List SensorName) (stamp : Int) :
    PartKept (s.healthRound r sensors) (s.senseRound r sensors stamp) :=
  (calibrationRound_partKept _ .pad0 stamp).trans (calibrationRound_partKept _ .pad1 stamp)

/-! ### Sensors through a round (R18, R20, R21) -/

theorem sensedSensor_of_kept {s v : State} (h : SensorsKept s v) (r : Readings) (i : PadId) (p : PanelId) (c : SensorId) :
    v.sensedSensor r i p c = s.sensedSensor r i p c := by
  obtain ⟨assign, pads⟩ := h
  obtain ⟨sensors, profile, state⟩ := pads i
  have tracked : (v.pad i).tracked p c = (s.pad i).tracked p c := by
    simp only [Pad.tracked, profile, ne_eq, state]
  simp only [State.sensedSensor, Pad.sensor, assign, sensors, tracked]

section strobe
variable (s : State) (r : Readings) (order : RoundOrder)

/-- After its health has been updated, the rest of a round moves no more of a sensor than its baseline. -/
theorem sensor_roundStrobe (i : PadId) (p : PanelId) (c : SensorId) : ∃ baseline,
    ((s.roundStrobe r order).pad i).sensor p c = { s.sensedSensor r i p c with baseline } := by
  obtain ⟨seen, handed, strobe⟩ := roundStrobe_stages s r order
  have kept := clockStrobe_sensorsKept s order.first
  generalize (s.clockStrobe order.first).state = v at strobe kept
  obtain ⟨baseline, sensor⟩ := ((senseRound_partKept v r order.sensors v.clock.songTime).trans
    (roundItems_partKept v.pads seen v.clock.songTime handed _ (inOrder order.items allItems))).sensors i (channel p c)
  refine ⟨baseline, ?_⟩
  rw [strobe, show ∀ u : State, u.endRound.pad i = u.pad i from fun u => congrArg (PerPad.get · i) (endRound_same u).1]
  refine sensor.trans ?_
  rw [← sensedSensor_of_kept kept, ← sensor_healthRound]
  rfl

/-- What the health updates of a round report stands at its end. -/
theorem roundStrobe_reports : ∃ v, SensorsKept s v
    ∧ (∀ i, (v.healthRound r order.sensors).notice.getLsbD i = true → (s.roundStrobe r order).notice.getLsbD i = true)
    ∧ (s.roundStrobe r order).fault = (v.healthRound r order.sensors).fault := by
  obtain ⟨seen, handed, strobe⟩ := roundStrobe_stages s r order
  have kept := clockStrobe_sensorsKept s order.first
  generalize (s.clockStrobe order.first).state = v at strobe kept
  have sensed : AfterStrobe (v.healthRound r order.sensors) (v.senseRound r order.sensors v.clock.songTime) :=
    ((AfterStrobe.refl _).calibrationRound .pad0 _).calibrationRound .pad1 _
  have rest := (AfterStrobe.roundItems v.pads seen v.clock.songTime handed (inOrder order.items allItems) _ sensed).endRound
  refine ⟨v, kept, fun i h => ?_, ?_⟩
  · rw [strobe]; exact rest.notice i h
  · rw [strobe, (endRound_same _).2.2, (roundItems_partKept ..).fault, (senseRound_partKept ..).fault]

end strobe

/-- The readings that serve a pad (R18). -/
theorem readingsOf_eq (r : Readings) (a : Assign) (i : PadId) :
    (match i, a with | .pad0, .normal | .pad1, .swapped => r.a | _, _ => r.b) = readingsOf r a i := by
  cases i <;> cases a <;> rfl

section rows
variable {x : Sensor}

/-- R20, R21: the run of a sensor that keeps its health. -/
theorem checked_of_believed (healthy : x.healthy = true) (inside : x.extreme = false) : x.checked = { x with failRun := 0 } := by
  simp [Sensor.checked, Sensor.failing, Sensor.recovering, Sensor.countRun, healthy, inside]

theorem checked_of_extreme (healthy : x.healthy = true) (extreme : x.extreme = true) (short : x.failRun < 63) :
    x.checked = { x with failRun := x.failRun + 1 } := by
  simp [Sensor.checked, Sensor.failing, Sensor.recovering, Sensor.countRun, healthy, extreme, Nat.not_le.mpr short]

theorem failing_of_extreme (healthy : x.healthy = true) (extreme : x.extreme = true) (full : 63 ≤ x.failRun) :
    x.failing = true := by simp [Sensor.failing, healthy, extreme, full]

theorem checked_of_failing (fails : x.failing = true) : x.checked = x.turned false := if_pos fails

theorem checked_of_failed (failed : x.healthy = false) (extreme : x.extreme = true) :
    x.checked = { x with recoverRun := 0 } := by
  simp [Sensor.checked, Sensor.failing, Sensor.recovering, Sensor.countRun, failed, extreme]

theorem checked_of_inside (failed : x.healthy = false) (inside : x.extreme = false) (short : x.recoverRun < 1023) :
    x.checked = { x with recoverRun := x.recoverRun + 1 } := by
  simp [Sensor.checked, Sensor.failing, Sensor.recovering, Sensor.countRun, failed, inside, Nat.not_le.mpr short]

theorem recovering_of_inside (failed : x.healthy = false) (inside : x.extreme = false) (full : 1023 ≤ x.recoverRun) :
    x.recovering = true := by simp [Sensor.recovering, failed, inside, full]

theorem checked_of_recovering (recovers : x.recovering = true) : x.checked = x.turned true := by
  have believed : x.failing = false := by
    cases healthy : x.healthy
    · simp [Sensor.failing, healthy]
    · simp [Sensor.recovering, healthy] at recovers
  simp [Sensor.checked, believed, recovers]

theorem raw_checked (x : Sensor) : x.checked.raw = x.raw := by
  unfold Sensor.checked Sensor.countRun
  split
  · rfl
  · split
    · rfl
    · split <;> rfl

end rows

/-- Settles O32: the health updates judge each sensor once, and the rest of the round moves no more of it than its
baseline. -/
theorem roundUpdatesSensors : Obligations.RoundUpdatesSensors := by
  intro s r order op
  refine ⟨_, exec_roundStrobe op r order, ?_⟩
  intro i p c connector raw old new tracked extreme
  have reading : connector = readingsOf r s.scan.assign i := readingsOf_eq ..
  have isTracked : tracked ↔ (s.pad i).tracked p c = true := tracked_iff.symm
  have isExtreme (h : extreme) : (old.converted (connector.get (channel p c))).extreme = true := decide_eq_true h
  have isInside (h : ¬ extreme) : (old.converted (connector.get (channel p c))).extreme = false := decide_eq_false h
  obtain ⟨baseline, now⟩ := sensor_roundStrobe s r order i p c
  rw [State.sensedSensor, ← reading] at now
  obtain ⟨v, kept, notice, fault⟩ := roundStrobe_reports s r order
  have same : (v.pad i).sensor p c = old := congrArg (Tab.get · (channel p c)) (kept.2 i).1
  have trackedNow (h : tracked) : (v.pad i).tracked p c = true := by
    obtain ⟨-, profile, state⟩ := kept.2 i
    rw [tracked_iff, profile, Ne, state]; exact h
  have sensed (h : tracked) : new = { (old.converted (connector.get (channel p c))).checked with baseline } := by
    rw [if_pos (isTracked.mp h)] at now; exact now
  refine ⟨?raw, fun h => ?untracked, fun h healthy inside => ?believed, fun h healthy at' short => ?counted,
    fun h healthy at' full => ?fails, fun h failed at' => ?failed, fun h failed inside short => ?recovering,
    fun h failed inside full => ?recovers⟩
  case raw =>
    refine (congrArg Sensor.raw now).trans ?_
    dsimp only; split
    exacts [raw_checked _, rfl]
  case untracked =>
    rw [if_neg (isTracked.not.mp h)] at now
    exact ⟨(congrArg Sensor.healthy now :), (congrArg Sensor.failRun now :), (congrArg Sensor.recoverRun now :)⟩
  case believed =>
    rw [sensed h, checked_of_believed (x := old.converted _) healthy (isInside inside)]
    exact ⟨healthy, rfl, rfl⟩
  case counted =>
    rw [sensed h, checked_of_extreme (x := old.converted _) healthy (isExtreme at') short]
    exact ⟨healthy, rfl, rfl⟩
  case fails =>
    have fails := failing_of_extreme (x := old.converted _) healthy (isExtreme at') full
    obtain ⟨sensor, logged, held⟩ := healthRound_reports v r order.sensors (p := p) (c := c) (trackedNow h)
      (by rw [same, kept.1, ← reading]; exact fails)
    rw [sensed h, checked_of_failing fails, fault]
    exact ⟨rfl, rfl, rfl, notice 7 sensor, notice 5 logged, held⟩
  case failed =>
    rw [sensed h, checked_of_failed (x := old.converted _) failed (isExtreme at')]
    exact ⟨failed, rfl, rfl⟩
  case recovering =>
    rw [sensed h, checked_of_inside (x := old.converted _) failed (isInside inside) short]
    exact ⟨failed, rfl, rfl⟩
  case recovers =>
    have recovers := recovering_of_inside (x := old.converted _) failed (isInside inside) full
    have sensor := healthRound_notices v r order.sensors (p := p) (c := c) (trackedNow h)
      (by rw [same, kept.1, ← reading]; exact recovers)
    rw [sensed h, checked_of_recovering recovers]
    exact ⟨rfl, rfl, rfl, notice 7 sensor⟩

end Sys2Proof.Machine

namespace Sys2Proof.Machine

/-! ### The sensor dump in a round (R39) -/

/-- R39: at the end of the round a waiting SENSOR_DUMP is captured, and its write is asked for. -/
theorem roundStrobe_captures {s : State} {addr : Nat} {due : Bool} (r : Readings) (order : RoundOrder)
    (held : s.clock.held = none) (waits : s.scan.dump = some ⟨addr, due⟩) :
    let t := s.roundStrobe r order
    t.scan.dumpSerial = (s.scan.dumpSerial + 1) % 4294967296 ∧ t.scan.dump = none
      ∧ .dump addr (dumpBytes t.clock.songTime ((s.scan.dumpSerial + 1) % 4294967296) t.pads)
          (BitVec.ofNat 32 ((s.scan.dumpSerial + 1) % 4294967296)) ∈ t.work := by
  obtain ⟨seen, handed, strobe⟩ := roundStrobe_stages s r order
  have strobed : (s.clockStrobe order.first).state.scan = s.scan :=
    (congrArg State.scan (unclocked_clockStrobe order.first held) :)
  generalize (s.clockStrobe order.first).state = v at strobe strobed
  have scan : (State.roundItems v.pads seen v.clock.songTime handed (v.senseRound r order.sensors v.clock.songTime)
      (inOrder order.items allItems)).scan = s.scan := by
    rw [(roundItems_partKept ..).scan, (senseRound_partKept ..).scan, (healthRound_moved ..).inner.scan, strobed]
  intro t
  rw [show t = _ from strobe, ← scan]
  generalize State.roundItems v.pads seen v.clock.songTime handed _ _ = u at scan
  obtain ⟨pads, clock, -⟩ := endRound_same u
  rw [pads, clock]
  exact endRound_captures u (scan ▸ waits)

/-- Settles O38: the capture is the round's end, after which no pad changes; the bytes go field by field. -/
theorem sensorDumpAndPadWrites : Obligations.SensorDumpAndPadWrites := by
  refine ⟨⟨fun s w fresh => sensorDump_effect fresh, fun s addr op due => dumpCapture_effect op due, fun s idle => ?idle⟩,
    fun s r order addr due op held waits => ?strobe, fun time serial pads => ?bytes,
    fun s addr data result executing => ⟨fun c => ?table, fun c => ?dump⟩⟩
  case idle =>
    refine congrArg Host.Outcome.next ?_
    rw [State.whenOperating, captureIfDue_of_notDue idle, ite_self]
  case strobe => exact ⟨_, exec_roundStrobe op r order, roundStrobe_captures r order held waits⟩
  case bytes => exact dumpBytes_spells time serial pads
  case table => exact padWriteEnded_effect result executing _ (exec_baselineTableWriteDone c)
  case dump => exact padWriteEnded_effect result executing _ (exec_dumpWriteDone c)

end Sys2Proof.Machine

namespace Sys2Proof.Machine

/-! ### A round with no player in a stage (R19, R26) -/

/-- Nobody is in a stage. -/
def Unplayed (s : State) : Prop := ∀ pl, (s.session pl).state = .idle

theorem Unplayed.of_same {s t : State} (h : Unplayed s) (sessions : t.sessions = s.sessions) : Unplayed t := fun pl =>
  (congrArg (fun x => (PerPlayer.get x pl).state) sessions :).trans (h pl)

theorem judgePress_of_unplayed {s : State} (h : Unplayed s) (pl : Player) (pad : PadId) (p : PanelId) (stamp : Int) :
    s.judgePress pl pad p stamp = s := by
  have rest : (s.session pl).state ≠ .playing := by rw [h pl]; decide
  unfold State.judgePress; split
  · rfl
  · exact if_neg rest

/-- R26: an event that reaches no stage leaves the pads. -/
theorem emitAll_of_unplayed {s : State} (h : Unplayed s) (pad : PadId) (p : PanelId) (e : Option PadEvent) :
    (s.emitAll pad p e).pads = s.pads ∧ (s.emitAll pad p e).sessions = s.sessions := by
  cases e with
  | none => exact ⟨rfl, rfl⟩
  | some e =>
    cases e with
    | press stamp =>
      show (s.emit ..).pads = _ ∧ (s.emit ..).sessions = _
      unfold State.emit; dsimp only; split
      · exact ⟨rfl, rfl⟩
      · rw [judgePress_of_unplayed h]; exact ⟨rfl, rfl⟩
    | release stamp forced =>
      show (s.emit ..).pads = _ ∧ (s.emit ..).sessions = _
      rw [emit_release_of_noHold (fun pl l _ _ => .inl (by rw [h pl]; decide))]
      split
      · rw [flagOwner_eq]; exact ⟨rfl, rfl⟩
      · exact ⟨rfl, rfl⟩

section roundItem
variable (pre seen : PerPad Pad) (stamp : Int) (handed : Bool)

/-- A part of the round takes at most the panel it names one step. -/
theorem roundItem_of_unplayed {s : State} (h : Unplayed s) (x : RoundItem) :
    (s.roundItem pre seen stamp handed x).sessions = s.sessions
      ∧ ∀ i, (pre.get i).state = .active → (s.roundItem pre seen stamp handed x).pad i =
        match x with
        | .panel j p => if i = j then (s.pad i).rounded p stamp else s.pad i
        | _ => s.pad i := by
  cases x with
  | handOver pl =>
    unfold State.roundItem; dsimp only; split
    · rw [handOver_of_rest (by rw [h pl]; decide)]; exact ⟨rfl, fun _ _ => rfl⟩
    · exact ⟨rfl, fun _ _ => rfl⟩
  | countdown => exact ⟨State.sessions_setLamps s _, fun i _ => State.pad_setLamps s _ i⟩
  | panel j p =>
    by_cases active : (pre.get j).state = .active
    · rw [State.roundItem, if_pos active, roundPanel_eq]
      by_cases within : p.val < (s.pad j).profile.panelCount
      · obtain ⟨pads, sessions⟩ := emitAll_of_unplayed (s := s.setPad j ((s.pad j).rounded p stamp))
          (h.of_same rfl) j p ((s.pad j).roundOf p stamp).event
        rw [if_pos within]
        refine ⟨sessions, fun i _ => (congrArg (PerPad.get · i) pads).trans ?_⟩
        refine (State.pad_setPad ..).trans ?_
        dsimp only; split
        · rename_i same; rw [same]
        · rfl
      · rw [if_neg within]
        refine ⟨rfl, fun i _ => ?_⟩
        dsimp only; split
        · rename_i same; rw [same, Pad.rounded, if_neg within]
        · rfl
    · rw [State.roundItem, if_neg active]
      refine ⟨rfl, fun i activeHere => ?_⟩
      dsimp only
      rw [if_neg (by rintro rfl; exact active activeHere)]

end roundItem

/-! ### One panel among the others -/

/-- What the round of a panel goes by is the same: the profile, the panel and its sensors. -/
structure AtPanel (p : PanelId) (x y : Pad) : Prop where
  profile : y.profile = x.profile
  panel : y.panels.get p = x.panels.get p
  sensor : ∀ c, y.sensor p c = x.sensor p c

namespace AtPanel
variable {p : PanelId} {x y z : Pad}

theorem refl (x : Pad) : AtPanel p x x := ⟨rfl, rfl, fun _ => rfl⟩

theorem trans (h : AtPanel p x y) (k : AtPanel p y z) : AtPanel p x z :=
  ⟨k.profile.trans h.profile, k.panel.trans h.panel, fun c => (k.sensor c).trans (h.sensor c)⟩

theorem healthyOf (h : AtPanel p x y) : y.healthyOf p = x.healthyOf p :=
  healthyOf_of_health h.profile (fun c => by rw [h.sensor c])

theorem roundOf (h : AtPanel p x y) (stamp : Int) : y.roundOf p stamp = x.roundOf p stamp := by
  have load : y.panelLoad p = x.panelLoad p :=
    panelLoad_of_loads h.profile (fun c => by rw [h.sensor c]) (fun c => by rw [h.sensor c])
  rw [Pad.roundOf, h.profile, h.healthyOf, load, show y.panel p = x.panel p from h.panel]
  rfl

theorem afterPanel (h : AtPanel p x y) (r : PanelRound) : AtPanel p (x.afterPanel p r) (y.afterPanel p r) := by
  refine ⟨?_, ?_, fun c => ?_⟩
  · rw [afterPanel_eq, afterPanel_eq x]; exact h.profile
  · rw [panels_afterPanel, panels_afterPanel, if_pos rfl, if_pos rfl]
  · simp only [Pad.sensor, sensors_afterPanel, h.healthyOf, h.profile]
    rw [show y.sensors.get (channel p c) = x.sensors.get (channel p c) from h.sensor c]

theorem rounded (h : AtPanel p x y) (stamp : Int) : AtPanel p (x.rounded p stamp) (y.rounded p stamp) := by
  unfold Pad.rounded
  rw [h.profile, h.roundOf]
  split
  exacts [h.afterPanel _, h]

/-- R19: the round of another panel. -/
theorem of_other {q : PanelId} (other : q ≠ p) (x : Pad) (stamp : Int) : AtPanel p x (x.rounded q stamp) := by
  unfold Pad.rounded; split
  · refine ⟨?_, ?_, fun c => ?_⟩
    · rw [afterPanel_eq]; rfl
    · rw [panels_afterPanel, if_neg other.symm]
    · have apart (r : Bool) : ¬ ((∃ d ∈ x.healthyOf q, channel p c = channel q d) ∧ r = true) := by
        rintro ⟨⟨d, -, same⟩, -⟩
        exact other (channel_inj.mp same).1.symm
      rw [Pad.sensor, sensors_afterPanel, if_neg (apart _), if_neg (apart _)]
      rfl
  · exact refl x

end AtPanel

section roundItems
variable (pre seen : PerPad Pad) (stamp : Int) (handed : Bool)

/-- Parts of the round that do not name a panel leave what its round goes by. -/
theorem roundItems_atPanel {i : PadId} {p : PanelId} (active : (pre.get i).state = .active) (l : List RoundItem)
    (other : RoundItem.panel i p ∉ l) {s : State} (h : Unplayed s) :
    (s.roundItems pre seen stamp handed l).sessions = s.sessions
      ∧ AtPanel p (s.pad i) ((s.roundItems pre seen stamp handed l).pad i) := by
  refine List.foldlRecOn (motive := fun (t : State) => t.sessions = s.sessions ∧ AtPanel p (s.pad i) (t.pad i)) l _
    ⟨rfl, .refl _⟩ (fun t ⟨same, kept⟩ x mem => ?_)
  obtain ⟨sessions, pads⟩ := roundItem_of_unplayed pre seen stamp handed (h.of_same same) x
  refine ⟨sessions.trans same, kept.trans ?_⟩
  rw [pads i active]
  split
  · rename_i j q
    split
    · rename_i here
      exact .of_other (by rintro rfl; exact other (here ▸ mem)) _ _
    · exact .refl _
  · exact .refl _

/-- R19: each panel of an ACTIVE pad takes its step once in the round. -/
theorem roundItems_rounds {i : PadId} (p : PanelId) (active : (pre.get i).state = .active) (order : List RoundItem)
    {s : State} (h : Unplayed s) :
    AtPanel p ((s.pad i).rounded p stamp)
      ((s.roundItems pre seen stamp handed (inOrder order allItems)).pad i) := by
  obtain ⟨before, after, split, first, last⟩ := inOrder_split (mem_allItems_panel i p) order
  rw [split, State.roundItems, List.foldl_append, List.foldl_cons]
  obtain ⟨sessions, kept⟩ := roundItems_atPanel pre seen stamp handed active before first h
  have unplayed := h.of_same sessions
  obtain ⟨same, pads⟩ := roundItem_of_unplayed pre seen stamp handed unplayed (.panel i p)
  have step := (pads i active).trans (if_pos rfl)
  obtain ⟨-, rest⟩ := roundItems_atPanel pre seen stamp handed active after last (unplayed.of_same same)
  rw [step] at rest
  exact (kept.rounded stamp).trans rest

end roundItems

end Sys2Proof.Machine

namespace Sys2Proof.Machine

/-! ### The sense round beside what a panel goes by (R18 to R23, R35) -/

theorem sessions_healthStep (s : State) (n : SensorName) : (s.healthStep n).sessions = s.sessions := by
  by_cases tracked : (s.pad n.pad).tracked n.panel n.sensor = true
  · rw [healthStep_of_tracked s n tracked]
    split
    · rw [failSensor_eq, flagOwner_eq]; rfl
    · split
      · rw [recoverSensor_eq, flagOwner_eq]; rfl
      · rfl
  · rw [healthStep_of_untracked s n tracked]

theorem sessions_healthRound (s : State) (r : Readings) (sensors : List SensorName) :
    (s.healthRound r sensors).sessions = s.sessions :=
  List.foldlRecOn (motive := fun (t : State) => t.sessions = s.sessions) _ _ rfl
    (fun t h n _ => (sessions_healthStep t n).trans h)

theorem Unplayed.calibrationRound {s : State} (h : Unplayed s) (pad : PadId) (stamp : Int) :
    Unplayed (s.calibrationRound pad stamp) := fun pl => by
  rw [show (s.calibrationRound pad stamp).session pl = s.session pl from
    (calibrationRound_keeps s pad stamp).1.2 (.session pl) (by simp)]
  exact h pl

/-- A pad without a calibration is not touched by the calibration rounds. -/
theorem pad_calibrationRound_of_none {s : State} {i : PadId} (cal : (s.pad i).cal = none) (j : PadId) (stamp : Int) :
    (s.calibrationRound j stamp).pad i = s.pad i := by
  by_cases same : i = j
  · rw [calibrationRound_of_none (same ▸ cal)]
  · exact (calibrationRound_keeps s j stamp).1.2 (.pad i) (by simp [same])

theorem pad_senseRound_of_none {s : State} {i : PadId} (cal : (s.pad i).cal = none) (r : Readings) (sensors : List SensorName)
    (stamp : Int) : (s.senseRound r sensors stamp).pad i = (s.healthRound r sensors).pad i := by
  have sensed : ((s.healthRound r sensors).pad i).cal = none := by rw [pad_healthRound]; exact cal
  have first := pad_calibrationRound_of_none sensed .pad0 stamp
  rw [senseRound_eq, pad_calibrationRound_of_none (by rw [first]; exact sensed), first]

/-- The health update leaves baselines. -/
theorem baseline_sensedSensor (s : State) (r : Readings) (i : PadId) (p : PanelId) (c : SensorId) :
    (s.sensedSensor r i p c).baseline = ((s.pad i).sensor p c).baseline := by
  have checked (x : Sensor) : x.checked.baseline = x.baseline := by
    unfold Sensor.checked Sensor.countRun
    split
    · rfl
    · split
      · rfl
      · split <;> rfl
  unfold State.sensedSensor; dsimp only; split
  exacts [checked _, rfl]

/-- R19: what the round of a panel leaves of an ACTIVE pad, with no player in a stage and no request held. -/
theorem roundStrobe_atPanel {s : State} {i : PadId} (r : Readings) (order : RoundOrder) (p : PanelId) (idle : Unplayed s)
    (held : s.clock.held = none) (active : (s.pad i).state = .active) (cal : (s.pad i).cal = none) :
    ∃ y : Pad, y = { s.pad i with sensors := y.sensors }
      ∧ (∀ c, (y.sensor p c).baseline = ((s.pad i).sensor p c).baseline)
      ∧ AtPanel p (y.rounded p (s.roundStrobe r order).clock.songTime) ((s.roundStrobe r order).pad i) := by
  obtain ⟨seen, handed, strobe⟩ := roundStrobe_stages s r order
  have clock := (roundStrobe_after s r order).beside.clock
  obtain ⟨pads, sessions⟩ := pads_clockStrobe_of_idle order.first held idle
  generalize (s.clockStrobe order.first).state = v at strobe pads sessions clock
  have pad : v.pad i = s.pad i := congrArg (PerPad.get · i) pads
  have unplayed : Unplayed (v.senseRound r order.sensors v.clock.songTime) :=
    ((idle.of_same ((sessions_healthRound ..).trans sessions)).calibrationRound .pad0 _).calibrationRound .pad1 _
  have rounds := roundItems_rounds v.pads seen v.clock.songTime handed p (i := i) (by rw [pads]; exact active) order.items
    unplayed
  rw [pad_senseRound_of_none (by rw [pad]; exact cal)] at rounds
  refine ⟨(v.healthRound r order.sensors).pad i, ?_, fun c => ?_, ?_⟩
  · rw [← pad]; exact pad_healthRound ..
  · rw [sensor_healthRound, baseline_sensedSensor, pad]
  · rw [clock, strobe, show ∀ u : State, u.endRound.pad i = u.pad i from
      fun u => congrArg (PerPad.get · i) (endRound_same u).1]
    exact rounds

theorem sensor_afterPanel (y : Pad) (p : PanelId) (r : PanelRound) (c : SensorId) : (y.afterPanel p r).sensor p c =
    if c ∈ y.healthyOf p ∧ r.tracks = true then (y.sensor p c).track y.profile.shift
    else if c ∈ y.healthyOf p ∧ r.absorbs = true then (y.sensor p c).absorb
    else y.sensor p c := by
  have mine : (∃ d ∈ y.healthyOf p, channel p c = channel p d) ↔ c ∈ y.healthyOf p := by
    simp only [channel_inj, true_and, exists_eq_right']
  have sensors := sensors_afterPanel y p r (channel p c)
  simp only [mine] at sensors
  exact sensors

section seen
variable {y : Pad} {p : PanelId} {f : Profile} {seen : SensorId → Sensor} (profile : y.profile = f)
  (health : ∀ c, (seen c).healthy = (y.sensor p c).healthy)
include profile health

/-- R23: H of a panel, by what is seen of its sensors after the round. -/
theorem healthyOf_seen :
    (sensorIds.filter (fun c => f.enables.getLsbD (4 * p.val + c.val))).filter (fun c => (seen c).healthy) = y.healthyOf p := by
  subst profile
  simp only [health]
  rfl

/-- R23: the load of a panel, by what is seen of its sensors after the round and the baselines before it. -/
theorem panelLoad_seen {base : SensorId → Nat} (raw : ∀ c, (seen c).raw = (y.sensor p c).raw)
    (baseline : ∀ c, base c = (y.sensor p c).baseline) :
    (((sensorIds.filter (fun c => f.enables.getLsbD (4 * p.val + c.val))).filter (fun c => (seen c).healthy)).map
      (fun c => (seen c).raw - base c / 16)).sum
        * (sensorIds.filter (fun c => f.enables.getLsbD (4 * p.val + c.val))).length
        / ((sensorIds.filter (fun c => f.enables.getLsbD (4 * p.val + c.val))).filter (fun c => (seen c).healthy)).length =
      y.panelLoad p := by
  rw [healthyOf_seen profile health]
  subst profile
  simp only [raw, baseline]
  rfl

end seen

/-- Settles O34: among the freely ordered parts of the round the panel's own is the only one that its step goes by. -/
theorem roundEvaluatesPanels : Obligations.RoundEvaluatesPanels := by
  intro s r order i p op idle held active cal within
  refine ⟨_, exec_roundStrobe op r order, ?_⟩
  obtain ⟨y, pad, base, at'⟩ := roundStrobe_atPanel r order p idle held active cal
  generalize s.roundStrobe r order = t at at'
  intro f seen old enabled healthy load x
  have profile : y.profile = f := (congrArg Pad.profile pad :)
  rw [Pad.rounded, if_pos (profile ▸ within)] at at'
  have sees (c : SensorId) : ∃ baseline, seen c = { y.sensor p c with baseline } := by
    obtain ⟨b, is⟩ := sensors_afterPanel_baseline y p (y.roundOf p t.clock.songTime) (channel p c)
    exact ⟨b, (at'.sensor c).trans is⟩
  have health (c : SensorId) : (seen c).healthy = (y.sensor p c).healthy := by
    obtain ⟨b, is⟩ := sees c; rw [is]
  have raw (c : SensorId) : (seen c).raw = (y.sensor p c).raw := by
    obtain ⟨b, is⟩ := sees c; rw [is]
  have believed : healthy = y.healthyOf p := healthyOf_seen profile health
  have formed : load = y.panelLoad p := panelLoad_seen profile health raw (fun c => (base c).symm)
  have round : x = y.roundOf p t.clock.songTime := by
    rw [Pad.roundOf, ← believed, ← formed, profile, show y.panel p = (s.pad i).panels.get p from
      (congrArg (fun z => Pad.panel z p) pad :)]
  rw [round, believed]
  refine ⟨at'.panel.trans ((panels_afterPanel ..).trans (if_pos rfl)), fun c => ?_⟩
  refine (congrArg Sensor.baseline ((at'.sensor c).trans (sensor_afterPanel ..))).trans ?_
  rw [apply_ite Sensor.baseline, apply_ite Sensor.baseline, track_eq, Sensor.absorb]
  dsimp only
  rw [base c, ← raw c, profile]
  rfl

end Sys2Proof.Machine

namespace Sys2Proof.Machine

/-! ### A calibration in the round strobe (R35 to R37) -/

/-- But for the hold-active indications the pads are the same. -/
theorem same_of_clearHolds {x y : Pad} (h : x.clearHolds = y.clearHolds) : x.state = y.state ∧ x.cal = y.cal
    ∧ x.profile = y.profile ∧ x.profileAddr = y.profileAddr ∧ x.sensors = y.sensors
    ∧ ∀ p, (x.panels.get p).state = (y.panels.get p).state := by
  refine ⟨(congrArg Pad.state h :), (congrArg Pad.cal h :), (congrArg Pad.profile h :), (congrArg Pad.profileAddr h :),
    (congrArg Pad.sensors h :), fun p => ?_⟩
  have panel := congrArg (fun z => (z.panels.get p).state) h
  simpa only [Pad.clearHolds, Tab.get_mapIdx] using panel

/-- With one pad CALIBRATING its calibration round is all that follows the health updates. -/
theorem senseRound_of_single {v : State} {pad : PadId} (others : ∀ i, i ≠ pad → (v.pad i).cal = none) (r : Readings)
    (sensors : List SensorName) (stamp : Int) :
    v.senseRound r sensors stamp = (v.healthRound r sensors).calibrationRound pad stamp := by
  have sensed (i : PadId) (h : i ≠ pad) : ((v.healthRound r sensors).pad i).cal = none := by
    rw [pad_healthRound]; exact others i h
  cases pad with
  | pad0 =>
    have other := sensed .pad1 nofun
    rw [senseRound_eq, calibrationRound_of_none (by rw [pad_calibrationRound_of_none other]; exact other)]
  | pad1 => rw [senseRound_eq, calibrationRound_of_none (sensed .pad0 nofun)]

/-- How the strobe of `s` that ends in `t` takes the calibration round of a pad, from `w` on. -/
structure CalibrationStep (s w t : State) (pad : PadId) (stamp : Int) : Prop where
  state : (w.pad pad).state = (s.pad pad).state
  cal : (w.pad pad).cal = (s.pad pad).cal
  profile : (w.pad pad).profile = (s.pad pad).profile
  profileAddr : (w.pad pad).profileAddr = (s.pad pad).profileAddr
  panels : ∀ p, ((w.pad pad).panels.get p).state = ((s.pad pad).panels.get p).state
  baseline : ∀ k, ((w.pad pad).sensors.get k).baseline = ((s.pad pad).sensors.get k).baseline
  executing : (w.slot .slot0).executing = (s.slot .slot0).executing
  after : (t.pad pad).clearHolds = ((w.calibrationRound pad stamp).pad pad).clearHolds
  work : (w.calibrationRound pad stamp).work <+: t.work

theorem roundStrobe_calibrationStep {s : State} {pad : PadId} (r : Readings) (order : RoundOrder) (held : s.clock.held = none)
    (others : ∀ i, i ≠ pad → (s.pad i).cal = none) (calibrating : (s.pad pad).state = .calibrating) :
    ∃ w stamp, CalibrationStep s w (s.roundStrobe r order) pad stamp := by
  obtain ⟨seen, handed, strobe⟩ := roundStrobe_stages s r order
  have strobed := unclocked_clockStrobe order.first held
  generalize (s.clockStrobe order.first).state = v at strobe strobed
  have pads (i : PadId) := same_of_clearHolds (clearHolds_of_unclocked strobed i)
  obtain ⟨state, cal, profile, profileAddr, sensors, panels⟩ := pads pad
  have sense := senseRound_of_single (v := v) (pad := pad) (fun i h => (pads i).2.1.trans (others i h)) r order.sensors
    v.clock.songTime
  have items := AfterStrobe.roundItems v.pads seen v.clock.songTime handed (inOrder order.items allItems) _
    (.refl (v.senseRound r order.sensors v.clock.songTime))
  have inactive := roundItems_of_inactive v.pads seen v.clock.songTime handed
    (v.senseRound r order.sensors v.clock.songTime) (inOrder order.items allItems) pad
    (by rw [show (v.pads.get pad).state = _ from state, calibrating]; decide)
  rw [sense] at strobe inactive items
  have pad_healthRound := pad_healthRound v r order.sensors pad
  refine ⟨v.healthRound r order.sensors, v.clock.songTime, ?_, ?_, ?_, ?_, fun p => ?_, fun k => ?_, ?_, ?_, ?_⟩
  · rw [pad_healthRound]; exact state
  · rw [pad_healthRound]; exact cal
  · rw [pad_healthRound]; exact profile
  · rw [pad_healthRound]; exact profileAddr
  · rw [pad_healthRound]; exact panels p
  · obtain ⟨p, c, rfl⟩ := exists_channel k
    have sensor := sensor_healthRound v r order.sensors pad p c
    rw [Pad.sensor] at sensor
    rw [sensor, baseline_sensedSensor, Pad.sensor, sensors]
  · have slots := (healthRound_moved v r order.sensors).inner.slots
    refine (congrArg (fun x => (PerSlot.get x .slot0).executing) slots).trans ?_
    exact (congrArg (fun x : State => x.slots.slot0.executing) strobed :)
  · rw [strobe]
    refine Eq.trans (congrArg Pad.clearHolds ?_) inactive
    exact congrArg (PerPad.get · pad) (endRound_same _).1
  · rw [strobe]; exact items.endRound.work

/-- After the step a sensor of the pad is as the health update left it, but for its baseline. -/
theorem CalibrationStep.sees {s w t : State} {pad : PadId} {stamp : Int} (step : CalibrationStep s w t pad stamp) (k : Fin 24) :
    ∃ baseline, (t.pad pad).sensors.get k = { (w.pad pad).sensors.get k with baseline } := by
  obtain ⟨-, -, kept⟩ := calibrationRound_keeps w pad stamp
  obtain ⟨-, -, -, -, sensors, -⟩ := same_of_clearHolds step.after
  exact (kept k).imp (fun b is => (congrArg (Tab.get · k) sensors).trans is)

/-- R36: whether a panel is loaded, by what is seen of the pad after the round. -/
theorem loaded_seen {y : Pad} {f : Profile} {seen : Fin 24 → Sensor} {base : Fin 24 → Nat} {old : PanelId → PanelState}
    (profile : y.profile = f) (health : ∀ k, (seen k).healthy = (y.sensors.get k).healthy)
    (raw : ∀ k, (seen k).raw = (y.sensors.get k).raw) (baseline : ∀ k, base k = (y.sensors.get k).baseline)
    (panels : ∀ p, (y.panels.get p).state = old p) :
    let enabled (p : PanelId) := sensorIds.filter (fun x => f.enables.getLsbD (4 * p.val + x.val))
    let healthy (p : PanelId) := (enabled p).filter (fun x => (seen (channel p x)).healthy)
    let load (p : PanelId) : Nat := ((healthy p).map (fun x =>
      (seen (channel p x)).raw - base (channel p x) / 16)).sum * (enabled p).length / (healthy p).length
    (∀ p, healthy p = y.healthyOf p) ∧
      ((∃ p : PanelId, p.val < f.panelCount ∧ old p ≠ .dead ∧ healthy p ≠ [] ∧ f.tOn ≤ load p) ↔ y.Loaded) := by
  intro enabled healthy load
  have believed (p : PanelId) : healthy p = y.healthyOf p :=
    healthyOf_seen (seen := fun c => seen (channel p c)) profile (fun c => health _)
  have formed (p : PanelId) : load p = y.panelLoad p :=
    panelLoad_seen (seen := fun c => seen (channel p c)) (base := fun c => base (channel p c)) profile (fun c => health _)
      (fun c => raw _) (fun c => baseline _)
  refine ⟨believed, ?_⟩
  simp only [Pad.Loaded, believed, formed, panels, profile]

/-- The bytes of a baseline table at their places (R37). -/
theorem tableBytes_places (x : Pad) (k : Fin 24) :
    (tableBytes x)[2 * k.val]? = some (BitVec.ofNat 8 ((x.sensors.get k).baseline / 16))
      ∧ (tableBytes x)[2 * k.val + 1]? = some (BitVec.ofNat 8 ((x.sensors.get k).baseline / 16 / 256)) := by
  have spells := (tableBytes_spells x).2 k
  exact ⟨by simpa using spells 0 (by decide), by simpa using spells 1 (by decide)⟩

/-- R37: the include marks that a CALIBRATION_COMPLETE counts. -/
theorem measured_eq_count (c : Calibration) : c.measured = c.included.cells.count true := by
  rw [Calibration.measured, List.count, List.countP_eq_length_filter]
  simp

theorem exec_calibrationComplete {s : State} {pad : PadId} {c : Calibration} (op : s.run = .operating)
    (cal : (s.pad pad).cal = some c) (taken : c.wanted ≤ c.taken) :
    exec (.calibrationComplete pad) s = .next (s.completeCalibration pad c) := by
  refine congrArg Host.Outcome.next ((whenOperating_of op _).trans ?_)
  rw [cal]
  exact if_pos taken

/-- Settles O37: the strobe holds one calibration round, after which only hold-active indications of the pad change. -/
theorem calibrationRunsAndCompletes : Obligations.CalibrationRunsAndCompletes := by
  refine ⟨fun s r order pad c op held others calibrating cal => ⟨_, exec_roundStrobe op r order, ?strobe⟩,
    fun s pad stamp c cal => ?alone, fun s pad c op cal taken => ?complete⟩
  case strobe =>
    obtain ⟨w, stamp, step⟩ := roundStrobe_calibrationStep r order held others calibrating
    generalize s.roundStrobe r order = t at step
    intro f seen base enabled healthy load included sum loaded settled
    have calNow : (w.pad pad).cal = some c := step.cal.trans cal
    have health (k : Fin 24) : (seen k).healthy = ((w.pad pad).sensors.get k).healthy := by
      obtain ⟨b, is⟩ := step.sees k; exact (congrArg Sensor.healthy is :)
    have raw (k : Fin 24) : (seen k).raw = ((w.pad pad).sensors.get k).raw := by
      obtain ⟨b, is⟩ := step.sees k; exact (congrArg Sensor.raw is :)
    obtain ⟨believed, loadedNow⟩ := loaded_seen step.profile health raw (fun k => (step.baseline k).symm) step.panels
    have marks (k : Fin 24) : included k = (c.addRound (w.pad pad).sensors).included.get k := by
      rw [included_addRound, ← health]
    have sums (k : Fin 24) : sum k = (c.addRound (w.pad pad).sensors).sums.get k := by
      rw [sums_addRound, ← health, ← raw]
    have ends (x : Pad) (after : (t.pad pad).clearHolds = x.endCalibration.clearHolds) (profile : x.profile = f)
        (same : ∀ p, x.healthyOf p = healthy p) : settled := by
      obtain ⟨state, done, -, -, -, panels⟩ := same_of_clearHolds after
      refine ⟨state, done, fun p within => (panels p).trans ?_⟩
      rw [endCalibration_panel, if_pos (profile ▸ within), same]
    have after := step.after
    have work := step.work
    refine ⟨fun calm more => ?goesOn, fun disturbs => ?disturbed, fun calm last => ?last⟩
    case goesOn =>
      rw [calibrationRound_of_more calNow (loadedNow.not.mp calm) more, State.pad_setPad_same] at after
      obtain ⟨state, running, -, -, sensors, -⟩ := same_of_clearHolds after
      refine ⟨state.trans (step.state.trans calibrating), fun k => ?_, _, running, rfl, rfl,
        fun k => ⟨(marks k).symm, (sums k).symm⟩⟩
      exact (congrArg (fun l => (Tab.get l k).baseline) sensors).trans (step.baseline k)
    case disturbed =>
      rw [calibrationRound_of_loaded calNow (loadedNow.mp disturbs)] at after work
      rw [State.pad_finishExecuting, State.pad_setPad_same] at after
      obtain ⟨-, -, -, -, sensors, -⟩ := same_of_clearHolds after
      refine ⟨ends _ after step.profile (fun p => (believed p).symm), fun k => ?_, fun q executing => ?_⟩
      · exact (congrArg (fun l => (Tab.get l k).baseline) sensors).trans (step.baseline k)
      · refine work.mem ?_
        have executes : ((w.setPad pad ((w.pad pad).calibrated stamp c).endCalibration).slot .slot0).executing = some q :=
          step.executing.trans executing
        rw [State.work_finishExecuting _ _ _ _ q executes]
        exact List.mem_append_right _ (List.mem_singleton_self _)
    case last =>
      rw [calibrationRound_of_last calNow (loadedNow.not.mp calm) last] at after work
      rw [State.pad_ask, State.pad_setPad_same] at after
      obtain ⟨-, -, -, -, sensors, -⟩ := same_of_clearHolds after
      obtain ⟨long, spells⟩ := tableBytes_spells (((w.pad pad).calibrated stamp c).completed (c.addRound (w.pad pad).sensors))
      refine ⟨ends _ after step.profile (fun p => (healthyOf_measure ..).trans (believed p).symm), fun k => ?_, _, ?_, long,
        fun k => ?_⟩
      · have measured := congrArg Sensor.baseline (measure_sensor ((w.pad pad).calibrated stamp c) (c.addRound (w.pad pad).sensors) k)
        refine (congrArg (fun l => (Tab.get l k).baseline) sensors).trans (measured.trans ?_)
        rw [marks, sums, show base k = _ from (step.baseline k).symm]
        rfl
      · refine work.mem (List.mem_append_right _ (List.mem_singleton.mpr ?_))
        rw [show included = _ from funext marks, ← measured_eq, step.profileAddr]
      · rw [show seen k = _ from congrArg (Tab.get · k) sensors]
        exact spells k
  case alone =>
    intro t old included sum loaded settled
    have ends (x : Pad) (now : t.pad pad = x.endCalibration) (profile : x.profile = (s.pad pad).profile)
        (addr : x.profileAddr = (s.pad pad).profileAddr) (health : ∀ p, x.healthyOf p = (s.pad pad).healthyOf p) : settled := by
      refine ⟨by rw [now]; rfl, by rw [now]; rfl, by rw [now]; exact profile, by rw [now]; exact addr, fun p within => ?_⟩
      rw [now, endCalibration_panel, if_pos (profile ▸ within), health]
      exact ⟨rfl, rfl, rfl⟩
    refine ⟨fun calm more => ?more, fun disturbs executing => ?disturbed, fun calm last => ?last⟩
    case more =>
      rw [show t = _ from calibrationRound_of_more cal calm more, State.pad_setPad_same]
      refine ⟨_, rfl, rfl, rfl, rfl, rfl, rfl, rfl, fun k => ⟨included_addRound .., sums_addRound ..⟩, fun p => ?_,
        (Keeps.refl s).setPad _ (by simp)⟩
      rw [panels_calibrated]
      simp only [← Nat.not_lt, ite_not, Panel.die, pressed_iff]
      rfl
    case disturbed =>
      have run : t = _ := calibrationRound_of_loaded cal disturbs
      have now : t.pad pad = ((s.pad pad).calibrated stamp c).endCalibration := by
        rw [run, State.pad_finishExecuting, State.pad_setPad_same]
      refine ⟨?_, ends _ now rfl rfl (fun _ => rfl), by rw [now]; rfl, ?_⟩ <;> rw [run]
      · exact completedExecuting_of_same _ _ executing rfl rfl
      · exact ((Keeps.refl s).setPad _ (by simp)).finishExecuting _ _ (by simp) (by simp)
    case last =>
      have run : t = _ := calibrationRound_of_last cal calm last
      have now : t.pad pad = ((s.pad pad).calibrated stamp c).completed (c.addRound (s.pad pad).sensors) := by
        rw [run, State.pad_ask, State.pad_setPad_same]
      have marks : included = (c.addRound (s.pad pad).sensors).included.get := funext (fun k => (included_addRound ..).symm)
      refine ⟨ends _ now rfl rfl (healthyOf_measure _ _), fun k => ?_, ⟨tableBytes (t.pad pad), ?_, tableBytes_spells _⟩, ?_⟩
      · rw [now]
        refine (measure_sensor _ _ k).trans ?_
        rw [included_addRound, sums_addRound]
        rfl
      · rw [marks, ← measured_eq, now, run]
        rfl
      · rw [run]
        exact ((Keeps.refl s).setPad _ (by simp)).ask _ (by simp)
  case complete =>
    have run := exec_calibrationComplete op cal taken
    rw [completeCalibration_eq, measured_eq_count] at run
    refine ⟨_, run, ?_⟩
    rw [State.pad_ask, State.pad_setPad_same]
    exact ⟨rfl, rfl, rfl, rfl, measure_sensor _ c, completed_panel _ c,
      ⟨_, rfl, (tableBytes_spells _).1, tableBytes_places _⟩, ((Keeps.refl s).setPad _ (by simp)).ask _ (by simp)⟩

end Sys2Proof.Machine

/-! ### The remaining updates and what they leave unchanged -/

namespace Sys2Proof.Keeps

open Machine

variable {but : List Part} {s t : State} {pl : Player}

theorem setBus (h : Keeps but s t) (b : Bus) (k : Part.bus ∈ but := by simp) : Keeps but s (t.setBus b) :=
  h.trans ⟨rfl, fun p n => by cases p <;> first | rfl | exact absurd k n⟩

theorem setWork (h : Keeps but s t) (w : List Work) (k : Part.work ∈ but := by simp) : Keeps but s (t.setWork w) :=
  h.trans ⟨rfl, fun p n => by cases p <;> first | rfl | exact absurd k n⟩

theorem setRefresh (h : Keeps but s t) (x : Refresh) (k : Part.refresh ∈ but := by simp) : Keeps but s (t.setRefresh x) :=
  h.trans ⟨rfl, fun p n => by cases p <;> first | rfl | exact absurd k n⟩

theorem setFetcher (h : Keeps but s t) (x : Fetcher) (k : Part.fetcher pl ∈ but := by simp) :
    Keeps but s (t.setFetcher pl x) := by
  refine h.trans ⟨rfl, fun p n => ?_⟩
  cases p with
  | fetcher q => exact State.fetcher_setFetcher_ne t pl x q (by rintro rfl; exact n k)
  | _ => rfl

theorem setWriter (h : Keeps but s t) (x : Writer) (k : Part.writer pl ∈ but := by simp) :
    Keeps but s (t.setWriter pl x) := by
  refine h.trans ⟨rfl, fun p n => ?_⟩
  cases p with
  | writer q => exact State.writer_setWriter_ne t pl x q (by rintro rfl; exact n k)
  | _ => rfl

theorem setOwner (h : Keeps but s t) (i : PadId) (x : Option Player) (k : Part.owner i ∈ but := by simp) :
    Keeps but s (t.setOwners (t.owners.set i x)) := by
  refine h.trans ⟨rfl, fun p n => ?_⟩
  cases p with
  | owner j => exact (PerPad.get_set ..).trans (if_neg (by rintro rfl; exact n k))
  | _ => rfl

theorem onFetcher (h : Keeps but s t) (f : Fetcher → Fetcher) (k : Part.fetcher pl ∈ but := by simp) :
    Keeps but s (t.onFetcher pl f) := h.setFetcher _ k

theorem onWriter (h : Keeps but s t) (f : Writer → Writer) (k : Part.writer pl ∈ but := by simp) :
    Keeps but s (t.onWriter pl f) := h.setWriter _ k

theorem onJudge (h : Keeps but s t) (f : Judge → Judge) (k : Part.judge pl ∈ but := by simp) :
    Keeps but s (t.onJudge pl f) := h.setJudge _ k

theorem onEntry (h : Keeps but s t) (i : Nat) (f : Entry → Entry) (k : Part.judge pl ∈ but := by simp) :
    Keeps but s (t.onEntry pl i f) := h.setJudge _ k

theorem setChord (h : Keeps but s t) (i : Fin 8) (c : Option Chord) (k : Part.judge pl ∈ but := by simp) :
    Keeps but s (t.setChord pl i c) := h.setJudge _ k

theorem onScore (h : Keeps but s t) (f : Score → Score) (k : Part.score pl ∈ but := by simp) :
    Keeps but s (t.onScore pl f) := h.setScore _ k

theorem onSession (h : Keeps but s t) (f : Session → Session) (k : Part.session pl ∈ but := by simp) :
    Keeps but s (t.onSession pl f) := h.setSession _ k

theorem makeFinal (h : Keeps but s t) (i : Nat) (j : Part.judge pl ∈ but := by simp) (w : Part.writer pl ∈ but := by simp) :
    Keeps but s (t.makeFinal pl i) := (h.onEntry i _ j).onWriter _ w

theorem foldl {α : Type} {f : State → α → State} (l : List α) (step : ∀ t a, Keeps but s t → Keeps but s (f t a))
    (h : Keeps but s t) : Keeps but s (l.foldl f t) := List.foldlRecOn l f h (fun t k a _ => step t a k)

end Sys2Proof.Keeps

namespace Sys2Proof.Machine

/-! ### Grants that go out (R199, R200, R202) -/

theorem holds_of_inside {w : Window} {addr len : Nat} (low : w.low ≤ addr) (high : addr + len - 1 ≤ w.high) :
    w.holds addr len = true := decide_eq_true ⟨low, high⟩

/-- R199, R200: the client granted next puts its transfer on the bus, if the window lets it through. -/
theorem busGrant_of_lets {s : State} {c : Client} {g : Grant} (op : s.run = .operating) (free : s.bus.inFlight = none)
    (next : s.nextClient = some c) (grant : s.grantOf c = some g) (lets : g.state.window.lets g.transfer = true) :
    s.busGrant = g.state.setBus { g.state.bus with inFlight := some g.transfer, last := c } := by
  have grants : s.run.grants = true ∧ s.bus.inFlight = none := ⟨by rw [op]; rfl, free⟩
  rw [State.busGrant, if_pos grants, next]
  dsimp only
  rw [grant]
  exact if_pos lets

/-- Settles O21: a grant puts on the bus what its client asked for, with the bytes that chapter 11 gives. -/
theorem fetchAndWriteBackGrants : Obligations.FetchAndWriteBackGrants := by
  refine ⟨?fetch, ?write, by decide, by decide, ?flags⟩
  case fetch =>
    intro s pl r op free next read len low high
    have grant : s.grantOf (.fetch pl) = some ⟨s, readOf (.fetch pl r.kind) r.addr r.kind.bytes⟩ :=
      (congrArg (Option.map _) read :)
    have bytes : r.kind.bytes = len := by cases e : r.kind <;> simp [len, e, FetchKind.bytes]
    rw [bytes] at grant
    have lets : s.window.lets (readOf (.fetch pl r.kind) r.addr len) = true := by
      rw [Window.lets, show (readOf (.fetch pl r.kind) r.addr len).len = len from rfl]
      exact (congrArg _ (holds_of_inside low high)).trans (Bool.or_true _)
    exact ⟨_, congrArg Host.Outcome.next (busGrant_of_lets op free next grant lets), rfl, (Keeps.refl s).setBus _⟩
  case write =>
    intro s pl item rest op free next queue x low high
    have transfer : s.itemTransfer pl item = x := by
      cases item <;> simp [x, State.itemTransfer, writeOf, resultBytes, retireBytes, leSigned, leBytes,
        List.range_succ, Nat.shiftRight_eq_div_pow]
    have grant : s.grantOf (.write pl)
        = some ⟨s.onWriter pl (fun w => { w with queue := rest, inFlight := some item }), x⟩ := by
      rw [← transfer]; simp only [State.grantOf, State.grantWrite, queue]
    have lets : s.window.lets x = true := by
      rw [Window.lets, holds_of_inside low high, Bool.or_true]
    exact ⟨_, congrArg Host.Outcome.next (busGrant_of_lets op free next grant lets), rfl,
      State.writer_setWriter_same .., ((Keeps.refl s).onWriter _).setBus _⟩
  case flags =>
    rintro ⟨a, b, c, d, e⟩
    revert a b c d e
    decide

end Sys2Proof.Machine

namespace Sys2Proof.Machine

/-! ### Entries of a pool, read and changed -/

theorem Judge.entry_onEntry (j : Judge) (i k : Nat) (f : Entry → Entry) :
    (j.onEntry i f).entry k = if k = i ∧ i < j.pool.length then f (j.entry i) else j.entry k := by
  unfold Judge.onEntry Judge.entry
  simp only [List.getD_eq_getElem?_getD, List.getElem?_modify]
  by_cases same : k = i
  · subst same
    by_cases low : k < j.pool.length <;> simp [low]
  · simp [same, Ne.symm same]

section entries
variable {s : State} {pl : Player} {i k : Nat} (f : Entry → Entry)

/-- Past its end a pool reads as FREE. -/
theorem lt_of_entry_ne_free (h : (s.entry pl i).state ≠ .free) : i < (s.judge pl).pool.length := by
  by_contra past
  exact h (by rw [State.entry, Judge.entry, List.getD_eq_default _ _ (Nat.not_lt.mp past)]; rfl)

theorem entry_onEntry (k : Nat) : (s.onEntry pl i f).entry pl k =
    if k = i ∧ i < (s.judge pl).pool.length then f (s.entry pl i) else s.entry pl k := by
  rw [State.entry, State.onEntry, State.onJudge, State.judge_setJudge_same]
  exact Judge.entry_onEntry ..

theorem entry_onEntry_same (h : i < (s.judge pl).pool.length) : (s.onEntry pl i f).entry pl i = f (s.entry pl i) := by
  rw [entry_onEntry, if_pos ⟨rfl, h⟩]

theorem entry_onEntry_ne (h : k ≠ i) : (s.onEntry pl i f).entry pl k = s.entry pl k := by
  rw [entry_onEntry, if_neg (fun e => h e.1)]

theorem judge_onEntry : (s.onEntry pl i f).judge pl = { s.judge pl with pool := (s.judge pl).pool.modify i f } :=
  State.judge_setJudge_same ..

theorem length_pool_onEntry : ((s.onEntry pl i f).judge pl).pool.length = (s.judge pl).pool.length := by
  rw [judge_onEntry]; exact List.length_modify ..

/-- The entry reserved next is the first that is FREE (log entry 15). -/
theorem freePlace_eq_some : (s.judge pl).freePlace = some i ↔
    i < (s.judge pl).pool.length ∧ (s.entry pl i).state = .free ∧ ∀ k < i, (s.entry pl k).state ≠ .free := by
  have read {k : Nat} (low : k < (s.judge pl).pool.length) : (s.judge pl).pool[k] = s.entry pl k := by
    rw [State.entry, Judge.entry, List.getD_eq_getElem _ _ low]
  rw [Judge.freePlace, List.findIdx?_eq_some_iff_getElem]
  constructor
  · rintro ⟨low, free, least⟩
    refine ⟨low, by simpa [Entry.inUse, read low] using free, fun k before => ?_⟩
    simpa [Entry.inUse, read (before.trans low)] using least k before
  · rintro ⟨low, free, least⟩
    refine ⟨low, by simp [Entry.inUse, read low, free], fun k before => ?_⟩
    simpa [Entry.inUse, read (before.trans low)] using least k before

theorem freePlace_eq_none (h : ∀ i < (s.judge pl).pool.length, (s.entry pl i).state ≠ .free) :
    (s.judge pl).freePlace = none := by
  cases place : (s.judge pl).freePlace with
  | none => rfl
  | some i =>
    obtain ⟨low, free, -⟩ := freePlace_eq_some.mp place
    exact absurd free (h i low)

end entries

/-! ### What the fetcher asks for (R46, R48, R50, R51) -/

section asks
variable {s : State} {pl : Player}

theorem askHeader_of_wait (wait : (s.fetcher pl).state = .pageWait) (quiet : (s.fetcher pl).read = none)
    (room : (s.fetcher pl).tracker.length < 8) :
    s.askHeader pl = s.onFetcher pl (fun f => f.askFor .header f.page) := if_pos ⟨wait, quiet, room⟩

theorem askHeader_of_not (h : (s.fetcher pl).state ≠ .pageWait ∨ (s.fetcher pl).read ≠ none ∨ 8 ≤ (s.fetcher pl).tracker.length) :
    s.askHeader pl = s := by
  refine if_neg ?_
  rintro ⟨wait, quiet, room⟩
  rcases h with h | h | h
  exacts [h wait, h quiet, absurd room (Nat.not_lt.mpr h)]

/-- R48: entry `i` is reserved and the next record asked for. -/
def State.reserved (s : State) (pl : Player) (i : Nat) : State :=
  (s.onEntry pl i (fun _ => { Entry.blank with state := .reserved })).onFetcher pl (fun f =>
    { f.askFor .record (recordAddr f.page f.index) with reserved := some i })

theorem reserveNext_of_free {i : Nat} (fetching : (s.fetcher pl).state = .fetching)
    (more : (s.fetcher pl).index < (s.fetcher pl).fill) (quiet : (s.fetcher pl).read = none)
    (unreserved : (s.fetcher pl).reserved = none) (place : (s.judge pl).freePlace = some i) :
    s.reserveNext pl = s.reserved pl i := by
  rw [State.reserveNext, if_pos ⟨fetching, more, quiet, unreserved⟩, place]; rfl

theorem reserveNext_of_full (place : (s.judge pl).freePlace = none) : s.reserveNext pl = s := by
  rw [State.reserveNext, place]; exact ite_self s

theorem reserveNext_of_not (h : (s.fetcher pl).read ≠ none ∨ (s.fetcher pl).state ≠ .fetching
    ∨ (s.fetcher pl).fill ≤ (s.fetcher pl).index) : s.reserveNext pl = s := by
  refine if_neg ?_
  rintro ⟨fetching, more, quiet, -⟩
  rcases h with h | h | h
  exacts [h quiet, h fetching, absurd more (Nat.not_lt.mpr h)]

/-- What asking for a record can do. -/
theorem reserveNext_cases (s : State) (pl : Player) : s.reserveNext pl = s
    ∨ ∃ i, (s.judge pl).freePlace = some i ∧ s.reserveNext pl = s.reserved pl i := by
  unfold State.reserveNext; dsimp only; split
  · split
    · exact .inl rfl
    · exact .inr ⟨_, ‹_›, rfl⟩
  · exact .inl rfl

theorem fetcher_reserved (i : Nat) : (s.reserved pl i).fetcher pl = { s.fetcher pl with
    read := some ⟨.record, (s.fetcher pl).page + 0x10 + 16 * (s.fetcher pl).index, false⟩, reserved := some i } :=
  State.fetcher_setFetcher_same ..

theorem judge_reserved (i : Nat) : (s.reserved pl i).judge pl = { s.judge pl with
    pool := (s.judge pl).pool.set i { Entry.blank with state := .reserved } } := by
  rw [List.set_eq_modify]; exact judge_onEntry (fun _ => { Entry.blank with state := .reserved })

theorem keeps_reserved {but : List Part} {u : State} (h : Keeps but u s) (i : Nat) (f : Part.fetcher pl ∈ but := by simp)
    (j : Part.judge pl ∈ but := by simp) : Keeps but u (s.reserved pl i) := (h.onEntry i _ j).onFetcher _ f

theorem keeps_reserveNext {but : List Part} {u : State} (h : Keeps but u s) (f : Part.fetcher pl ∈ but := by simp)
    (j : Part.judge pl ∈ but := by simp) : Keeps but u (s.reserveNext pl) := by
  rcases reserveNext_cases s pl with same | ⟨i, -, step⟩
  · rwa [same]
  · rw [step]; exact keeps_reserved h i f j

theorem askPoll_of_fill (fill : (s.fetcher pl).state = .fillPoll) (due : 8 ≤ (s.fetcher pl).poll)
    (quiet : (s.fetcher pl).read = none) : s.askPoll pl = s.onFetcher pl (fun f => f.askFor .reread f.page) := by
  rw [State.askPoll, if_pos ⟨due, quiet⟩, fill]

theorem askPoll_of_link (link : (s.fetcher pl).state = .linkPoll) (due : 8 ≤ (s.fetcher pl).poll)
    (quiet : (s.fetcher pl).read = none) : s.askPoll pl = s.onFetcher pl (fun f => f.askFor .link (f.page + 4)) := by
  rw [State.askPoll, if_pos ⟨due, quiet⟩, link]

theorem askPoll_of_not (h : (s.fetcher pl).poll < 8 ∨ (s.fetcher pl).read ≠ none) : s.askPoll pl = s := by
  refine if_neg ?_
  rintro ⟨due, quiet⟩
  rcases h with h | h
  exacts [absurd due (Nat.not_le.mpr h), h quiet]

end asks

/-! ### The ends of a fetcher's reads (R47, R48, R50, R51) -/

/-- The part as a fetcher deals with the end of its read: the bus is free and nothing is asked for. -/
def State.readBack (s : State) (pl : Player) : State := s.freeBus.onFetcher pl (fun f => { f with read := none })

theorem fetcher_readBack (s : State) (pl : Player) : (s.readBack pl).fetcher pl = { s.fetcher pl with read := none } :=
  State.fetcher_setFetcher_same ..

theorem keeps_readBack (s : State) (pl : Player) : Keeps [.bus, .fetcher pl] s (s.readBack pl) :=
  ((Keeps.refl s).freeBus (by simp)).onFetcher _

section readEnds
variable {s : State} {pl : Player} {r : FetchRead}

theorem endRead_of_live (deal : State → State) (read : (s.fetcher pl).read = some r) (live : r.discard = false) :
    s.freeBus.endRead pl deal = deal (s.readBack pl) := by
  have here : (s.freeBus.fetcher pl).read = some r := read
  rw [State.endRead, here]
  exact if_neg (by rw [live]; exact Bool.false_ne_true)

theorem isFetch_same (pl : Player) (kind : FetchKind) : Xfer.isFetch pl kind (.fetch pl kind) = true :=
  decide_eq_true ⟨rfl, rfl⟩

theorem exec_headerReadDone (c : Carrying s (.fetch pl .header)) (read : (s.fetcher pl).read = some r)
    (live : r.discard = false) (reply : Option (BitVec 128)) :
    exec (.headerReadDone pl reply) s = .next ((s.readBack pl).headerRead pl reply) :=
  congrArg Host.Outcome.next ((State.endTransfer_carrying _ _ _ c (isFetch_same ..)).trans (endRead_of_live _ read live))

theorem exec_fillRereadDone (c : Carrying s (.fetch pl .reread)) (read : (s.fetcher pl).read = some r)
    (live : r.discard = false) (reply : Option (BitVec 128)) :
    exec (.fillRereadDone pl reply) s = .next ((s.readBack pl).rereadHeader pl reply) :=
  congrArg Host.Outcome.next ((State.endTransfer_carrying _ _ _ c (isFetch_same ..)).trans (endRead_of_live _ read live))

theorem exec_linkReadDone (c : Carrying s (.fetch pl .link)) (read : (s.fetcher pl).read = some r)
    (live : r.discard = false) (reply : Option (BitVec 32)) :
    exec (.linkReadDone pl reply) s = .next ((s.readBack pl).linkRead pl reply) :=
  congrArg Host.Outcome.next ((State.endTransfer_carrying _ _ _ c (isFetch_same ..)).trans (endRead_of_live _ read live))

theorem exec_recordReadDone (c : Carrying s (.fetch pl .record)) (read : (s.fetcher pl).read = some r)
    (live : r.discard = false) (reply : Option (BitVec 128)) :
    exec (.recordReadDone pl reply) s = .next ((s.readBack pl).recordRead pl reply) :=
  congrArg Host.Outcome.next ((State.endTransfer_carrying _ _ _ c (isFetch_same ..)).trans (endRead_of_live _ read live))

end readEnds

/-- R47: the checks of a header, in order. -/
theorem headerFault_eq (expected known : Nat) (d : BitVec 128) : headerFault expected known (parseHeader d) =
    if fieldAt d 0 4 ≠ 0x3147504B then some .pageTag
    else if fieldAt d 8 2 ≠ expected then some .pageSeq
    else if 31 < fieldAt d 10 2 then some .pageFill
    else if fieldAt d 10 2 < known then some .pageFill
    else none := rfl

/-- R47: a header that passes every check. -/
theorem headerFault_eq_none {expected known : Nat} {d : BitVec 128} (tag : fieldAt d 0 4 = 0x3147504B)
    (seq : fieldAt d 8 2 = expected) (fill : fieldAt d 10 2 ≤ 31) (grown : known ≤ fieldAt d 10 2) :
    headerFault expected known (parseHeader d) = none := by
  rw [headerFault_eq, if_neg (not_not.mpr tag), if_neg (not_not.mpr seq), if_neg (Nat.not_lt.mpr fill),
    if_neg (Nat.not_lt.mpr grown)]

/-- R46, R47: the fetcher with a page that has passed its checks. -/
def Fetcher.takePage (f : Fetcher) (fill : Nat) : Fetcher :=
  { f with
    tracker := f.tracker ++ [⟨f.page, f.seq, 0, 0, false⟩], index := 0, fill, poll := 0,
    state := if fill = 0 then .fillPoll else .fetching }

theorem headerRead_of_good {s : State} {pl : Player} {d : BitVec 128}
    (good : headerFault (s.fetcher pl).seq 0 (parseHeader d) = none) :
    s.headerRead pl (some d) = (s.onFetcher pl (fun f => f.takePage (fieldAt d 10 2))).reserveNext pl := by
  unfold State.headerRead
  dsimp only
  rw [good]
  rfl

theorem fieldAt_whole (d : BitVec 32) : fieldAt d 0 4 = d.toNat := by
  simp [fieldAt, Nat.mod_eq_of_lt d.isLt]

end Sys2Proof.Machine

namespace Sys2Proof.Machine

/-! ### A page, its records and its link (R46, R47, R50, R51) -/

section walks
variable {s : State} {pl : Player} {r : FetchRead}

theorem fetcher_onFetcher_readBack (g : Fetcher → Fetcher) :
    ((s.readBack pl).onFetcher pl g).fetcher pl = g { s.fetcher pl with read := none } := by
  rw [← fetcher_readBack]; exact State.fetcher_setFetcher_same ..

theorem keeps_onFetcher_readBack (g : Fetcher → Fetcher) :
    Keeps [.bus, .fetcher pl] s ((s.readBack pl).onFetcher pl g) := (keeps_readBack s pl).onFetcher g

theorem bus_reserveNext (u : State) : (u.reserveNext pl).bus = u.bus := by
  rcases reserveNext_cases u pl with e | ⟨i, -, e⟩ <;> exact (congrArg State.bus e).trans rfl

/-- R46 to R48: a page that passes is taken, and its first record asked for if it has one and an entry is free. -/
theorem headerReadDone_effect {d : BitVec 128} (c : Carrying s (.fetch pl .header)) (read : (s.fetcher pl).read = some r)
    (live : r.discard = false) (unreserved : (s.fetcher pl).reserved = none)
    (good : headerFault (s.fetcher pl).seq 0 (parseHeader d) = none) :
    let fill := fieldAt d 10 2
    let g := { (s.fetcher pl).takePage fill with read := none }
    ∃ t, exec (.headerReadDone pl (some d)) s = .next t ∧ t.bus = Freed s.bus
      ∧ (fill = 0 ∨ (∀ i < (s.judge pl).pool.length, (s.entry pl i).state ≠ .free) →
          t.fetcher pl = g ∧ Keeps [.bus, .fetcher pl] s t)
      ∧ (∀ i, 0 < fill → (s.entry pl i).state = .free → i < (s.judge pl).pool.length →
          (∀ k < i, (s.entry pl k).state ≠ .free) →
          t.fetcher pl = { g with read := some ⟨.record, (s.fetcher pl).page + 0x10, false⟩, reserved := some i }
            ∧ t.judge pl = { s.judge pl with pool := (s.judge pl).pool.set i { Entry.blank with state := .reserved } }
            ∧ Keeps [.bus, .fetcher pl, .judge pl] s t) := by
  intro fill g
  have good' : headerFault ((s.readBack pl).fetcher pl).seq 0 (parseHeader d) = none := by rwa [fetcher_readBack]
  have taken : ((s.readBack pl).onFetcher pl (fun f => f.takePage fill)).fetcher pl = g := fetcher_onFetcher_readBack _
  have keeps : Keeps [.bus, .fetcher pl] s ((s.readBack pl).onFetcher pl (fun f => f.takePage fill)) :=
    keeps_onFetcher_readBack _
  refine ⟨_, (exec_headerReadDone c read live _).trans (congrArg _ (headerRead_of_good good')), bus_reserveNext _, ?_, ?_⟩
  · intro waits
    have same : ((s.readBack pl).onFetcher pl (fun f => f.takePage fill)).reserveNext pl
        = (s.readBack pl).onFetcher pl (fun f => f.takePage fill) := by
      rcases waits with empty | full
      · exact reserveNext_of_not (.inr (.inr (by rw [taken]; exact empty.le)))
      · exact reserveNext_of_full (freePlace_eq_none full)
    rw [same]
    exact ⟨taken, keeps⟩
  · intro i some free low least
    have place : (((s.readBack pl).onFetcher pl (fun f => f.takePage fill)).judge pl).freePlace = .some i :=
      freePlace_eq_some.mpr ⟨low, free, least⟩
    rw [reserveNext_of_free (by rw [taken]; exact if_neg some.ne') (by rw [taken]; exact some) (by rw [taken])
      (by rw [taken]; exact unreserved) place]
    refine ⟨?_, judge_reserved i, keeps_reserved (keeps.mono (by simp)) i⟩
    rw [fetcher_reserved, taken]
    rfl

theorem rereadHeader_of_good {d : BitVec 128}
    (good : headerFault (s.fetcher pl).seq (s.fetcher pl).fill (parseHeader d) = none) : s.rereadHeader pl (some d) =
      if fieldAt d 10 2 = (s.fetcher pl).fill then s.onFetcher pl (fun f => { f with poll := 0 })
      else (s.onFetcher pl (fun f => { f with poll := 0, fill := fieldAt d 10 2, state := .fetching })).reserveNext pl := by
  unfold State.rereadHeader
  dsimp only
  rw [good]
  rfl

theorem fetcher_reserveNext (u : State) : ∃ read reserved,
    (u.reserveNext pl).fetcher pl = { u.fetcher pl with read, reserved } := by
  rcases reserveNext_cases u pl with e | ⟨i, -, e⟩
  · exact ⟨_, _, congrArg (State.fetcher · pl) e⟩
  · exact ⟨_, _, (congrArg (State.fetcher · pl) e).trans (fetcher_reserved i)⟩

/-- R50: a re-read header with the fill it had, and with one that has grown. -/
theorem fillRereadDone_effect {d : BitVec 128} (c : Carrying s (.fetch pl .reread)) (read : (s.fetcher pl).read = some r)
    (live : r.discard = false) (good : headerFault (s.fetcher pl).seq (s.fetcher pl).fill (parseHeader d) = none) :
    ∃ t, exec (.fillRereadDone pl (some d)) s = .next t ∧ t.bus = Freed s.bus ∧ (t.fetcher pl).poll = 0
      ∧ ((s.fetcher pl).fill = fieldAt d 10 2 →
          t.fetcher pl = { s.fetcher pl with read := none, poll := 0 } ∧ Keeps [.bus, .fetcher pl] s t)
      ∧ ((s.fetcher pl).fill < fieldAt d 10 2 → (t.fetcher pl).state = .fetching ∧ (t.fetcher pl).fill = fieldAt d 10 2
          ∧ (t.fetcher pl).index = (s.fetcher pl).index ∧ Keeps [.bus, .fetcher pl, .judge pl] s t) := by
  have good' : headerFault ((s.readBack pl).fetcher pl).seq ((s.readBack pl).fetcher pl).fill (parseHeader d) = none := by
    rwa [fetcher_readBack]
  have runs := (exec_fillRereadDone c read live _).trans (congrArg _ (rereadHeader_of_good good'))
  rw [fetcher_readBack] at runs
  by_cases same : fieldAt d 10 2 = (s.fetcher pl).fill
  · rw [if_pos same] at runs
    refine ⟨_, runs, rfl, ?_, fun _ => ⟨fetcher_onFetcher_readBack _, keeps_onFetcher_readBack _⟩, fun less => ?_⟩
    · rw [fetcher_onFetcher_readBack]
    · omega
  · rw [if_neg same] at runs
    obtain ⟨_, _, after⟩ := fetcher_reserveNext (pl := pl)
      ((s.readBack pl).onFetcher pl (fun f => { f with poll := 0, fill := fieldAt d 10 2, state := .fetching }))
    rw [fetcher_onFetcher_readBack] at after
    refine ⟨_, runs, bus_reserveNext _, by rw [after], fun e => absurd e.symm same, fun _ => ?_⟩
    rw [after]
    exact ⟨rfl, rfl, rfl, keeps_reserveNext ((keeps_onFetcher_readBack _).mono (by simp))⟩

theorem linkRead_of_zero {d : BitVec 32} (zero : d = 0) : s.linkRead pl (some d) = s.onFetcher pl (fun f => { f with poll := 0 }) :=
  if_pos (by rw [zero]; rfl)

/-- R51: the fetcher that follows a link. -/
def Fetcher.follow (f : Fetcher) (link : Nat) : Fetcher :=
  { f with page := link, seq := (f.seq + 1) % 65536, index := 0, fill := 0, poll := 0, state := .pageWait }

theorem goodLink_iff {w : Window} {link : Nat} :
    w.goodLink link = true ↔ link % 16 = 0 ∧ w.low ≤ link ∧ link + 511 ≤ w.high :=
  decide_eq_true_iff.trans (and_congr_right' decide_eq_true_iff)

theorem linkRead_of_good {d : BitVec 32} (some : d ≠ 0) (good : s.window.goodLink d.toNat = true) :
    s.linkRead pl (.some d) = (s.onFetcher pl (fun f => f.follow d.toNat)).askHeader pl := by
  have link : fieldAt d 0 4 ≠ 0 := by rw [fieldAt_whole]; exact fun e => some (BitVec.eq_of_toNat_eq e)
  unfold State.linkRead
  dsimp only
  rw [if_neg link, fieldAt_whole, if_pos good]
  rfl

/-- R51: a link of 0 starts a new poll. -/
theorem linkReadDone_again {d : BitVec 32} (c : Carrying s (.fetch pl .link)) (read : (s.fetcher pl).read = some r)
    (live : r.discard = false) (zero : d = 0) :
    ∃ t, exec (.linkReadDone pl (some d)) s = .next t ∧ t.bus = Freed s.bus
      ∧ t.fetcher pl = { s.fetcher pl with read := none, poll := 0 } ∧ Keeps [.bus, .fetcher pl] s t :=
  ⟨_, (exec_linkReadDone c read live _).trans (congrArg _ (linkRead_of_zero zero)), rfl, fetcher_onFetcher_readBack _,
    keeps_onFetcher_readBack _⟩

/-- R46, R51: a good link leads to the next page, whose header is asked for if the tracker has room. -/
theorem linkReadDone_next {d : BitVec 32} (c : Carrying s (.fetch pl .link)) (read : (s.fetcher pl).read = some r)
    (live : r.discard = false) (some : d ≠ 0) (good : s.window.goodLink d.toNat = true) :
    ∃ t, exec (.linkReadDone pl (.some d)) s = .next t ∧ t.bus = Freed s.bus
      ∧ t.fetcher pl = { (s.fetcher pl).follow d.toNat with
          read := if (s.fetcher pl).tracker.length < 8 then .some ⟨.header, d.toNat, false⟩ else none }
      ∧ Keeps [.bus, .fetcher pl] s t := by
  have runs := (exec_linkReadDone c read live _).trans (congrArg _ (linkRead_of_good (s := s.readBack pl) some good))
  have taken : ((s.readBack pl).onFetcher pl (fun f => f.follow d.toNat)).fetcher pl
      = { (s.fetcher pl).follow d.toNat with read := none } := fetcher_onFetcher_readBack _
  by_cases room : (s.fetcher pl).tracker.length < 8
  · rw [askHeader_of_wait (by rw [taken]; rfl) (by rw [taken]) (by rw [taken]; exact room)] at runs
    refine ⟨_, runs, rfl, ?_, (keeps_onFetcher_readBack _).onFetcher _⟩
    rw [if_pos room]
    refine (State.fetcher_setFetcher_same ..).trans ?_
    rw [taken]
    rfl
  · rw [askHeader_of_not (.inr (.inr (by rw [taken]; exact Nat.not_lt.mp room)))] at runs
    refine ⟨_, runs, rfl, ?_, keeps_onFetcher_readBack _⟩
    rw [if_neg room, taken]

end walks

end Sys2Proof.Machine

namespace Sys2Proof.Machine

/-! ### Taking a record (R49) -/

/-- A fetcher with everything blanked that taking a record may change. -/
def Fetcher.unwalked (f : Fetcher) : Fetcher :=
  { f with
    state := .idle, index := 0, poll := 0, read := none, reserved := none, inHand := none, tracker := [],
    roomReport := false, recordsTaken := 0 }

/-- `t` is `u` after a record has been taken: the fetcher has gone on, and one entry at most has been reserved. -/
structure Taken (u t : State) (pl : Player) : Prop where
  took : TookRecord (u.fetcher pl) (t.fetcher pl)
  fetcher : (t.fetcher pl).unwalked = (u.fetcher pl).unwalked
  judge : ∃ pool, t.judge pl = { u.judge pl with pool }
  entry : ∀ k, (u.entry pl k).state ≠ .free → t.entry pl k = u.entry pl k
  keeps : Keeps [.judge pl, .fetcher pl] u t

/-- R113: a step of the judge that fails nobody closes no stage. -/
theorem endJudgeStep_of_standing {s : State} {pl : Player} (h : (s.scoreUnit pl).outcome ≠ .failed) :
    s.endJudgeStep pl = s := if_neg (fun k => h k.2)

section taking
variable {u : State} {pl : Player}

theorem judge_reserveNext (v : State) : ∃ pool, (v.reserveNext pl).judge pl = { v.judge pl with pool } := by
  rcases reserveNext_cases v pl with e | ⟨i, -, e⟩
  · exact ⟨_, congrArg (State.judge · pl) e⟩
  · exact ⟨_, (congrArg (State.judge · pl) e).trans (judge_reserved i)⟩

/-- The entry reserved next was FREE, so every entry in use stays as it is. -/
theorem entry_reserveNext {v : State} {k : Nat} (used : (v.entry pl k).state ≠ .free) :
    (v.reserveNext pl).entry pl k = v.entry pl k := by
  rcases reserveNext_cases v pl with e | ⟨i, place, e⟩
  · rw [e]
  · have other : k ≠ i := by rintro rfl; exact used (freePlace_eq_some.mp place).2.1
    rw [e]
    exact entry_onEntry_ne _ other

section goesOn
variable (walks : (u.fetcher pl).state = .fetching ∨ (u.fetcher pl).state = .stalled)
include walks

theorem continueFetch_of_more (more : (u.fetcher pl).index < (u.fetcher pl).fill) :
    u.continueFetch pl = (u.onFetcher pl (fun f => { f with state := .fetching })).reserveNext pl :=
  (if_pos walks).trans (if_pos more)

theorem continueFetch_of_page (all : (u.fetcher pl).fill ≤ (u.fetcher pl).index) (page : (u.fetcher pl).index < 31) :
    u.continueFetch pl = u.onFetcher pl (fun f => { f with state := .fillPoll, poll := 0 }) :=
  (if_pos walks).trans ((if_neg (Nat.not_lt.mpr all)).trans (if_pos page))

theorem continueFetch_of_link (all : (u.fetcher pl).fill ≤ (u.fetcher pl).index) (full : 31 ≤ (u.fetcher pl).index) :
    u.continueFetch pl = u.onFetcher pl (fun f => ({ f with state := .linkPoll, poll := 0 }).askFor .link (f.page + 4)) :=
  (if_pos walks).trans ((if_neg (Nat.not_lt.mpr all)).trans (if_neg (Nat.not_lt.mpr full)))

/-- R49: a record is taken by a fetcher that walks, and the fetcher goes on. -/
theorem taken_takeRecord (standing : (u.scoreUnit pl).outcome ≠ .failed) : Taken u (u.takeRecord pl) pl := by
  have taken : (u.onFetcher pl Fetcher.take).fetcher pl = (u.fetcher pl).take := State.fetcher_setFetcher_same ..
  have fetcher (g : Fetcher → Fetcher) : ((u.onFetcher pl Fetcher.take).onFetcher pl g).fetcher pl
      = g (u.fetcher pl).take := taken ▸ State.fetcher_setFetcher_same ..
  have keeps (g : Fetcher → Fetcher) : Keeps [.judge pl, .fetcher pl] u ((u.onFetcher pl Fetcher.take).onFetcher pl g) :=
    ((Keeps.refl u).onFetcher _).onFetcher g
  have walks' : ((u.onFetcher pl Fetcher.take).fetcher pl).state = .fetching
      ∨ ((u.onFetcher pl Fetcher.take).fetcher pl).state = .stalled := by rw [taken]; exact walks
  rw [show u.takeRecord pl = (u.onFetcher pl Fetcher.take).continueFetch pl from
    congrArg (State.continueFetch · pl) (endJudgeStep_of_standing standing)]
  rcases Nat.lt_or_ge ((u.fetcher pl).index + 1) (u.fetcher pl).fill with more | all
  · rw [continueFetch_of_more walks' (by rw [taken]; exact more)]
    obtain ⟨_, _, after⟩ := fetcher_reserveNext (pl := pl)
      ((u.onFetcher pl Fetcher.take).onFetcher pl (fun f => { f with state := .fetching }))
    rw [fetcher] at after
    refine ⟨?_, by rw [after]; rfl, judge_reserveNext _, fun k used => entry_reserveNext used, keeps_reserveNext (keeps _)⟩
    rw [after]
    exact ⟨rfl, rfl, rfl, rfl, rfl, rfl, rfl, rfl, fun _ => rfl, fun h => absurd more (Nat.not_lt.mpr h),
      fun h => absurd more (Nat.not_lt.mpr h), fun h => absurd more (Nat.not_lt.mpr h)⟩
  rcases Nat.lt_or_ge ((u.fetcher pl).index + 1) 31 with page | full
  · rw [continueFetch_of_page walks' (by rw [taken]; exact all) (by rw [taken]; exact page)]
    refine ⟨?_, by rw [fetcher]; rfl, ⟨_, rfl⟩, fun _ _ => rfl, keeps _⟩
    rw [fetcher]
    exact ⟨rfl, rfl, rfl, rfl, rfl, rfl, rfl, rfl, fun h => absurd h (Nat.not_lt.mpr all), fun _ => rfl,
      fun _ _ => ⟨rfl, rfl⟩, fun _ h => absurd page (Nat.not_lt.mpr h)⟩
  · rw [continueFetch_of_link walks' (by rw [taken]; exact all) (by rw [taken]; exact full)]
    refine ⟨?_, by rw [fetcher]; rfl, ⟨_, rfl⟩, fun _ _ => rfl, keeps _⟩
    rw [fetcher]
    exact ⟨rfl, rfl, rfl, rfl, rfl, rfl, rfl, rfl, fun h => absurd h (Nat.not_lt.mpr all), fun _ => rfl,
      fun _ h => absurd h (Nat.not_lt.mpr full), fun _ _ => ⟨rfl, rfl, rfl⟩⟩

end goesOn

end taking

/-! ### A record as it is read (R48, R53 to R56) -/

/-- The pool entry of the record in the slot that the fetcher has read, before anything is decided about it. -/
def Fetcher.entryOf (f : Fetcher) (x : NoteRecord) (flags : ResultFlags) : Entry :=
  { Entry.blank with
    state := .reserved, record := x, addr := f.page + 0x10 + 16 * f.index, tracker := f.seq, slot := f.index, flags }

/-- The part with the record `x` in entry `i`, the fetcher's read being over. -/
def State.recordIn (s : State) (pl : Player) (i : Nat) (x : NoteRecord) (flags : ResultFlags) : State :=
  (s.readBack pl).onEntry pl i (fun _ => (s.fetcher pl).entryOf x flags)

/-- The part with the repaired record `x` in entry `i` and the running times moved on (R55). -/
def State.accepted (s : State) (pl : Player) (i : Nat) (x : NoteRecord) (flags : ResultFlags) : State :=
  (s.recordIn pl i x flags).onFetcher pl (fun f => f.runTimes x)

theorem onEntry_onEntry (s : State) (pl : Player) (i : Nat) (f g : Entry → Entry) :
    (s.onEntry pl i f).onEntry pl i g = s.onEntry pl i (g ∘ f) := by
  simp only [State.onEntry, State.onJudge, State.judge_setJudge_same, Judge.onEntry, List.modify_modify_eq]
  cases pl <;> rfl

section reading
variable {s : State} {pl : Player} {i : Nat} {x : NoteRecord} {flags : ResultFlags} {r : FetchRead} {d : BitVec 128}

theorem fetcher_recordIn : (s.recordIn pl i x flags).fetcher pl = { s.fetcher pl with read := none } := fetcher_readBack s pl

theorem judge_recordIn : (s.recordIn pl i x flags).judge pl =
    { s.judge pl with pool := (s.judge pl).pool.set i ((s.fetcher pl).entryOf x flags) } := by
  rw [List.set_eq_modify]; exact judge_onEntry (fun _ => (s.fetcher pl).entryOf x flags)

theorem entry_recordIn (low : i < (s.judge pl).pool.length) :
    (s.recordIn pl i x flags).entry pl i = (s.fetcher pl).entryOf x flags := entry_onEntry_same (s := s.readBack pl) _ low

theorem keeps_recordIn : Keeps [.bus, .judge pl, .fetcher pl] s (s.recordIn pl i x flags) :=
  ((keeps_readBack s pl).mono (by simp)).onEntry i _

theorem fetcher_accepted : (s.accepted pl i x flags).fetcher pl = { s.fetcher pl with read := none }.runTimes x := by
  rw [← fetcher_recordIn]; exact State.fetcher_setFetcher_same ..

theorem judge_accepted : (s.accepted pl i x flags).judge pl =
    { s.judge pl with pool := (s.judge pl).pool.set i ((s.fetcher pl).entryOf x flags) } := judge_recordIn

theorem entry_accepted (low : i < (s.judge pl).pool.length) :
    (s.accepted pl i x flags).entry pl i = (s.fetcher pl).entryOf x flags := entry_recordIn low

theorem keeps_accepted : Keeps [.bus, .judge pl, .fetcher pl] s (s.accepted pl i x flags) := keeps_recordIn.onFetcher _

theorem recordRead_of_reserved (reserved : (s.fetcher pl).reserved = some i) :
    (s.readBack pl).recordRead pl (some d) = (s.readBack pl).acceptRecord pl i (parseRecord d) := by
  have here : ((s.readBack pl).fetcher pl).reserved = some i := by rw [fetcher_readBack]; exact reserved
  unfold State.recordRead
  dsimp only
  rw [here]

/-- R48: the record as it is put into its entry. -/
theorem onEntry_readBack : (s.readBack pl).onEntry pl i (fun _ => { Entry.blank with
      state := .reserved, record := x, addr := recordAddr ((s.readBack pl).fetcher pl).page ((s.readBack pl).fetcher pl).index,
      tracker := ((s.readBack pl).fetcher pl).seq, slot := ((s.readBack pl).fetcher pl).index })
    = s.recordIn pl i x ResultFlags.clear := by rw [fetcher_readBack]; rfl

theorem acceptRecord_of_bad {k : FaultKind} (bad : (s.fetcher pl).recordFault (s.session pl).laneCount x = some k) :
    (s.readBack pl).acceptRecord pl i x = (s.recordIn pl i x ResultFlags.clear).voidRecord pl i k := by
  have fails : ((s.readBack pl).fetcher pl).recordFault (s.session pl).laneCount x = some k := by
    rw [fetcher_readBack]; exact bad
  unfold State.acceptRecord
  dsimp only
  rw [onEntry_readBack, show (s.recordIn pl i x ResultFlags.clear).session pl = s.session pl from rfl, fails]

theorem acceptRecord_of_good (good : (s.fetcher pl).recordFault (s.session pl).laneCount x = none) :
    (s.readBack pl).acceptRecord pl i x =
      ((s.accepted pl i (repairRecord x).1 (repairRecord x).2).assemblyTest pl (repairRecord x).1).dealRecord pl i := by
  have passes : ((s.readBack pl).fetcher pl).recordFault (s.session pl).laneCount x = none := by
    rw [fetcher_readBack]; exact good
  unfold State.acceptRecord
  dsimp only
  rw [onEntry_readBack, show (s.recordIn pl i x ResultFlags.clear).session pl = s.session pl from rfl, passes]
  dsimp only
  rw [State.recordIn, onEntry_onEntry]
  rfl

/-- R53, R54: a record that fails a check. -/
theorem recordReadDone_voids {k : FaultKind} (c : Carrying s (.fetch pl .record)) (read : (s.fetcher pl).read = some r)
    (live : r.discard = false) (reserved : (s.fetcher pl).reserved = some i)
    (bad : (s.fetcher pl).recordFault (s.session pl).laneCount (parseRecord d) = some k) :
    exec (.recordReadDone pl (some d)) s = .next ((s.recordIn pl i (parseRecord d) ResultFlags.clear).voidRecord pl i k) := by
  rw [exec_recordReadDone c read live, recordRead_of_reserved reserved, acceptRecord_of_bad bad]

/-- R53, R55, R56: a record that passes the checks is repaired and dealt with. -/
theorem recordReadDone_accepts (c : Carrying s (.fetch pl .record)) (read : (s.fetcher pl).read = some r)
    (live : r.discard = false) (reserved : (s.fetcher pl).reserved = some i)
    (good : (s.fetcher pl).recordFault (s.session pl).laneCount (parseRecord d) = none)
    (repaired : repairRecord (parseRecord d) = (x, flags)) : exec (.recordReadDone pl (some d)) s =
      .next (((s.accepted pl i x flags).assemblyTest pl x).dealRecord pl i) := by
  rw [exec_recordReadDone c read live, recordRead_of_reserved reserved, acceptRecord_of_good good, repaired]

/-- R56: the record in hand is dealt with again after a report. -/
theorem exec_stalledRecordRetry (op : s.run = .operating) (stalled : (s.fetcher pl).state = .stalled)
    (report : (s.fetcher pl).roomReport = true) (reserved : (s.fetcher pl).reserved = some i) :
    exec (.stalledRecordRetry pl) s = .next ((s.onFetcher pl (fun f => { f with roomReport := false })).dealRecord pl i) := by
  refine congrArg Host.Outcome.next ((whenOperating_of op _).trans ?_)
  unfold State.retryStalled
  dsimp only
  rw [reserved]
  exact if_pos ⟨stalled, report⟩

end reading

end Sys2Proof.Machine

namespace Sys2Proof.Machine

/-! ### A record that fails its checks (R53, R54) -/

section finals
variable {s : State} {pl : Player} {i : Nat}

/-- R71: an entry that becomes FINAL. -/
theorem entry_makeFinal (low : i < (s.judge pl).pool.length) :
    (s.makeFinal pl i).entry pl i = { s.entry pl i with state := .final } := entry_onEntry_same _ low

theorem entry_makeFinal_ne {k : Nat} (other : k ≠ i) : (s.makeFinal pl i).entry pl k = s.entry pl k := entry_onEntry_ne _ other

/-- R159: its result item joins the back of the write queue. -/
theorem writer_makeFinal : (s.makeFinal pl i).writer pl =
    { s.writer pl with queue := (s.writer pl).queue ++ [.result i] } := State.writer_setWriter_same ..

end finals

theorem laneBound_iff (k : RecordKind) : k.laneBound = true ↔ k = .tap ∨ k = .hold ∨ k = .avoid := by
  cases k <;> simp [RecordKind.laneBound]

theorem overlaps_iff (f : Fetcher) (x : NoteRecord) : f.overlaps x = true ↔
    laneTime f.laneLast x.lane = some x.time ∨ ∃ busy, laneTime f.holdBusy x.lane = some busy ∧ x.time ≤ busy := by
  simp [Fetcher.overlaps, Option.any_eq_true]

theorem early_iff (f : Fetcher) (x : NoteRecord) :
    f.lastTime.any (fun t => x.time < t) = true ↔ ∃ last, f.lastTime = some last ∧ x.time < last := by
  simp [Option.any_eq_true]

/-- The part with the record of entry `i` VOID and its fault logged, before it is taken (R54). -/
def State.voided (u : State) (pl : Player) (i : Nat) (k : FaultKind) : State :=
  let s := u.onEntry pl i (fun e =>
    { e with own := .void, unitGrade := .void, tail := .none, offset := 0, flags := ResultFlags.clear,
             chartNo := (u.fetcher pl).recordsTaken })
  ((s.makeFinal pl i).logFault k (some pl) (u.fetcher pl).seq (u.fetcher pl).index).onScore pl Score.recordFault

section voids
variable {u : State} {pl : Player} {i : Nat} (k : FaultKind)

theorem voidRecord_eq : u.voidRecord pl i k = (u.voided pl i k).takeRecord pl := rfl

theorem entry_voided (low : i < (u.judge pl).pool.length) : (u.voided pl i k).entry pl i = { u.entry pl i with
    state := .final, own := .void, unitGrade := .void, tail := .none, offset := 0, flags := ResultFlags.clear,
    chartNo := (u.fetcher pl).recordsTaken } := by
  refine (entry_makeFinal (by rw [length_pool_onEntry]; exact low)).trans ?_
  rw [entry_onEntry_same _ low]

theorem score_voided : (u.voided pl i k).scoreUnit pl = (u.scoreUnit pl).recordFault := State.scoreUnit_setScore_same ..

theorem keeps_voided : Keeps [.judge pl, .writer pl, .score pl, .notice, .fault] u (u.voided pl i k) :=
  ((((Keeps.refl u).onEntry i _).makeFinal i).logFault k (some pl) _ _ (by simp)).onScore _

theorem fetcher_voided : (u.voided pl i k).fetcher pl = u.fetcher pl := (keeps_voided k).2 (.fetcher pl) (by simp)

theorem writer_voided : (u.voided pl i k).writer pl = { u.writer pl with queue := (u.writer pl).queue ++ [.result i] } := by
  rw [State.voided, State.onScore, State.writer_setScore, State.writer_logFault, writer_makeFinal]
  rfl

theorem logged_voided : Logged u (u.voided pl i k) k (some pl) (u.fetcher pl).seq (u.fetcher pl).index u.clock.songTime 0 :=
  logged_logFault (u := State.makeFinal _ pl i) k (some pl) _ _ 0 rfl (BitVec.or_zero).symm rfl

/-- R54: a record is VOID at once, and taken. -/
theorem voidRecord_effect (low : i < (u.judge pl).pool.length)
    (walks : (u.fetcher pl).state = .fetching ∨ (u.fetcher pl).state = .stalled)
    (standing : (u.scoreUnit pl).outcome ≠ .failed) :
    (u.voidRecord pl i k).entry pl i = { u.entry pl i with
        state := .final, own := .void, unitGrade := .void, tail := .none, offset := 0, flags := ResultFlags.clear,
        chartNo := (u.fetcher pl).recordsTaken }
      ∧ (u.voidRecord pl i k).writer pl = { u.writer pl with queue := (u.writer pl).queue ++ [.result i] }
      ∧ Logged u (u.voidRecord pl i k) k (some pl) (u.fetcher pl).seq (u.fetcher pl).index u.clock.songTime 0
      ∧ (u.voidRecord pl i k).scoreUnit pl = (u.scoreUnit pl).recordFault
      ∧ TookRecord (u.fetcher pl) ((u.voidRecord pl i k).fetcher pl)
      ∧ ((u.voidRecord pl i k).fetcher pl).unwalked = (u.fetcher pl).unwalked
      ∧ Keeps [.judge pl, .fetcher pl, .writer pl, .score pl, .notice, .fault] u (u.voidRecord pl i k) := by
  have taken : Taken (u.voided pl i k) (u.voidRecord pl i k) pl := by
    rw [voidRecord_eq]
    exact taken_takeRecord (by rw [fetcher_voided]; exact walks) (by rw [score_voided]; exact standing)
  obtain ⟨took, same, -, kept, keeps⟩ := taken
  rw [fetcher_voided] at took same
  obtain ⟨fault, notice⟩ := logged_voided (u := u) (pl := pl) (i := i) k
  have entry := entry_voided k low
  refine ⟨(kept i (by rw [entry]; exact nofun)).trans entry, (keeps.2 (.writer pl) (by simp)).trans (writer_voided k),
    ⟨(keeps.2 .fault (by simp)).trans fault, (keeps.2 .notice (by simp)).trans notice⟩,
    (keeps.2 (.score pl) (by simp)).trans (score_voided k), took, same,
    ((keeps_voided k).mono (by simp)).trans (keeps.mono (by simp))⟩

end voids

/-- Settles O42: the first failing check names the fault of a record that is VOID at once; the repairs of an accepted one. -/
theorem faultyRecordsAndRepairs : Obligations.FaultyRecordsAndRepairs := by
  refine ⟨?faulty, ?repairs⟩
  case faulty =>
    intro s pl r i d c read live reserved low inUse fetching standing f x bound wrongLane early overlaps void
    have voids {k : FaultKind} (bad : f.recordFault (s.session pl).laneCount x = some k) : void k := by
      obtain ⟨entry, writer, ⟨fault, notice⟩, score, took, same, keeps⟩ :=
        voidRecord_effect (u := s.recordIn pl i x ResultFlags.clear) k (by rw [judge_recordIn, List.length_set]; exact low)
          (by rw [fetcher_recordIn]; exact .inl fetching) standing
      rw [entry_recordIn low, fetcher_recordIn] at entry
      rw [fetcher_recordIn] at fault took same
      refine ⟨_, recordReadDone_voids c read live reserved bad, entry, writer, ⟨fault, notice⟩, score, took,
        (congrArg Fetcher.lastTime same :), (congrArg Fetcher.laneLast same :), (congrArg Fetcher.holdBusy same :),
        (congrArg Fetcher.unitCounter same :), (congrArg Fetcher.assembly same :), keeps.2 .bus (by simp),
        (keeps_recordIn.mono (by simp)).trans (keeps.mono (by simp))⟩
    have lane : x.kind.laneBound = true ∧ (s.session pl).laneCount ≤ x.lane ↔ wrongLane := by rw [laneBound_iff]
    have order : f.lastTime.any (fun t => x.time < t) = true ↔ early := early_iff f x
    have overlap : x.kind.laneBound = true ∧ f.overlaps x = true ↔ overlaps := by rw [laneBound_iff, overlaps_iff]
    refine ⟨fun kind => voids ?_, fun kind wrong => voids ?_, fun kind right late => voids ?_, fun kind right timely both => voids ?_,
      fun right timely clear head size => voids ?_⟩
    · rw [Fetcher.recordFault, if_pos kind]
    · rw [Fetcher.recordFault, if_neg kind, if_pos (lane.mpr wrong)]
    · rw [Fetcher.recordFault, if_neg kind, if_neg (mt lane.mp right), if_pos (order.mpr late)]
    · rw [Fetcher.recordFault, if_neg kind, if_neg (mt lane.mp right), if_neg (mt order.mp timely), if_pos (overlap.mpr both)]
    · have kind : x.kind ≠ .unknown := by rcases head with h | h <;> rw [h] <;> exact nofun
      rw [Fetcher.recordFault, if_neg kind, if_neg (mt lane.mp right), if_neg (mt order.mp timely), if_neg (mt overlap.mp clear),
        if_pos ⟨head, size⟩]
  case repairs =>
    intro x _ _ chord clamped length
    have cut : clampLength x = length := rfl
    refine ⟨fun tap => ?_, fun hold long => ?_, fun hold short => ?_, fun tap hold => ?_⟩
    · rw [repairRecord, tap]; rfl
    · have stays : ¬ clampLength x < Config.shortestHold := Nat.not_lt.mpr long
      simp only [repairRecord, hold, stays, decide_false]
      rfl
    · have falls : clampLength x < Config.shortestHold := short
      simp only [repairRecord, hold, falls, decide_true]
      rfl
    · rw [repairRecord]
      cases kind : x.kind
      case tap => exact absurd kind tap
      case hold => exact absurd kind hold
      all_goals rfl

end Sys2Proof.Machine

namespace Sys2Proof.Machine

/-! ### Units and chords (R57 to R60) -/

/-- `w` is `u` but for the units given and the chord opened or joined: entries, the chord table, the unit counter, the
assembly and the count of units assigned. -/
structure Renumbered (u w : State) (pl : Player) : Prop where
  fetcher : w.fetcher pl = { u.fetcher pl with
    unitCounter := (w.fetcher pl).unitCounter, assembly := (w.fetcher pl).assembly }
  score : w.scoreUnit pl = { u.scoreUnit pl with assigned := (w.scoreUnit pl).assigned }
  judge : w.judge pl = { u.judge pl with pool := (w.judge pl).pool, chords := (w.judge pl).chords }
  length : (w.judge pl).pool.length = (u.judge pl).pool.length
  keeps : Keeps [.judge pl, .fetcher pl, .score pl] u w

section numbering
variable {u v w : State} {pl : Player} {i : Nat} {x : NoteRecord}

theorem Renumbered.refl (u : State) (pl : Player) : Renumbered u u pl := ⟨rfl, rfl, rfl, rfl, .refl u⟩

theorem Renumbered.trans (h : Renumbered u v pl) (k : Renumbered v w pl) : Renumbered u w pl :=
  ⟨by rw [k.fetcher, h.fetcher], by rw [k.score, h.score], by rw [k.judge, h.judge], k.length.trans h.length,
    h.keeps.trans k.keeps⟩

theorem Renumbered.onEntry (h : Renumbered u v pl) (i : Nat) (f : Entry → Entry) : Renumbered u (v.onEntry pl i f) pl :=
  h.trans ⟨rfl, rfl, by rw [judge_onEntry], length_pool_onEntry f, (Keeps.refl v).onEntry i f⟩

theorem judge_setChord (k : Fin 8) (c : Option Chord) :
    (u.setChord pl k c).judge pl = { u.judge pl with chords := (u.judge pl).chords.set k c } := State.judge_setJudge_same ..

theorem Renumbered.setChord (h : Renumbered u v pl) (k : Fin 8) (c : Option Chord) : Renumbered u (v.setChord pl k c) pl :=
  h.trans ⟨rfl, rfl, by rw [judge_setChord], by rw [judge_setChord], (Keeps.refl v).setChord k c⟩

theorem Renumbered.setAssembly (h : Renumbered u v pl) (a : Fetcher → Option Assembly) :
    Renumbered u (v.onFetcher pl (fun f => { f with assembly := a f })) pl :=
  h.trans ⟨by rw [State.onFetcher, State.fetcher_setFetcher_same], rfl, rfl, rfl, (Keeps.refl v).onFetcher _⟩

theorem bumpUnit_of_room (room : (u.fetcher pl).unitCounter < 65535) : u.bumpUnit pl =
    (u.onFetcher pl (fun f => { f with unitCounter := f.unitCounter + 1 })).onScore pl Score.assign := if_pos room

theorem bumpUnit_of_full (full : ¬ (u.fetcher pl).unitCounter < 65535) : u.bumpUnit pl = u := if_neg full

theorem keeps_bumpUnit : Keeps [.fetcher pl, .score pl] u (u.bumpUnit pl) := by
  unfold State.bumpUnit; split
  exacts [((Keeps.refl u).onFetcher _).onScore _, .refl u]

theorem fetcher_bumpUnit : (u.bumpUnit pl).fetcher pl = { u.fetcher pl with
    unitCounter := if (u.fetcher pl).unitCounter < 65535 then (u.fetcher pl).unitCounter + 1 else (u.fetcher pl).unitCounter } := by
  by_cases room : (u.fetcher pl).unitCounter < 65535
  · rw [bumpUnit_of_room room, if_pos room]
    exact State.fetcher_setFetcher_same u pl _
  · rw [bumpUnit_of_full room, if_neg room]

theorem score_bumpUnit : (u.bumpUnit pl).scoreUnit pl = { u.scoreUnit pl with
    assigned := if (u.fetcher pl).unitCounter < 65535 then min 65535 ((u.scoreUnit pl).assigned + 1)
      else (u.scoreUnit pl).assigned } := by
  by_cases room : (u.fetcher pl).unitCounter < 65535
  · rw [bumpUnit_of_room room, if_pos room]
    exact State.scoreUnit_setScore_same ..
  · rw [bumpUnit_of_full room, if_neg room]

theorem judge_bumpUnit : (u.bumpUnit pl).judge pl = u.judge pl := keeps_bumpUnit.2 (.judge pl) (by simp)

theorem entry_bumpUnit (k : Nat) : (u.bumpUnit pl).entry pl k = u.entry pl k := by rw [State.entry, judge_bumpUnit]; rfl

theorem Renumbered.bumpUnit (h : Renumbered u v pl) : Renumbered u (v.bumpUnit pl) pl :=
  h.trans ⟨by rw [fetcher_bumpUnit], by rw [score_bumpUnit], by rw [judge_bumpUnit], by rw [judge_bumpUnit],
    keeps_bumpUnit.mono (by simp)⟩

/-- The chord table entry that is taken is the first that is free (log entry 15). -/
theorem freeChord_eq_some {k : Fin 8} :
    (u.judge pl).freeChord = some k ↔ u.chord pl k = none ∧ ∀ j < k, u.chord pl j ≠ none := by
  unfold Judge.freeChord
  rw [List.find?_eq_some_iff_getElem]
  simp only [List.getElem_finRange, Option.isNone_iff_eq_none, Bool.not_eq_true', ← Bool.not_eq_true]
  refine and_congr_right (fun _ => ⟨?_, fun least => ⟨k.val, by simp, by simp, fun j before => ?_⟩⟩)
  · rintro ⟨n, low, rfl, least⟩ j before
    exact least j.val before
  · exact least ⟨j, by omega⟩ before

theorem freeChord_eq_none : (u.judge pl).freeChord = none ↔ ∀ k, u.chord pl k ≠ none := by
  simp [Judge.freeChord, List.find?_eq_none, State.chord]

/-- R57: a note standing alone takes its unit. -/
theorem numberHead_alone (alone : x.chord ≤ 1) :
    u.numberHead pl i x = (u.onEntry pl i (fun e => { e with unit := some (u.fetcher pl).unitCounter })).bumpUnit pl := if_pos alone

/-- R58: the first member opens its chord. -/
theorem numberHead_opens {k : Fin 8} (many : 2 ≤ x.chord) (closed : (u.fetcher pl).assembly = none)
    (place : (u.judge pl).freeChord = some k) : u.numberHead pl i x =
      ((((u.setChord pl k (some ⟨(u.fetcher pl).unitCounter, x.chord, 0, none, [i]⟩)).onFetcher pl (fun f =>
        { f with assembly := some ⟨k, x.chord, x.time, [x.lane], 1⟩ })).onEntry pl i (fun e =>
        { e with unit := some (u.fetcher pl).unitCounter, chord := some k })).bumpUnit pl) := by
  unfold State.numberHead
  dsimp only
  rw [if_neg (by omega), closed]
  dsimp only
  rw [place]

/-- R59: a further member joins the chord. -/
theorem numberHead_joins {a : Assembly} {c : Chord} (many : 2 ≤ x.chord) (opened : (u.fetcher pl).assembly = some a)
    (at' : u.chord pl a.chord = some c) : u.numberHead pl i x =
      ((u.setChord pl a.chord (some { c with members := c.members ++ [i] })).onFetcher pl (fun f =>
        { f with
          assembly := if a.found + 1 = a.size then none else
            some { a with lanes := a.lanes ++ [x.lane], found := a.found + 1 } })).onEntry pl i (fun e =>
        { e with unit := some c.unit, chord := some a.chord }) := by
  unfold State.numberHead
  dsimp only
  rw [if_neg (by omega), opened]
  dsimp only
  rw [at']

theorem renumbered_numberHead (u : State) (pl : Player) (i : Nat) (x : NoteRecord) : Renumbered u (u.numberHead pl i x) pl := by
  unfold State.numberHead; dsimp only; split
  · exact ((Renumbered.refl u pl).onEntry i _).bumpUnit
  · split
    · split
      · exact .refl u pl
      · exact ((((Renumbered.refl u pl).setChord _ _).setAssembly _).onEntry i _).bumpUnit
    · split
      · exact .refl u pl
      · exact (((Renumbered.refl u pl).setChord _ _).setAssembly _).onEntry i _

theorem renumbered_numberTail (u : State) (pl : Player) (i : Nat) (x : NoteRecord) : Renumbered u (u.numberTail pl i x) pl := by
  unfold State.numberTail; split
  exacts [((Renumbered.refl u pl).onEntry i _).bumpUnit, .refl u pl]

/-- R57: a HOLD takes its tail unit, any other record none. -/
theorem numberTail_of_hold (hold : x.kind = .hold) : u.numberTail pl i x =
    (u.onEntry pl i (fun e => { e with tailUnit := some (u.fetcher pl).unitCounter })).bumpUnit pl := if_pos hold

theorem numberTail_of_not (other : x.kind ≠ .hold) : u.numberTail pl i x = u := if_neg other

end numbering

section chordRead
variable {u : State} {pl : Player}

theorem chord_setChord_same (k : Fin 8) (c : Option Chord) : (u.setChord pl k c).chord pl k = c := by
  rw [State.chord, judge_setChord]; exact Tab.get_set_same ..

theorem chord_onEntry (i : Nat) (f : Entry → Entry) (k : Fin 8) : (u.onEntry pl i f).chord pl k = u.chord pl k := by
  rw [State.chord, judge_onEntry]; rfl

theorem chord_bumpUnit (k : Fin 8) : (u.bumpUnit pl).chord pl k = u.chord pl k := by rw [State.chord, judge_bumpUnit]; rfl

theorem entry_setChord (k : Fin 8) (c : Option Chord) (i : Nat) : (u.setChord pl k c).entry pl i = u.entry pl i := by
  rw [State.entry, judge_setChord]; rfl

/-- R57, R58: what opening a chord leaves. -/
theorem numberHead_opens_effect {i : Nat} {x : NoteRecord} {k : Fin 8} (low : i < (u.judge pl).pool.length)
    (many : 2 ≤ x.chord) (closed : (u.fetcher pl).assembly = none) (free : u.chord pl k = none)
    (least : ∀ j < k, u.chord pl j ≠ none) (room : (u.fetcher pl).unitCounter < 65535) :
    let t := u.numberHead pl i x
    t.chord pl k = some ⟨(u.fetcher pl).unitCounter, x.chord, 0, none, [i]⟩
      ∧ t.fetcher pl = { u.fetcher pl with
          assembly := some ⟨k, x.chord, x.time, [x.lane], 1⟩, unitCounter := (u.fetcher pl).unitCounter + 1 }
      ∧ t.entry pl i = { u.entry pl i with unit := some (u.fetcher pl).unitCounter, chord := some k }
      ∧ t.scoreUnit pl = { u.scoreUnit pl with assigned := min 65535 ((u.scoreUnit pl).assigned + 1) }
      ∧ Keeps [.judge pl, .fetcher pl, .score pl] u t := by
  have keeps := (renumbered_numberHead u pl i x).keeps
  have is := numberHead_opens (i := i) many closed (freeChord_eq_some.mpr ⟨free, least⟩)
  let v := (u.setChord pl k (some ⟨(u.fetcher pl).unitCounter, x.chord, 0, none, [i]⟩)).onFetcher pl (fun f =>
    { f with assembly := some ⟨k, x.chord, x.time, [x.lane], 1⟩ })
  have fetcher : v.fetcher pl = { u.fetcher pl with assembly := some ⟨k, x.chord, x.time, [x.lane], 1⟩ } :=
    State.fetcher_setFetcher_same ..
  have length : i < (v.judge pl).pool.length := by
    rw [show v.judge pl = (u.setChord pl k _).judge pl from rfl, judge_setChord]; exact low
  rw [is] at keeps ⊢
  refine ⟨?_, ?_, ?_, ?_, keeps⟩
  · rw [chord_bumpUnit, chord_onEntry]
    exact chord_setChord_same ..
  · rw [fetcher_bumpUnit, show State.fetcher (State.onEntry _ pl i _) pl = v.fetcher pl from rfl, fetcher]
    exact congrArg (fun n => { u.fetcher pl with assembly := some ⟨k, x.chord, x.time, [x.lane], 1⟩, unitCounter := n }) (if_pos room)
  · rw [entry_bumpUnit]
    refine (entry_onEntry_same _ length).trans ?_
    rw [show v.entry pl i = (u.setChord pl k _).entry pl i from rfl, entry_setChord]
  · rw [score_bumpUnit, show State.fetcher (State.onEntry _ pl i _) pl = v.fetcher pl from rfl, fetcher]
    exact congrArg (fun n => { u.scoreUnit pl with assigned := n }) (if_pos room)

/-- R59: what joining a chord leaves. -/
theorem numberHead_joins_effect {i : Nat} {x : NoteRecord} {a : Assembly} {c : Chord} (low : i < (u.judge pl).pool.length)
    (many : 2 ≤ x.chord) (opened : (u.fetcher pl).assembly = some a) (at' : u.chord pl a.chord = some c) :
    let t := u.numberHead pl i x
    t.chord pl a.chord = some { c with members := c.members ++ [i] }
      ∧ t.fetcher pl = { u.fetcher pl with
          assembly := if a.found + 1 = a.size then none
            else some { a with lanes := a.lanes ++ [x.lane], found := a.found + 1 } }
      ∧ t.entry pl i = { u.entry pl i with unit := some c.unit, chord := some a.chord }
      ∧ Keeps [.judge pl, .fetcher pl] u t := by
  rw [numberHead_joins many opened at']
  refine ⟨?_, State.fetcher_setFetcher_same .., ?_, (((Keeps.refl u).setChord _ _).onFetcher _).onEntry i _⟩
  · rw [chord_onEntry]
    exact chord_setChord_same ..
  · refine (entry_onEntry_same _ ?_).trans ?_
    · rw [show State.judge (State.onFetcher _ pl _) pl = (u.setChord pl a.chord _).judge pl from rfl, judge_setChord]; exact low
    · rw [show State.entry (State.onFetcher _ pl _) pl i = (u.setChord pl a.chord _).entry pl i from rfl, entry_setChord]

end chordRead

end Sys2Proof.Machine

namespace Sys2Proof.Machine

/-! ### Lateness and room (R56, R61, R65) -/

/-- The time from which a note or an avoid record whose window reaches `window` past its effective time is late (R61). -/
def State.lateFrom (s : State) (pl : Player) (x : NoteRecord) (window : Nat) : Int :=
  min 8388607 (x.time + (s.params pl).offset + window + s.laneDOn pl x.lane + 1)

section deciding
variable {s u : State} {pl : Player} {x : NoteRecord}

theorem isLate_iff : s.isLate pl x = true ↔ (s.session pl).state = .playing ∧
    ((x.kind = .tap ∨ x.kind = .hold) ∧ s.lateFrom pl x (s.params pl).thin.late ≤ s.clock.songTime
      ∨ x.kind = .avoid ∧ s.lateFrom pl x (s.params pl).avoidWindow ≤ s.clock.songTime
      ∨ x.kind = .beat ∧ x.time + (s.params pl).offset + 64 < s.clock.songTime) := by
  unfold State.isLate
  rw [Bool.and_eq_true, decide_eq_true_iff]
  refine and_congr_right (fun _ => ?_)
  cases x.kind <;> simp only [decide_eq_true_eq] <;>
    simp [State.lateFrom, lapseDueAt, avoidDueAt, capTime, Config.songMax, Config.beatLateness, min_comm]

theorem isLate_of_same (judge : (u.judge pl).params = (s.judge pl).params) (session : u.session pl = s.session pl)
    (pads : u.pads = s.pads) (clock : u.clock = s.clock) : u.isLate pl x = s.isLate pl x := by
  have lane : u.laneDOn pl x.lane = s.laneDOn pl x.lane := (laneD_congr (by rw [session]) pads _).1
  simp only [State.isLate, State.params, judge, session, lane, clock] <;> rfl

theorem lacksRoom_iff {late : Bool} : s.lacksRoom pl x late = true ↔
    ((x.kind = .tap ∨ x.kind = .hold) ∧ 2 ≤ x.chord ∧ (s.fetcher pl).assembly = none ∧ ∀ k, s.chord pl k ≠ none)
      ∨ (x.kind.laneBound = true ∧ late = false ∧ (s.params pl).depth ≤ ((s.judge pl).lane x.lane).length)
      ∨ (x.kind = .beat ∧ late = false ∧ 8 ≤ (s.judge pl).beats.length) := by
  have full : (s.judge pl).freeChord = none ↔ ∀ k, s.chord pl k ≠ none := freeChord_eq_none
  simp [State.lacksRoom, full, Config.beatListSize, and_assoc]

end deciding

/-! ### A record where it waits (R56, R62, R65) -/

theorem lane_joinLane (j : Judge) {lane : Nat} (within : lane < 12) (i l : Nat) :
    (j.joinLane lane i).lane l = if l = lane then j.lane l ++ [i] else j.lane l := by
  rw [Judge.joinLane, dif_pos within]
  unfold Judge.lane
  by_cases low : l < 12
  · simp only [dif_pos low, Tab.get_modify, Fin.mk.injEq]
  · rw [dif_neg low, dif_neg low, if_neg (by omega)]

theorem joinLane_eq (j : Judge) (lane i : Nat) : ∃ lanes, j.joinLane lane i = { j with lanes } := by
  unfold Judge.joinLane; split
  exacts [⟨_, rfl⟩, ⟨_, rfl⟩]

/-- The part with the head of a note, and the tail of a hold, numbered (R57 to R59). -/
def State.numbered (u : State) (pl : Player) (i : Nat) (x : NoteRecord) : State :=
  ((u.onEntry pl i (fun e => { e with chartNo := (u.fetcher pl).recordsTaken })).numberHead pl i x).numberTail pl i x

/-- The part with the record of entry `i` where it waits, before it is taken. -/
def State.stood (u : State) (pl : Player) (i : Nat) (x : NoteRecord) : State :=
  match x.kind with
  | .tap | .hold => (u.numbered pl i x).place pl i .waiting
  | .avoid => (u.onEntry pl i (fun e => { e with chartNo := (u.fetcher pl).recordsTaken })).place pl i .watching
  | .beat => (u.onEntry pl i (fun e => { e with chartNo := (u.fetcher pl).recordsTaken })).placeBeat pl i
  | .chartEnd | .unknown => u

section standing
variable {u w : State} {pl : Player} {i : Nat} {x : NoteRecord}

theorem renumbered_numbered : Renumbered u (u.numbered pl i x) pl :=
  ((Renumbered.refl u pl).onEntry i _).trans ((renumbered_numberHead _ pl i x).trans (renumbered_numberTail _ pl i x))

/-- R56, step 5: a record in time with room is placed and taken. -/
theorem dealRecord_of_room (record : (u.entry pl i).record = x) (timely : u.isLate pl x = false)
    (room : u.lacksRoom pl x false = false) (kind : x.kind ≠ .chartEnd ∧ x.kind ≠ .unknown) :
    u.dealRecord pl i = (u.stood pl i x).takeRecord pl := by
  unfold State.dealRecord
  dsimp only
  rw [record, timely, if_neg (by rw [room]; exact Bool.false_ne_true)]
  unfold State.takeAccepted State.stood
  cases k : x.kind
  case chartEnd => exact absurd k kind.1
  case unknown => exact absurd k kind.2
  all_goals rfl

/-- R56, step 4: a record without room is in hand. -/
theorem dealRecord_of_noRoom (record : (u.entry pl i).record = x) (timely : u.isLate pl x = false)
    (full : u.lacksRoom pl x false = true) : u.dealRecord pl i = u.stall pl x := by
  unfold State.dealRecord
  dsimp only
  rw [record, timely, if_pos full]

/-- What placing in a lane leaves (R62). -/
theorem entry_place (st : EntryState) (low : i < (w.judge pl).pool.length) :
    (w.place pl i st).entry pl i = { w.entry pl i with state := st } := by
  obtain ⟨_, joined⟩ := joinLane_eq ((w.onEntry pl i (fun e => { e with state := st })).judge pl) (w.entry pl i).record.lane i
  rw [← entry_onEntry_same (fun e => { e with state := st }) low]
  refine (congrArg (Judge.entry · i) ((State.judge_setJudge_same ..).trans joined)).trans rfl

theorem judge_place (st : EntryState) : (w.place pl i st).judge pl =
    { (w.judge pl).joinLane (w.entry pl i).record.lane i with pool := ((w.place pl i st).judge pl).pool } := by
  rw [State.place, State.onJudge, State.judge_setJudge_same, judge_onEntry]
  unfold Judge.joinLane; split <;> rfl

theorem keeps_place (st : EntryState) : Keeps [.judge pl] w (w.place pl i st) := ((Keeps.refl w).onEntry i _).onJudge _

theorem judge_placeBeat : (w.placeBeat pl i).judge pl =
    { w.judge pl with
      pool := (w.judge pl).pool.modify i (fun e => { e with state := .scheduled }), beats := (w.judge pl).beats ++ [i] } := by
  rw [State.placeBeat, State.onJudge, State.judge_setJudge_same, judge_onEntry]

theorem entry_placeBeat (low : i < (w.judge pl).pool.length) :
    (w.placeBeat pl i).entry pl i = { w.entry pl i with state := .scheduled } := by
  rw [State.entry, judge_placeBeat, ← entry_onEntry_same (fun e => { e with state := .scheduled }) low, State.entry, judge_onEntry]
  rfl

theorem keeps_placeBeat : Keeps [.judge pl] w (w.placeBeat pl i) := ((Keeps.refl w).onEntry i _).onJudge _

end standing

end Sys2Proof.Machine

namespace Sys2Proof.Machine

/-! ### What the numbering of a note leaves (R57 to R59) -/

section numbers
variable {u : State} {pl : Player} {i : Nat} {x : NoteRecord}

/-- R57: what a HOLD's tail unit leaves. -/
theorem numberTail_effect (low : i < (u.judge pl).pool.length) :
    (u.numberTail pl i x).entry pl i = { u.entry pl i with
        tailUnit := if x.kind = .hold then some (u.fetcher pl).unitCounter else (u.entry pl i).tailUnit }
      ∧ ((u.numberTail pl i x).fetcher pl).unitCounter =
        (if x.kind = .hold ∧ (u.fetcher pl).unitCounter < 65535 then (u.fetcher pl).unitCounter + 1
          else (u.fetcher pl).unitCounter)
      ∧ ((u.numberTail pl i x).scoreUnit pl).assigned =
        (if x.kind = .hold ∧ (u.fetcher pl).unitCounter < 65535 then min 65535 ((u.scoreUnit pl).assigned + 1)
          else (u.scoreUnit pl).assigned)
      ∧ ((u.numberTail pl i x).fetcher pl).assembly = (u.fetcher pl).assembly
      ∧ ∀ k, (u.numberTail pl i x).chord pl k = u.chord pl k := by
  by_cases hold : x.kind = .hold
  · rw [numberTail_of_hold hold, entry_bumpUnit, entry_onEntry_same _ low, fetcher_bumpUnit, score_bumpUnit]
    refine ⟨?_, ?_, ?_, rfl, fun k => by rw [chord_bumpUnit, chord_onEntry]⟩
    · rw [if_pos hold]
    · simp only [hold, true_and]; rfl
    · simp only [hold, true_and]; rfl
  · rw [numberTail_of_not hold]
    simp only [hold, false_and, if_false, true_and, implies_true]

/-- R57: the units of a note standing alone, up to the counter's end. -/
theorem numbered_alone (low : i < (u.judge pl).pool.length) (alone : x.chord ≤ 1) (counter : (u.fetcher pl).unitCounter ≤ 65535)
    (assigned : (u.scoreUnit pl).assigned ≤ 65535) :
    let after := min 65535 ((u.fetcher pl).unitCounter + if x.kind = .hold then 2 else 1)
    (u.numbered pl i x).entry pl i = { u.entry pl i with
        unit := some (u.fetcher pl).unitCounter, chartNo := (u.fetcher pl).recordsTaken,
        tailUnit := if x.kind = .hold then some (min 65535 ((u.fetcher pl).unitCounter + 1)) else (u.entry pl i).tailUnit }
      ∧ ((u.numbered pl i x).fetcher pl).unitCounter = after
      ∧ ((u.numbered pl i x).scoreUnit pl).assigned
        = min 65535 ((u.scoreUnit pl).assigned + (after - (u.fetcher pl).unitCounter))
      ∧ ((u.numbered pl i x).fetcher pl).assembly = (u.fetcher pl).assembly := by
  intro after
  let v := u.onEntry pl i (fun e => { e with chartNo := (u.fetcher pl).recordsTaken })
  let h := (v.onEntry pl i (fun e => { e with unit := some (v.fetcher pl).unitCounter })).bumpUnit pl
  have length : i < (v.judge pl).pool.length := by rw [length_pool_onEntry]; exact low
  have head : u.numbered pl i x = h.numberTail pl i x := congrArg (State.numberTail · pl i x) (numberHead_alone alone)
  have entry : h.entry pl i = { u.entry pl i with
      unit := some (u.fetcher pl).unitCounter, chartNo := (u.fetcher pl).recordsTaken } := by
    rw [entry_bumpUnit, entry_onEntry_same _ length, entry_onEntry_same _ low]
    rfl
  have bumped : (h.fetcher pl).unitCounter = min 65535 ((u.fetcher pl).unitCounter + 1) := by
    rw [fetcher_bumpUnit]
    show (if (u.fetcher pl).unitCounter < 65535 then (u.fetcher pl).unitCounter + 1 else (u.fetcher pl).unitCounter) = _
    split <;> omega
  have counted : (h.scoreUnit pl).assigned =
      if (u.fetcher pl).unitCounter < 65535 then min 65535 ((u.scoreUnit pl).assigned + 1) else (u.scoreUnit pl).assigned := by
    rw [score_bumpUnit]; rfl
  have assembly : (h.fetcher pl).assembly = (u.fetcher pl).assembly := by rw [fetcher_bumpUnit]; rfl
  obtain ⟨tail, unitCounter, units, same, -⟩ := numberTail_effect (u := h) (i := i) (x := x)
    (by rw [judge_bumpUnit, length_pool_onEntry]; exact length)
  rw [head]
  refine ⟨by rw [tail, entry, bumped], ?_, ?_, same.trans assembly⟩
  · rw [unitCounter, bumped]
    by_cases hold : x.kind = .hold
    · simp only [after, hold, true_and, if_true]
      split <;> omega
    · simp only [after, hold, false_and, if_false]
  · rw [units, bumped, counted]
    by_cases hold : x.kind = .hold
    · simp only [after, hold, true_and, if_true]
      split <;> split <;> omega
    · simp only [after, hold, false_and, if_false]
      split <;> omega

end numbers

/-! ### A record offered to the judge (R53, R56)

A record reaches the judge by the end of its read or by a retry from STALLED. Either way it stands in its RESERVED entry, and
nothing else has changed but the fetcher's running times, its read and its report. -/

/-- A fetcher with everything blanked that offering a record may change. -/
def Fetcher.untimed (f : Fetcher) : Fetcher :=
  { f with
    read := none, lastTime := none, laneLast := Fetcher.reset.laneLast, holdBusy := Fetcher.reset.holdBusy,
    roomReport := false }

/-- `u` is `s` with the record of `e` offered in entry `i`; `more` is the bus if its read has ended. -/
structure Offered (s u : State) (pl : Player) (i : Nat) (e : Entry) (more : List Part) : Prop where
  entry : u.entry pl i = e
  low : i < (u.judge pl).pool.length
  judge : ∃ pool, u.judge pl = { s.judge pl with pool }
  fetcher : (u.fetcher pl).untimed = (s.fetcher pl).untimed
  walks : (u.fetcher pl).state = .fetching ∨ (u.fetcher pl).state = .stalled
  pads : u.pads = s.pads
  keeps : Keeps ([.judge pl, .fetcher pl] ++ more) s u
  apart : more ⊆ [.bus]

/-- What is taken after a fetcher has been offered a record is taken after it stood before. -/
theorem TookRecord.of_untimed {f g h : Fetcher} (took : TookRecord f h) (same : f.untimed = g.untimed) : TookRecord g h := by
  have blanked : TookRecord f.untimed h := took
  rw [same] at blanked
  exact blanked

theorem offered_accepted {s : State} {pl : Player} {i : Nat} (x : NoteRecord) (flags : ResultFlags)
    (low : i < (s.judge pl).pool.length) (fetching : (s.fetcher pl).state = .fetching) :
    Offered s (s.accepted pl i x flags) pl i ((s.fetcher pl).entryOf x flags) [.bus] where
  entry := entry_accepted low
  low := by rw [judge_accepted, List.length_set]; exact low
  judge := ⟨_, judge_accepted⟩
  fetcher := by rw [fetcher_accepted]; rfl
  walks := by rw [fetcher_accepted]; exact .inl fetching
  pads := rfl
  keeps := keeps_accepted.mono (by simp)
  apart := List.Subset.refl _

theorem offered_retry {s : State} {pl : Player} {i : Nat} (low : i < (s.judge pl).pool.length)
    (stalled : (s.fetcher pl).state = .stalled) :
    Offered s (s.onFetcher pl (fun f => { f with roomReport := false })) pl i (s.entry pl i) [] where
  entry := rfl
  low := low
  judge := ⟨_, rfl⟩
  fetcher := by rw [State.onFetcher, State.fetcher_setFetcher_same]; rfl
  walks := by rw [State.onFetcher, State.fetcher_setFetcher_same]; exact .inr stalled
  pads := rfl
  keeps := (Keeps.refl s).onFetcher _
  apart := List.nil_subset _

namespace Offered

variable {s u v : State} {pl : Player} {i : Nat} {e e' : Entry} {more : List Part} {x : NoteRecord}

theorem same (o : Offered s u pl i e more) (p : Part) (n : p ∉ [.bus, .judge pl, .fetcher pl]) : Part.same s u p := by
  refine o.keeps.2 p (fun k => n ?_)
  rcases List.mem_append.mp k with k | k
  · exact List.mem_cons_of_mem _ k
  · exact List.mem_cons.mpr (.inl (List.mem_singleton.mp (o.apart k)))

theorem score (o : Offered s u pl i e more) : u.scoreUnit pl = s.scoreUnit pl := o.same (.score pl) (by simp)
theorem session (o : Offered s u pl i e more) : u.session pl = s.session pl := o.same (.session pl) (by simp)
theorem writer (o : Offered s u pl i e more) : u.writer pl = s.writer pl := o.same (.writer pl) (by simp)
theorem clock (o : Offered s u pl i e more) : u.clock = s.clock := o.same .clock (by simp)
theorem counter (o : Offered s u pl i e more) : (u.fetcher pl).unitCounter = (s.fetcher pl).unitCounter :=
  (congrArg Fetcher.unitCounter o.fetcher :)
theorem assembly (o : Offered s u pl i e more) : (u.fetcher pl).assembly = (s.fetcher pl).assembly :=
  (congrArg Fetcher.assembly o.fetcher :)
theorem recordsTaken (o : Offered s u pl i e more) : (u.fetcher pl).recordsTaken = (s.fetcher pl).recordsTaken :=
  (congrArg Fetcher.recordsTaken o.fetcher :)

theorem params (o : Offered s u pl i e more) : u.params pl = s.params pl := by
  obtain ⟨_, judge⟩ := o.judge
  rw [State.params, judge]; rfl

theorem lane (o : Offered s u pl i e more) (l : Nat) : (u.judge pl).lane l = (s.judge pl).lane l := by
  obtain ⟨_, judge⟩ := o.judge
  rw [judge]; rfl

theorem beats (o : Offered s u pl i e more) : (u.judge pl).beats = (s.judge pl).beats := by
  obtain ⟨_, judge⟩ := o.judge
  rw [judge]

theorem chord (o : Offered s u pl i e more) (k : Fin 8) : u.chord pl k = s.chord pl k := by
  obtain ⟨_, judge⟩ := o.judge
  rw [State.chord, judge]; rfl

theorem isLate (o : Offered s u pl i e more) (x : NoteRecord) : u.isLate pl x = s.isLate pl x :=
  isLate_of_same o.params o.session o.pads o.clock

theorem lacksRoom (o : Offered s u pl i e more) (x : NoteRecord) (late : Bool) : u.lacksRoom pl x late = s.lacksRoom pl x late := by
  rw [Bool.eq_iff_iff, lacksRoom_iff, lacksRoom_iff, o.assembly, o.params, o.lane, o.beats]
  simp only [o.chord]

/-- A record placed in `v` without a change to anything but the judge, the units and the assembly is taken. -/
theorem taken (o : Offered s u pl i e more) (standing : (s.scoreUnit pl).outcome ≠ .failed)
    (entry : v.entry pl i = e') (used : e'.state ≠ .free)
    (fetcher : v.fetcher pl = { u.fetcher pl with
      unitCounter := (v.fetcher pl).unitCounter, assembly := (v.fetcher pl).assembly })
    (score : v.scoreUnit pl = { u.scoreUnit pl with assigned := (v.scoreUnit pl).assigned })
    (keeps : Keeps [.judge pl, .fetcher pl, .score pl] u v) :
    (v.takeRecord pl).entry pl i = e' ∧ (∃ pool, (v.takeRecord pl).judge pl = { v.judge pl with pool })
      ∧ TookRecord (s.fetcher pl) ((v.takeRecord pl).fetcher pl)
      ∧ ((v.takeRecord pl).fetcher pl).unwalked = { u.fetcher pl with
          unitCounter := (v.fetcher pl).unitCounter, assembly := (v.fetcher pl).assembly }.unwalked
      ∧ (v.takeRecord pl).scoreUnit pl = { s.scoreUnit pl with assigned := (v.scoreUnit pl).assigned }
      ∧ (v.takeRecord pl).bus = u.bus
      ∧ Keeps ([.judge pl, .fetcher pl, .score pl] ++ more) s (v.takeRecord pl) := by
  obtain ⟨took, same, judge, kept, rest⟩ := taken_takeRecord (u := v) (pl := pl) (by rw [fetcher]; exact o.walks)
    (by rw [score, o.score]; exact standing)
  have took' : TookRecord (u.fetcher pl) ((v.takeRecord pl).fetcher pl) := by
    rw [fetcher] at took; exact took
  refine ⟨(kept i (by rw [entry]; exact used)).trans entry, judge, TookRecord.of_untimed took' o.fetcher, by rw [same, ← fetcher], ?_, ?_, ?_⟩
  · rw [show (v.takeRecord pl).scoreUnit pl = v.scoreUnit pl from rest.2 (.score pl) (by simp), score, o.score]
  · exact Eq.trans (rest.2 .bus (by simp)) (keeps.2 .bus (by simp))
  · refine (o.keeps.mono ?_).trans ((keeps.mono (by simp)).trans (rest.mono (by simp)))
    exact List.append_subset.mpr ⟨by simp, List.subset_append_right ..⟩

end Offered

end Sys2Proof.Machine

namespace Sys2Proof.Machine

/-! ### A note or avoid record that waits in its lane (R56, R62) -/

/-- `t` is `s` after the record of entry `i`, offered and as `w` has numbered it, has been placed in `lane` and taken. -/
structure Stands (s w t : State) (pl : Player) (i lane : Nat) (st : EntryState) (more : List Part) : Prop where
  entry : t.entry pl i = { w.entry pl i with state := st }
  lanes : ∀ l, (t.judge pl).lane l = if l = lane then (s.judge pl).lane l ++ [i] else (s.judge pl).lane l
  beats : (t.judge pl).beats = (s.judge pl).beats
  chord : ∀ k, t.chord pl k = w.chord pl k
  took : TookRecord (s.fetcher pl) (t.fetcher pl)
  fetcher : (t.fetcher pl).unwalked = (w.fetcher pl).unwalked
  score : t.scoreUnit pl = { s.scoreUnit pl with assigned := (w.scoreUnit pl).assigned }
  bus : t.bus = w.bus
  keeps : Keeps ([.judge pl, .fetcher pl, .score pl] ++ more) s t

section standing
variable {s u w : State} {pl : Player} {i lane : Nat} {e : Entry} {more : List Part} {st : EntryState} {x : NoteRecord}

theorem Offered.stands (o : Offered s u pl i e more) (standing : (s.scoreUnit pl).outcome ≠ .failed) (r : Renumbered u w pl)
    (at' : (w.entry pl i).record.lane = lane) (within : lane < 12) (used : st ≠ .free) :
    Stands s w ((w.place pl i st).takeRecord pl) pl i lane st more := by
  have low : i < (w.judge pl).pool.length := by rw [r.length]; exact o.low
  have placed : (w.place pl i st).fetcher pl = w.fetcher pl := (keeps_place st).2 (.fetcher pl) (by simp)
  have scored : (w.place pl i st).scoreUnit pl = w.scoreUnit pl := (keeps_place st).2 (.score pl) (by simp)
  have judge := judge_place (w := w) (pl := pl) (i := i) st
  rw [at'] at judge
  obtain ⟨lanes, joined⟩ := joinLane_eq (w.judge pl) lane i
  obtain ⟨entry, ⟨pool, after⟩, took, walked, score, bus, keeps⟩ := o.taken standing (entry_place st low) used
    (by rw [placed]; exact r.fetcher) (by rw [scored]; exact r.score) (r.keeps.trans ((keeps_place st).mono (by simp)))
  refine ⟨entry, fun l => ?_, ?_, fun k => ?_, took, ?_, ?_, bus.trans (r.keeps.2 .bus (by simp) :).symm, keeps⟩
  · have before : (w.judge pl).lane l = (s.judge pl).lane l := by rw [r.judge]; exact o.lane l
    rw [after, judge, ← before]
    exact lane_joinLane (w.judge pl) within i l
  · rw [after, judge, joined]
    exact (congrArg Judge.beats r.judge).trans o.beats
  · rw [State.chord, after, judge, joined]; rfl
  · rw [walked, placed, ← r.fetcher]
  · rw [score, scored]

end standing

/-! ### A record that stands alone (R57, R62, R65) -/

/-- The record of entry `i` is placed where it waits for the judge, with units of its own if it is a note. -/
def State.PlacedAlone (s : State) (pl : Player) (i : Nat) (x : NoteRecord) (e : Entry) (t : State) : Prop :=
  let f := s.fetcher pl
  let head := x.kind = .tap ∨ x.kind = .hold
  let bound := head ∨ x.kind = .avoid
  let after := if x.kind = .hold then min 65535 (f.unitCounter + 2)
    else if x.kind = .tap then min 65535 (f.unitCounter + 1) else f.unitCounter
  t.entry pl i = { e with
      state := if head then .waiting else if x.kind = .avoid then .watching else .scheduled,
      unit := if head then some f.unitCounter else none,
      tailUnit := if x.kind = .hold then some (min 65535 (f.unitCounter + 1)) else none,
      chartNo := f.recordsTaken }
    ∧ (∀ l, (t.judge pl).lane l = if bound ∧ l = x.lane then (s.judge pl).lane l ++ [i] else (s.judge pl).lane l)
    ∧ (t.judge pl).beats = (if x.kind = .beat then (s.judge pl).beats ++ [i] else (s.judge pl).beats)
    ∧ (t.fetcher pl).unitCounter = after ∧ TookRecord f (t.fetcher pl) ∧ (t.fetcher pl).assembly = f.assembly
    ∧ t.scoreUnit pl = { s.scoreUnit pl with
        assigned :=
          if after = f.unitCounter then (s.scoreUnit pl).assigned
          else min 65535 (min 65535 ((s.scoreUnit pl).assigned) + (after - f.unitCounter)) }

/-- What the placing of an offered record leaves of it, of the running times and of the rest. -/
structure PlacedSo (s u t : State) (pl : Player) (i : Nat) (x : NoteRecord) (e : Entry) (more : List Part) : Prop where
  alone : s.PlacedAlone pl i x e t
  walked : (t.fetcher pl).unwalked = { u.fetcher pl with
    unitCounter := (t.fetcher pl).unitCounter, assembly := (t.fetcher pl).assembly }.unwalked
  bus : t.bus = u.bus
  keeps : Keeps ([.judge pl, .fetcher pl, .score pl] ++ more) s t

theorem Fetcher.unwalked_units {f g : Fetcher} {n : Nat} {a : Option Assembly}
    (h : f.unwalked = { g with unitCounter := n, assembly := a }.unwalked) :
    f.unwalked = { g with unitCounter := f.unitCounter, assembly := f.assembly }.unwalked := by
  have counter : f.unitCounter = n := (congrArg Fetcher.unitCounter h :)
  have assembly : f.assembly = a := (congrArg Fetcher.assembly h :)
  rw [h, counter, assembly]

/-- Numbering and taking leave a fetcher its running times. -/
theorem Stands.walked {s u w t : State} {pl : Player} {i lane : Nat} {st : EntryState} {more : List Part}
    (h : Stands s w t pl i lane st more) (r : Renumbered u w pl) : (t.fetcher pl).unwalked = { u.fetcher pl with
      unitCounter := (t.fetcher pl).unitCounter, assembly := (t.fetcher pl).assembly }.unwalked :=
  Fetcher.unwalked_units (by rw [h.fetcher, ← r.fetcher])

section alone
variable {s u : State} {pl : Player} {i : Nat} {e : Entry} {more : List Part} {x : NoteRecord}

/-- R62: a TAP or HOLD standing alone. -/
theorem Offered.places_note (o : Offered s u pl i e more) (standing : (s.scoreUnit pl).outcome ≠ .failed)
    (head : x.kind = .tap ∨ x.kind = .hold) (record : e.record = x) (chord : x.chord = 1) (within : x.lane < 12)
    (bare : e.tailUnit = none) (counter : (s.fetcher pl).unitCounter ≤ 65535) (assigned : (s.scoreUnit pl).assigned ≤ 65535) :
    PlacedSo s u ((u.stood pl i x).takeRecord pl) pl i x e more := by
  obtain ⟨entry, units, count, assembly⟩ := numbered_alone (u := u) (i := i) o.low chord.le
    (by rw [o.counter]; exact counter) (by rw [o.score]; exact assigned)
  rw [o.counter, o.recordsTaken, o.entry] at entry
  rw [o.counter] at units count
  have r := renumbered_numbered (u := u) (pl := pl) (i := i) (x := x)
  have stood : u.stood pl i x = (u.numbered pl i x).place pl i .waiting := by
    unfold State.stood
    rcases head with k | k <;> rw [k]
  rw [stood]
  have t := o.stands (st := .waiting) standing r (by rw [entry, ← record]) within (by simp)
  have counter' : (Fetcher.unwalked _).unitCounter = _ := congrArg Fetcher.unitCounter t.fetcher
  have assembly' : (Fetcher.unwalked _).assembly = _ := congrArg Fetcher.assembly t.fetcher
  refine ⟨⟨?_, fun l => ?_, ?_, counter'.trans (units.trans ?_), t.took, (assembly'.trans assembly).trans o.assembly, ?_⟩,
    t.walked r, t.bus.trans (r.keeps.2 .bus (by simp) :), t.keeps⟩
  · rw [t.entry, entry, if_pos head, if_pos head, bare]
  · simp only [t.lanes, head, true_or, true_and]
  · rw [t.beats, if_neg (by rcases head with k | k <;> simp [k])]
  · rcases head with k | k <;> simp [k]
  · rw [t.score, count, o.score]
    rcases head with k | k <;> simp only [k, reduceCtorEq, if_true, if_false] <;> congr 1 <;> split <;> omega

/-- R62: an AVOID. -/
theorem Offered.places_avoid (o : Offered s u pl i e more) (standing : (s.scoreUnit pl).outcome ≠ .failed)
    (avoid : x.kind = .avoid) (record : e.record = x) (within : x.lane < 12) (bare : e.unit = none ∧ e.tailUnit = none) :
    PlacedSo s u ((u.stood pl i x).takeRecord pl) pl i x e more := by
  obtain ⟨noUnit, noTail⟩ := bare
  let w := u.onEntry pl i (fun e => { e with chartNo := (u.fetcher pl).recordsTaken })
  have r : Renumbered u w pl := (Renumbered.refl u pl).onEntry i _
  have entry : w.entry pl i = { e with chartNo := (s.fetcher pl).recordsTaken } := by
    rw [entry_onEntry_same _ o.low, o.entry, o.recordsTaken]
  have stood : u.stood pl i x = w.place pl i .watching := by unfold State.stood; rw [avoid]
  rw [stood]
  have t := o.stands (st := .watching) standing r (by rw [entry, ← record]) within (by simp)
  have counter' : (Fetcher.unwalked _).unitCounter = _ := congrArg Fetcher.unitCounter t.fetcher
  have assembly' : (Fetcher.unwalked _).assembly = _ := congrArg Fetcher.assembly t.fetcher
  refine ⟨⟨?_, fun l => ?_, ?_, counter'.trans (o.counter.trans ?_), t.took, assembly'.trans o.assembly, ?_⟩,
    t.walked r, t.bus, t.keeps⟩
  · rw [t.entry, entry]
    simp [avoid, noUnit, noTail]
  · simp only [t.lanes, avoid, or_true, true_and]
  · rw [t.beats, avoid, if_neg (by simp)]
  · simp [avoid]
  · rw [t.score]
    simp only [avoid, reduceCtorEq, if_false, if_true]
    exact congrArg (fun n => { s.scoreUnit pl with assigned := n }) (congrArg Score.assigned o.score)

/-- R65: a BEAT in time. -/
theorem Offered.places_beat (o : Offered s u pl i e more) (standing : (s.scoreUnit pl).outcome ≠ .failed)
    (beat : x.kind = .beat) (bare : e.unit = none ∧ e.tailUnit = none) :
    PlacedSo s u ((u.stood pl i x).takeRecord pl) pl i x e more := by
  obtain ⟨noUnit, noTail⟩ := bare
  let w := u.onEntry pl i (fun e => { e with chartNo := (u.fetcher pl).recordsTaken })
  have low : i < (w.judge pl).pool.length := by rw [length_pool_onEntry]; exact o.low
  have stood : u.stood pl i x = w.placeBeat pl i := by unfold State.stood; rw [beat]
  rw [stood]
  obtain ⟨entry, ⟨pool, after⟩, took, walked, score, bus, keeps⟩ := o.taken (v := w.placeBeat pl i) standing
    ((entry_placeBeat low).trans (by rw [entry_onEntry_same _ o.low])) (by simp) rfl rfl
    (((Keeps.refl u).onEntry i _).trans (keeps_placeBeat.mono (by simp)))
  have counter' : (Fetcher.unwalked _).unitCounter = _ := congrArg Fetcher.unitCounter walked
  have assembly' : (Fetcher.unwalked _).assembly = _ := congrArg Fetcher.assembly walked
  refine ⟨⟨?_, fun l => ?_, ?_, counter'.trans (o.counter.trans ?_), took, assembly'.trans o.assembly, ?_⟩, ?_, bus, keeps⟩
  · rw [entry, o.entry, o.recordsTaken]
    simp [beat, noUnit, noTail]
  · rw [after, judge_placeBeat, if_neg (by simp [beat]), ← o.lane l]
    show (w.judge pl).lane l = _
    rw [judge_onEntry]; rfl
  · rw [after, judge_placeBeat, if_pos beat, ← o.beats]
    show (w.judge pl).beats ++ [i] = _
    rw [judge_onEntry]
  · simp [beat]
  · rw [score]
    simp only [beat, reduceCtorEq, if_false, if_true]
    exact congrArg (fun n => { s.scoreUnit pl with assigned := n }) (congrArg Score.assigned o.score)
  · exact Fetcher.unwalked_units walked

end alone

end Sys2Proof.Machine

namespace Sys2Proof.Machine

/-! ### Running times and the assembly test (R55, R60) -/

theorem laneTime_setLaneTime (t : Tab 12 (Option Int)) {lane : Nat} (within : lane < 12) (y : Int) (l : Nat) :
    laneTime (setLaneTime t lane y) l = if l = lane then some y else laneTime t l := by
  rw [setLaneTime, dif_pos within]
  unfold laneTime
  by_cases low : l < 12
  · simp only [dif_pos low, Tab.get_set, Fin.mk.injEq]
  · rw [dif_neg low, dif_neg low, if_neg (by omega)]

theorem laneLast_runTimes (f : Fetcher) {x : NoteRecord} (within : x.lane < 12) (l : Nat) :
    laneTime (f.runTimes x).laneLast l =
      if (x.kind = .tap ∨ x.kind = .hold ∨ x.kind = .avoid) ∧ l = x.lane then some x.time else laneTime f.laneLast l := by
  show laneTime (if x.kind.laneBound then _ else _) l = _
  by_cases bound : x.kind.laneBound = true
  · rw [if_pos bound, laneTime_setLaneTime _ within]
    simp only [(laneBound_iff _).mp bound, true_and]
  · rw [if_neg bound, if_neg (fun h => bound ((laneBound_iff _).mpr h.1))]

theorem holdBusy_runTimes (f : Fetcher) {x : NoteRecord} (within : x.lane < 12) (l : Nat) :
    laneTime (f.runTimes x).holdBusy l =
      if x.kind = .hold ∧ l = x.lane then some (x.time + x.length) else laneTime f.holdBusy l := by
  show laneTime (if x.kind = .hold then _ else _) l = _
  by_cases hold : x.kind = .hold
  · rw [if_pos hold, laneTime_setLaneTime _ within]
    simp only [hold, true_and]
  · rw [if_neg hold, if_neg (fun h => hold h.1)]

/-- R60: without an open chord, or with a record that may stand beside it, no chord is closed. -/
theorem assemblyTest_of_admitted {u : State} {pl : Player} {x : NoteRecord}
    (h : ∀ a, (u.fetcher pl).assembly = some a → (x.kind = .tap ∨ x.kind = .hold ∨ x.kind = .chartEnd) → a.admits x = true) :
    u.assemblyTest pl x = u := by
  unfold State.assemblyTest
  split
  · rfl
  · next a opened => exact if_neg (fun k => k.2 (h a opened k.1))

/-! ### Records placed alone, and stalled records -/

section alone
variable {s u : State} {pl : Player} {i : Nat} {e : Entry} {more : List Part} {x : NoteRecord} {flags : ResultFlags}

theorem Offered.places (o : Offered s u pl i e more) (standing : (s.scoreUnit pl).outcome ≠ .failed)
    (kind : ((x.kind = .tap ∨ x.kind = .hold) ∨ x.kind = .avoid) ∧ x.lane < 12 ∨ x.kind = .beat) (record : e.record = x)
    (chord : x.kind = .tap ∨ x.kind = .hold → x.chord = 1) (timely : s.isLate pl x = false)
    (room : s.lacksRoom pl x false = false) (bare : e.unit = none ∧ e.tailUnit = none)
    (counter : (s.fetcher pl).unitCounter ≤ 65535) (assigned : (s.scoreUnit pl).assigned ≤ 65535) :
    PlacedSo s u (u.dealRecord pl i) pl i x e more := by
  rw [dealRecord_of_room (by rw [o.entry, record]) (by rw [o.isLate, timely]) (by rw [o.lacksRoom, room])
    (by rcases kind with ⟨(k | k) | k, -⟩ | k <;> simp [k])]
  rcases kind with ⟨head | avoid, within⟩ | beat
  · exact o.places_note standing head record (chord head) within bare.2 counter assigned
  · exact o.places_avoid standing avoid record within bare
  · exact o.places_beat standing beat bare

/-- R61, R65: a record is in time. -/
theorem isLate_eq_false_of (inTime : (s.session pl).state ≠ .playing ∨
    (x.kind = .tap ∨ x.kind = .hold → s.clock.songTime < s.lateFrom pl x (s.params pl).thin.late)
      ∧ (x.kind = .avoid → s.clock.songTime < s.lateFrom pl x (s.params pl).avoidWindow)
      ∧ (x.kind = .beat → s.clock.songTime ≤ x.time + (s.params pl).offset + 64)) : s.isLate pl x = false := by
  rw [← Bool.not_eq_true, isLate_iff]
  rintro ⟨playing, late⟩
  obtain ⟨note, avoid, beat⟩ := inTime.resolve_left (fun h => h playing)
  rcases late with ⟨k, late⟩ | ⟨k, late⟩ | ⟨k, late⟩
  · exact absurd late (Int.not_le.mpr (note k))
  · exact absurd late (Int.not_le.mpr (avoid k))
  · exact absurd late (Int.not_lt.mpr (beat k))

/-- R56: a record that stands alone has room. -/
theorem lacksRoom_eq_false_of (alone : x.kind = .tap ∨ x.kind = .hold → x.chord ≤ 1 ∨ (s.fetcher pl).assembly ≠ none ∨ ∃ k, s.chord pl k = none)
    (lane : (x.kind = .tap ∨ x.kind = .hold) ∨ x.kind = .avoid → ((s.judge pl).lane x.lane).length < (s.params pl).depth)
    (beats : x.kind = .beat → (s.judge pl).beats.length < 8) : s.lacksRoom pl x false = false := by
  rw [← Bool.not_eq_true, lacksRoom_iff]
  rintro (⟨k, many, closed, full⟩ | ⟨k, -, full⟩ | ⟨k, -, full⟩)
  · rcases alone k with chord | opened | ⟨j, free⟩
    · omega
    · exact opened closed
    · exact full j free
  · exact absurd (lane (or_assoc.mpr ((laneBound_iff _).mp k))) (Nat.not_lt.mpr full)
  · exact absurd (beats k) (Nat.not_lt.mpr full)

/-- What an accepted record leaves the running times once it is placed. -/
theorem PlacedSo.times {t : State} (h : PlacedSo s (s.accepted pl i x flags) t pl i x e more) :
    (t.fetcher pl).lastTime = some x.time ∧ (t.fetcher pl).laneLast = ((s.fetcher pl).runTimes x).laneLast
      ∧ (t.fetcher pl).holdBusy = ((s.fetcher pl).runTimes x).holdBusy := by
  have walked := h.walked
  rw [fetcher_accepted] at walked
  exact ⟨(congrArg Fetcher.lastTime walked :), (congrArg Fetcher.laneLast walked :), (congrArg Fetcher.holdBusy walked :)⟩

theorem recordsArePlaced_alone (s : State) (pl : Player) (i : Nat) (x : NoteRecord) (flags : ResultFlags)
    (reserved : (s.fetcher pl).reserved = some i) (low : i < (s.judge pl).pool.length)
    (standing : (s.scoreUnit pl).outcome ≠ .failed) (closed : x.kind = .tap ∨ x.kind = .hold → (s.fetcher pl).assembly = none)
    (counter : (s.fetcher pl).unitCounter ≤ 65535) (timely : s.isLate pl x = false) (room : s.lacksRoom pl x false = false)
    (kind : ((x.kind = .tap ∨ x.kind = .hold) ∨ x.kind = .avoid) ∧ x.lane < 12 ∨ x.kind = .beat)
    (chord : x.kind = .tap ∨ x.kind = .hold → x.chord = 1) (assigned : (s.scoreUnit pl).assigned ≤ 65535) :
    let f := s.fetcher pl
    (∀ r d, Carrying s (.fetch pl .record) → f.read = some r → r.discard = false → f.state = .fetching →
      f.recordFault (s.session pl).laneCount (parseRecord d) = none → repairRecord (parseRecord d) = (x, flags) →
      ∃ t, exec (.recordReadDone pl (some d)) s = .next t
        ∧ s.PlacedAlone pl i x { Entry.blank with
            record := x, addr := f.page + 0x10 + 16 * f.index, tracker := f.seq, slot := f.index, flags } t
        ∧ (t.fetcher pl).lastTime = some x.time ∧ t.bus = Freed s.bus
        ∧ ((x.kind = .tap ∨ x.kind = .hold) ∨ x.kind = .avoid → laneTime (t.fetcher pl).laneLast x.lane = some x.time)
        ∧ (x.kind = .hold → laneTime (t.fetcher pl).holdBusy x.lane = some (x.time + x.length))
        ∧ Keeps [.bus, .judge pl, .fetcher pl, .score pl] s t)
    ∧ (s.run = .operating → f.state = .stalled → f.roomReport = true → (s.entry pl i).record = x →
      (s.entry pl i).unit = none → (s.entry pl i).tailUnit = none →
      ∃ t, exec (.stalledRecordRetry pl) s = .next t ∧ s.PlacedAlone pl i x (s.entry pl i) t
        ∧ Keeps [.judge pl, .fetcher pl, .score pl] s t) := by
  intro f
  constructor
  · intro r d c read live fetching good repaired
    have o := offered_accepted x flags low fetching
    have noTest : (s.accepted pl i x flags).assemblyTest pl x = s.accepted pl i x flags := by
      refine assemblyTest_of_admitted (fun a opened k => ?_)
      rw [o.assembly] at opened
      rcases kind with ⟨head | avoid, -⟩ | beat
      · rw [closed head] at opened; cases opened
      · simp [avoid] at k
      · simp [beat] at k
    have p := o.places standing kind rfl chord timely room ⟨rfl, rfl⟩ counter assigned
    obtain ⟨last, lane, busy⟩ := p.times
    have done := recordReadDone_accepts c read live reserved good repaired
    rw [noTest] at done
    refine ⟨_, done, p.alone, last, p.bus, fun bound => ?_, fun hold => ?_, p.keeps.mono (by simp)⟩
    · have within : x.lane < 12 := by
        rcases kind with ⟨-, within⟩ | beat
        · exact within
        · simp [beat] at bound
      rw [lane, laneLast_runTimes _ within, if_pos ⟨or_assoc.mp bound, rfl⟩]
    · have within : x.lane < 12 := by
        rcases kind with ⟨-, within⟩ | beat
        · exact within
        · simp [beat] at hold
      rw [busy, holdBusy_runTimes _ within, if_pos ⟨hold, rfl⟩]
  · intro op stalled report record unit tail
    have p := (offered_retry low stalled).places standing kind record chord timely room ⟨unit, tail⟩ counter assigned
    exact ⟨_, exec_stalledRecordRetry op stalled report reserved, p.alone, p.keeps.mono (by simp)⟩

/-- R56, step 4: what stalling leaves. -/
theorem stall_of_standing (standing : (u.scoreUnit pl).outcome ≠ .failed) : u.stall pl x =
    u.onFetcher pl (fun f => { f with state := .stalled, inHand := some x, roomReport := false }) :=
  endJudgeStep_of_standing standing

theorem Offered.stalls (o : Offered s u pl i e more) (standing : (s.scoreUnit pl).outcome ≠ .failed) (record : e.record = x)
    (timely : s.isLate pl x = false) (full : s.lacksRoom pl x false = true) : u.dealRecord pl i =
      u.onFetcher pl (fun f => { f with state := .stalled, inHand := some x, roomReport := false }) := by
  rw [dealRecord_of_noRoom (by rw [o.entry, record]) (by rw [o.isLate, timely]) (by rw [o.lacksRoom, full]),
    stall_of_standing (by rw [o.score]; exact standing)]

end alone

end Sys2Proof.Machine

namespace Sys2Proof.Machine

/-! ### Records of a chord (R58, R59) -/

/-- `w` is `u` with entry `i` numbered as a member of chord `k`, which is now `c`, the assembly being `a`; the head has taken
`headUnits` units from the counter. -/
structure NumberedIn (u w : State) (pl : Player) (i : Nat) (x : NoteRecord) (k : Fin 8) (unit headUnits : Nat) (c : Chord)
    (a : Option Assembly) : Prop where
  entry : w.entry pl i = { u.entry pl i with
    unit := some unit,
    tailUnit := if x.kind = .hold then some ((u.fetcher pl).unitCounter + headUnits) else (u.entry pl i).tailUnit,
    chord := some k, chartNo := (u.fetcher pl).recordsTaken }
  chord : w.chord pl k = some c
  assembly : (w.fetcher pl).assembly = a
  counter : (w.fetcher pl).unitCounter = (u.fetcher pl).unitCounter + (headUnits + if x.kind = .hold then 1 else 0)
  assigned : (w.scoreUnit pl).assigned = (u.scoreUnit pl).assigned + (headUnits + if x.kind = .hold then 1 else 0)

section members
variable {s u h : State} {pl : Player} {i : Nat} {x : NoteRecord} {k : Fin 8} {unit headUnits : Nat} {c : Chord}
  {a : Option Assembly} {e : Entry} {more : List Part}

/-- A head numbered as a member takes its tail unit if it is a hold. -/
theorem numberedIn_numberTail (low : i < (h.judge pl).pool.length) (few : headUnits ≤ 1)
    (counter : (u.fetcher pl).unitCounter ≤ 65533) (assigned : (u.scoreUnit pl).assigned ≤ 65533)
    (entry : h.entry pl i = { u.entry pl i with
      unit := some unit, chord := some k, chartNo := (u.fetcher pl).recordsTaken })
    (chord : h.chord pl k = some c) (assembly : (h.fetcher pl).assembly = a)
    (counts : (h.fetcher pl).unitCounter = (u.fetcher pl).unitCounter + headUnits)
    (units : (h.scoreUnit pl).assigned = (u.scoreUnit pl).assigned + headUnits) :
    NumberedIn u (h.numberTail pl i x) pl i x k unit headUnits c a := by
  obtain ⟨tail, bumped, given, same, chords⟩ := numberTail_effect (x := x) low
  refine ⟨by rw [tail, entry, counts], by rw [chords, chord], by rw [same, assembly], ?_, ?_⟩
  · rw [bumped, counts]
    by_cases hold : x.kind = .hold
    · simp only [hold, true_and, if_true]; rw [if_pos (by omega)]; omega
    · simp only [hold, false_and, if_false]; omega
  · rw [given, counts, units]
    by_cases hold : x.kind = .hold
    · simp only [hold, true_and, if_true]; rw [if_pos (by omega)]; omega
    · simp only [hold, false_and, if_false]; omega

/-- R57, R58: the record that opens a chord. -/
theorem numbered_opens (low : i < (u.judge pl).pool.length) (many : 2 ≤ x.chord) (closed : (u.fetcher pl).assembly = none)
    (free : u.chord pl k = none) (least : ∀ j < k, u.chord pl j ≠ none) (counter : (u.fetcher pl).unitCounter ≤ 65533)
    (assigned : (u.scoreUnit pl).assigned ≤ 65533) :
    NumberedIn u (u.numbered pl i x) pl i x k (u.fetcher pl).unitCounter 1 ⟨(u.fetcher pl).unitCounter, x.chord, 0, none, [i]⟩
      (some ⟨k, x.chord, x.time, [x.lane], 1⟩) := by
  let v := u.onEntry pl i (fun e => { e with chartNo := (u.fetcher pl).recordsTaken })
  have length : i < (v.judge pl).pool.length := by rw [length_pool_onEntry]; exact low
  have chords (j : Fin 8) : v.chord pl j = u.chord pl j := chord_onEntry ..
  obtain ⟨chord, fetcher, entry, score, -⟩ := numberHead_opens_effect (u := v) (x := x) length many closed
    (by rw [chords, free]) (fun j before => by rw [chords]; exact least j before)
    (by show (u.fetcher pl).unitCounter < 65535; omega)
  refine numberedIn_numberTail (by rw [(renumbered_numberHead v pl i x).length]; exact length) le_rfl counter assigned
    ?_ chord (by rw [fetcher]) (by rw [fetcher]; rfl) ?_
  · rw [entry, entry_onEntry_same _ low]; rfl
  · rw [score]
    show min 65535 ((u.scoreUnit pl).assigned + 1) = _
    omega

/-- R57, R59: a record that joins a chord. -/
theorem numbered_joins {b : Assembly} (low : i < (u.judge pl).pool.length) (many : 2 ≤ x.chord)
    (opened : (u.fetcher pl).assembly = some b) (at' : u.chord pl b.chord = some c) (counter : (u.fetcher pl).unitCounter ≤ 65533)
    (assigned : (u.scoreUnit pl).assigned ≤ 65533) :
    NumberedIn u (u.numbered pl i x) pl i x b.chord c.unit 0 { c with members := c.members ++ [i] }
      (if b.found + 1 = b.size then none else some { b with lanes := b.lanes ++ [x.lane], found := b.found + 1 }) := by
  let v := u.onEntry pl i (fun e => { e with chartNo := (u.fetcher pl).recordsTaken })
  have length : i < (v.judge pl).pool.length := by rw [length_pool_onEntry]; exact low
  obtain ⟨chord, fetcher, entry, keeps⟩ := numberHead_joins_effect (u := v) (x := x) length many opened
    (by rw [chord_onEntry]; exact at')
  refine numberedIn_numberTail (by rw [(renumbered_numberHead v pl i x).length]; exact length) (Nat.zero_le 1) counter
    assigned ?_ chord (by rw [fetcher]) (by rw [fetcher]; rfl) ?_
  · rw [entry, entry_onEntry_same _ low]
  · exact congrArg Score.assigned (keeps.2 (.score pl) (by simp))

/-- The record of entry `i` is placed in its lane by `instr` as a member of chord `k`. -/
def State.PlacedInChord (s : State) (pl : Player) (i : Nat) (x : NoteRecord) (instr : Instr) (e : Entry) (more : List Part)
    (t : State) (k : Fin 8) (unit headUnits : Nat) : Prop :=
  let f := s.fetcher pl
  exec instr s = .next t
    ∧ t.entry pl i = { e with
        state := .waiting, unit := some unit,
        tailUnit := if x.kind = .hold then some (f.unitCounter + headUnits) else none,
        chord := some k, chartNo := f.recordsTaken }
    ∧ (∀ l, (t.judge pl).lane l = if l = x.lane then (s.judge pl).lane l ++ [i] else (s.judge pl).lane l)
    ∧ (let units := headUnits + if x.kind = .hold then 1 else 0
      (t.fetcher pl).unitCounter = f.unitCounter + units
        ∧ t.scoreUnit pl = { s.scoreUnit pl with assigned := (s.scoreUnit pl).assigned + units })
    ∧ TookRecord f (t.fetcher pl) ∧ (.bus ∈ more → t.bus = Freed s.bus ∧ (t.fetcher pl).lastTime = some x.time)
    ∧ Keeps ([.judge pl, .fetcher pl, .score pl] ++ more) s t

/-- R56, R59: an offered member in time with room is placed as it has been numbered. -/
theorem Offered.places_member {instr : Instr} (o : Offered s u pl i e more) (standing : (s.scoreUnit pl).outcome ≠ .failed)
    (head : x.kind = .tap ∨ x.kind = .hold) (record : e.record = x) (within : x.lane < 12) (timely : s.isLate pl x = false)
    (room : s.lacksRoom pl x false = false) (bare : e.tailUnit = none)
    (n : NumberedIn u (u.numbered pl i x) pl i x k unit headUnits c a) (done : exec instr s = .next (u.dealRecord pl i))
    (ends : .bus ∈ more → u.bus = Freed s.bus ∧ (u.fetcher pl).lastTime = some x.time) :
    ∃ t, s.PlacedInChord pl i x instr e more t k unit headUnits ∧ t.chord pl k = some c ∧ (t.fetcher pl).assembly = a := by
  have r := renumbered_numbered (u := u) (pl := pl) (i := i) (x := x)
  have stood : u.stood pl i x = (u.numbered pl i x).place pl i .waiting := by
    unfold State.stood
    rcases head with k | k <;> rw [k]
  have entry := n.entry
  rw [o.entry, o.counter, o.recordsTaken, bare] at entry
  rw [dealRecord_of_room (by rw [o.entry, record]) (by rw [o.isLate, timely]) (by rw [o.lacksRoom, room])
    (by rcases head with k | k <;> simp [k]), stood] at done
  have t := o.stands (st := .waiting) standing r (by rw [entry, ← record]) within (by simp)
  have counter' : (Fetcher.unwalked _).unitCounter = _ := congrArg Fetcher.unitCounter t.fetcher
  have assembly' : (Fetcher.unwalked _).assembly = _ := congrArg Fetcher.assembly t.fetcher
  have last : (Fetcher.unwalked _).lastTime = _ := congrArg Fetcher.lastTime (t.walked r)
  refine ⟨_, ⟨done, by rw [t.entry, entry], t.lanes, ⟨counter'.trans ?_, ?_⟩, t.took, fun ended => ?_, t.keeps⟩,
    (t.chord k).trans n.chord, assembly'.trans n.assembly⟩
  · exact n.counter.trans (by rw [o.counter])
  · rw [t.score, n.assigned, o.score]
  · obtain ⟨bus, time⟩ := ends ended
    exact ⟨(t.bus.trans (r.keeps.2 .bus (by simp) :)).trans bus, last.trans time⟩

/-- R58, R59: a member of a chord is placed, opening the chord or joining it. -/
theorem Offered.takes_member {instr : Instr} (o : Offered s u pl i e more) (standing : (s.scoreUnit pl).outcome ≠ .failed)
    (head : x.kind = .tap ∨ x.kind = .hold) (many : 2 ≤ x.chord) (record : e.record = x) (within : x.lane < 12)
    (timely : s.isLate pl x = false) (lane : ((s.judge pl).lane x.lane).length < (s.params pl).depth) (bare : e.tailUnit = none)
    (counter : (s.fetcher pl).unitCounter ≤ 65533) (assigned : (s.scoreUnit pl).assigned ≤ 65533)
    (done : (∀ a, (s.fetcher pl).assembly = some a → a.admits x = true) → exec instr s = .next (u.dealRecord pl i))
    (ends : .bus ∈ more → u.bus = Freed s.bus ∧ (u.fetcher pl).lastTime = some x.time) :
    (∀ k, (s.fetcher pl).assembly = none → s.chord pl k = none → (∀ j < k, s.chord pl j ≠ none) →
      ∃ t, s.PlacedInChord pl i x instr e more t k (s.fetcher pl).unitCounter 1
        ∧ t.chord pl k = some ⟨(s.fetcher pl).unitCounter, x.chord, 0, none, [i]⟩
        ∧ (t.fetcher pl).assembly = some ⟨k, x.chord, x.time, [x.lane], 1⟩)
    ∧ (∀ a c, (s.fetcher pl).assembly = some a → s.chord pl a.chord = some c → x.chord = a.size → x.time = a.time →
      x.lane ∉ a.lanes →
      ∃ t, s.PlacedInChord pl i x instr e more t a.chord c.unit 0
        ∧ t.chord pl a.chord = some { c with members := c.members ++ [i] }
        ∧ (t.fetcher pl).assembly = if a.found + 1 = a.size then none
            else some { a with lanes := a.lanes ++ [x.lane], found := a.found + 1 }) := by
  have few : (u.fetcher pl).unitCounter ≤ 65533 := by rw [o.counter]; exact counter
  have given : (u.scoreUnit pl).assigned ≤ 65533 := by rw [o.score]; exact assigned
  have notBeat : x.kind = .beat → (s.judge pl).beats.length < 8 := fun b => by rcases head with k | k <;> simp [k] at b
  constructor
  · intro k closed free least
    have n := numbered_opens (x := x) o.low many (by rw [o.assembly, closed]) (by rw [o.chord, free])
      (fun j before => by rw [o.chord]; exact least j before) few given
    rw [o.counter] at n
    exact o.places_member standing head record within timely
      (lacksRoom_eq_false_of (fun _ => .inr (.inr ⟨k, free⟩)) (fun _ => lane) notBeat) bare n
      (done (fun a opened => by rw [closed] at opened; cases opened)) ends
  · intro b c opened at' size time lanes
    have n := numbered_joins (x := x) o.low many (by rw [o.assembly, opened]) (by rw [o.chord, at']) few given
    refine o.places_member standing head record within timely
      (lacksRoom_eq_false_of (fun _ => .inr (.inl (by rw [opened]; exact Option.some_ne_none b))) (fun _ => lane) notBeat) bare n
      (done (fun a same => ?_)) ends
    obtain rfl : b = a := Option.some.inj (opened.symm.trans same)
    simp [Assembly.admits, head, size, time, lanes]

end members

end Sys2Proof.Machine

namespace Sys2Proof.Machine

theorem fetcher_onFetcher_same (s : State) (pl : Player) (g : Fetcher → Fetcher) :
    (s.onFetcher pl g).fetcher pl = g (s.fetcher pl) := State.fetcher_setFetcher_same ..

section stalling
variable {s : State} {pl : Player} {i : Nat} {x : NoteRecord} {flags : ResultFlags} {r : FetchRead} {d : BitVec 128}

/-- R56, step 4: a record without the room that it needs. -/
theorem lacksRoom_of_noRoom (h : (x.kind = .beat ∧ 8 ≤ (s.judge pl).beats.length)
      ∨ (x.kind.laneBound = true ∧ (s.params pl).depth ≤ ((s.judge pl).lane x.lane).length)
      ∨ ((x.kind = .tap ∨ x.kind = .hold) ∧ 2 ≤ x.chord ∧ (s.fetcher pl).assembly = none ∧ ∀ k, s.chord pl k ≠ none)) :
    s.lacksRoom pl x false = true := by
  rw [lacksRoom_iff]
  rcases h with ⟨beat, full⟩ | ⟨bound, full⟩ | chord
  exacts [.inr (.inr ⟨beat, rfl, full⟩), .inr (.inl ⟨bound, rfl, full⟩), .inl chord]

/-- R56: a record read without room is in hand, in its entry, with the running times moved on. -/
theorem recordReadDone_stalls (reserved : (s.fetcher pl).reserved = some i) (standing : (s.scoreUnit pl).outcome ≠ .failed)
    (c : Carrying s (.fetch pl .record)) (read : (s.fetcher pl).read = some r) (live : r.discard = false)
    (fetching : (s.fetcher pl).state = .fetching) (low : i < (s.judge pl).pool.length)
    (belongs : ∀ a, (s.fetcher pl).assembly = some a →
      x.kind = .avoid ∨ x.kind = .beat ∨ x.chord = a.size ∧ x.time = a.time ∧ x.lane ∉ a.lanes)
    (good : (s.fetcher pl).recordFault (s.session pl).laneCount (parseRecord d) = none)
    (repaired : repairRecord (parseRecord d) = (x, flags)) (timely : s.isLate pl x = false)
    (full : s.lacksRoom pl x false = true) : exec (.recordReadDone pl (some d)) s =
      .next ((s.accepted pl i x flags).onFetcher pl (fun f =>
        { f with state := .stalled, inHand := some x, roomReport := false })) := by
  have o := offered_accepted x flags low fetching
  have noEnd : x.kind ≠ .chartEnd := by
    rintro k
    rw [lacksRoom_iff] at full
    simp [k, RecordKind.laneBound] at full
  rw [recordReadDone_accepts c read live reserved good repaired, assemblyTest_of_admitted]
  · exact congrArg Host.Outcome.next (o.stalls standing rfl timely full)
  intro a opened kind
  rw [o.assembly] at opened
  rcases belongs a opened with k | k | fits
  · simp [k] at kind
  · simp [k] at kind
  · simpa [Assembly.admits, fits, noEnd] using kind

/-- R56: a retry without room leaves the record in hand. -/
theorem stalledRecordRetry_stalls (reserved : (s.fetcher pl).reserved = some i) (standing : (s.scoreUnit pl).outcome ≠ .failed)
    (op : s.run = .operating) (stalled : (s.fetcher pl).state = .stalled) (report : (s.fetcher pl).roomReport = true)
    (record : (s.entry pl i).record = x) (timely : s.isLate pl x = false) (full : s.lacksRoom pl x false = true) :
    exec (.stalledRecordRetry pl) s = .next ((s.onFetcher pl (fun f => { f with roomReport := false })).onFetcher pl (fun f =>
      { f with state := .stalled, inHand := some x, roomReport := false })) := by
  let u := s.onFetcher pl (fun f => { f with roomReport := false })
  have assembly : (u.fetcher pl).assembly = (s.fetcher pl).assembly := by
    rw [show u.fetcher pl = _ from State.fetcher_setFetcher_same ..]
  have full' : u.lacksRoom pl x false = true := by
    rw [lacksRoom_iff, assembly]
    exact lacksRoom_iff.mp full
  rw [exec_stalledRecordRetry op stalled report reserved, dealRecord_of_noRoom (u := u) record timely full', stall_of_standing (u := u) standing]

theorem retryStalled_of_noReport (op : s.run = .operating) (report : (s.fetcher pl).roomReport = false) :
    exec (.stalledRecordRetry pl) s = .next s := by
  refine congrArg Host.Outcome.next ((whenOperating_of op _).trans ?_)
  unfold State.retryStalled
  dsimp only
  split
  · rfl
  · exact if_neg (fun h => Bool.false_ne_true (report.symm.trans h.2))

end stalling

/-- Settles O43: a record is followed through the numbering, the lane and the taking that `Offered.stands` states once for the
read's end and for a retry. -/
theorem recordsArePlacedOrStall : Obligations.RecordsArePlacedOrStall := by
  refine ⟨?_, ?_, ?_⟩
  · intro s pl i x flags reserved low standing closed counter f head bound inTime room after placed inTime' room' kind chord
    have timely := isLate_eq_false_of (x := x) inTime'
    have space : s.lacksRoom pl x false = false := lacksRoom_eq_false_of (fun k => .inl (chord k).le) room'.1 room'.2
    constructor
    · intro r d c read live fetching good repaired assigned
      exact (recordsArePlaced_alone s pl i x flags reserved low standing closed counter timely space kind chord assigned).1
        r d c read live fetching good repaired
    · intro op stalled report record unit tail assigned
      exact (recordsArePlaced_alone s pl i x flags reserved low standing closed counter timely space kind chord assigned).2
        op stalled report record unit tail
  · intro s pl i reserved standing f noRoom
    refine ⟨?_, ?_, fun op _ report => retryStalled_of_noReport op report⟩
    · intro r d x flags c read live fetching low belongs good repaired timely full within bound
      have fetcher := fetcher_onFetcher_same (s.accepted pl i x flags) pl (fun f =>
        { f with state := .stalled, inHand := some x, roomReport := false })
      rw [fetcher_accepted] at fetcher
      refine ⟨_, recordReadDone_stalls reserved standing c read live fetching low belongs good repaired timely
        (lacksRoom_of_noRoom full), by rw [fetcher]; rfl, fun l => ?_, fun l => ?_, judge_accepted, rfl, keeps_accepted.onFetcher _⟩
      · rw [fetcher]; exact laneLast_runTimes f within l
      · rw [fetcher]; exact holdBusy_runTimes f within l
    · intro x op stalled record report timely full
      refine ⟨_, stalledRecordRetry_stalls reserved standing op stalled report record timely (lacksRoom_of_noRoom full),
        ?_, ((Keeps.refl s).onFetcher _).onFetcher _⟩
      rw [fetcher_onFetcher_same, fetcher_onFetcher_same, ← stalled]
  · intro s pl i x reserved low standing head many within timely lane counter assigned f placed takes
    constructor
    · intro r d flags c read live fetching good repaired
      have o := offered_accepted x flags low fetching
      refine o.takes_member standing head many rfl within timely lane rfl counter assigned (fun admits => ?_)
        (fun _ => ⟨rfl, by rw [fetcher_accepted]; rfl⟩)
      rw [recordReadDone_accepts c read live reserved good repaired, assemblyTest_of_admitted]
      intro a opened _
      rw [o.assembly] at opened
      exact admits a opened
    · intro op stalled report record unit tail
      exact (offered_retry low stalled).takes_member standing head many record within timely lane tail counter assigned
        (fun _ => exec_stalledRecordRetry op stalled report reserved) (fun no => absurd no List.not_mem_nil)

end Sys2Proof.Machine

namespace Sys2Proof.Machine

/-! ### Late records (R61, R63, R64) -/

theorem settledTotal_voided (c : Score) : { c with voided := c.voided + 1 }.settledTotal = c.settledTotal + 1 := by
  simp only [Score.settledTotal]; omega

/-- R121, R122: a VOID settlement of an assigned unit below the end counts it and nothing else. -/
theorem apply_void {c : Score} {unit : Nat} (below : unit < c.n) (room : c.settledTotal < c.assigned) (top : c.assigned ≤ 65535) :
    c.apply (.void unit) = { c with voided := c.voided + 1 } := by
  have few : c.voided < 65535 := by
    simp only [Score.settledTotal] at room; omega
  have counts : c.countVoid = { c with voided := c.voided + 1 } := by
    rw [Score.countVoid, if_neg (Nat.ne_of_lt room), satAdd, Nat.min_eq_right (by simp only [Config.top16]; omega)]
  show c.countVoid.overrun unit = _
  rw [counts]
  exact if_neg (Nat.not_le.mpr below)

section starving
variable {u : State} {pl : Player}

/-- R63, R64: what starving leaves. -/
theorem fetcher_starve : (u.starve pl).fetcher pl = { u.fetcher pl with starvedLogged := true } := by
  unfold State.starve; dsimp only; split
  · next logged => rw [← logged]; rfl
  · exact State.fetcher_setFetcher_same ..

theorem score_starve : (u.starve pl).scoreUnit pl = (u.scoreUnit pl).setFlag flagStarved := by
  unfold State.starve; dsimp only; split
  · exact State.scoreUnit_setScore_same ..
  · exact State.scoreUnit_setScore_same ..

theorem keeps_starve : Keeps [.fetcher pl, .score pl, .notice, .fault] u (u.starve pl) := by
  unfold State.starve; dsimp only; split
  · exact (Keeps.refl u).setScore _ (by simp)
  · exact (((Keeps.refl u).setScore _ (by simp)).logFault _ _ _ _ (by simp)).onFetcher _

theorem fault_starve_of_logged (logged : (u.fetcher pl).starvedLogged = true) :
    (u.starve pl).fault = u.fault ∧ (u.starve pl).notice = u.notice := by
  unfold State.starve; dsimp only; rw [if_pos logged]
  exact ⟨rfl, rfl⟩

theorem logged_starve (fresh : (u.fetcher pl).starvedLogged ≠ true) :
    Logged u (u.starve pl) .starved (some pl) (u.fetcher pl).seq (u.fetcher pl).index u.clock.songTime 0 := by
  unfold State.starve; dsimp only; rw [if_neg fresh]
  exact logged_logFault (u := u.flag pl flagStarved) .starved (some pl) _ _ 0 rfl (BitVec.or_zero).symm rfl

end starving

/-- The record of entry `i` has been taken by `instr` as FINAL and late, its result queued. -/
def State.TakenLate (s : State) (pl : Player) (i : Nat) (instr : Instr) (e : Entry) (more : List Part) (t : State) (own : Grade)
    (tail : Tail) (unit tailUnit : Option Nat) : Prop :=
  exec instr s = .next t ∧ TookRecord (s.fetcher pl) (t.fetcher pl)
    ∧ t.entry pl i = { e with
        state := .final, own, unitGrade := own, tail, offset := 0, unit, tailUnit,
        flags := { e.flags with lateFetch := true }, chartNo := (s.fetcher pl).recordsTaken }
    ∧ t.writer pl = { s.writer pl with queue := (s.writer pl).queue ++ [.result i] }
    ∧ (.bus ∈ more → t.bus = Freed s.bus)

/-- It is VOID, and the stage STARVED. -/
def State.VoidedLate (s : State) (pl : Player) (i : Nat) (instr : Instr) (e : Entry) (more : List Part) (t : State)
    (unit tailUnit : Option Nat) : Prop :=
  s.TakenLate pl i instr e more t .void e.tail unit tailUnit
    ∧ (t.fetcher pl).starvedLogged = true
    ∧ (if (s.fetcher pl).starvedLogged then t.fault = s.fault ∧ t.notice = s.notice
      else Logged s t .starved (some pl) (s.fetcher pl).seq (s.fetcher pl).index s.clock.songTime 0)
    ∧ (t.scoreUnit pl).flags = (s.scoreUnit pl).flags ||| 0x10
    ∧ (t.scoreUnit pl).score = (s.scoreUnit pl).score ∧ (t.scoreUnit pl).life = (s.scoreUnit pl).life
    ∧ (t.scoreUnit pl).combo = (s.scoreUnit pl).combo
    ∧ Keeps ([.judge pl, .fetcher pl, .writer pl, .score pl, .notice, .fault] ++ more) s t

section late
variable {s u v w : State} {pl : Player} {i : Nat} {e e' : Entry} {more : List Part} {x : NoteRecord} {instr : Instr}

/-- R61, R63, R64: an offered record that has become FINAL is taken. -/
theorem Offered.takes_final (o : Offered s u pl i e more) (standing : (v.scoreUnit pl).outcome ≠ .failed)
    (entry : v.entry pl i = e') (final : e'.state = .final)
    (fetcher : v.fetcher pl = { u.fetcher pl with
      unitCounter := (v.fetcher pl).unitCounter, assembly := (v.fetcher pl).assembly,
      starvedLogged := (v.fetcher pl).starvedLogged }) :
    TookRecord (s.fetcher pl) ((v.takeRecord pl).fetcher pl) ∧ (v.takeRecord pl).entry pl i = e'
      ∧ ((v.takeRecord pl).fetcher pl).starvedLogged = (v.fetcher pl).starvedLogged
      ∧ Keeps [.judge pl, .fetcher pl] v (v.takeRecord pl) := by
  obtain ⟨took, same, -, kept, keeps⟩ := taken_takeRecord (u := v) (pl := pl) (by rw [fetcher]; exact o.walks) standing
  have took' : TookRecord (u.fetcher pl) ((v.takeRecord pl).fetcher pl) := by
    rw [fetcher] at took; exact took
  exact ⟨TookRecord.of_untimed took' o.fetcher, (kept i (by rw [entry, final]; exact nofun)).trans entry,
    (congrArg Fetcher.starvedLogged same :), keeps⟩

/-- R63, R64: an offered record made FINAL as VOID in `w`, the stage then starving. -/
theorem Offered.voids_late {unit tailUnit : Option Nat} (o : Offered s u pl i e more) (standing : (s.scoreUnit pl).outcome ≠ .failed)
    (entry : w.entry pl i = { e with
      state := .final, own := .void, unitGrade := .void, offset := 0, unit, tailUnit,
      flags := { e.flags with lateFetch := true }, chartNo := (s.fetcher pl).recordsTaken })
    (writer : w.writer pl = { s.writer pl with queue := (s.writer pl).queue ++ [.result i] })
    (fetcher : w.fetcher pl = { u.fetcher pl with
      unitCounter := (w.fetcher pl).unitCounter, assembly := (w.fetcher pl).assembly })
    (score : w.scoreUnit pl = { s.scoreUnit pl with
      voided := (w.scoreUnit pl).voided, assigned := (w.scoreUnit pl).assigned })
    (keeps : Keeps [.judge pl, .fetcher pl, .writer pl, .score pl] u w)
    (done : exec instr s = .next ((w.starve pl).takeRecord pl)) (bus : .bus ∈ more → u.bus = Freed s.bus) :
    ∃ t, s.VoidedLate pl i instr e more t unit tailUnit ∧ (t.scoreUnit pl).voided = (w.scoreUnit pl).voided
      ∧ (t.scoreUnit pl).assigned = (w.scoreUnit pl).assigned := by
  have starved := keeps_starve (u := w) (pl := pl)
  obtain ⟨took, final, logged, after⟩ := o.takes_final (v := w.starve pl) (by rw [score_starve, score]; exact standing)
    ((congrArg (Judge.entry · i) (starved.2 (.judge pl) (by simp))).trans entry) rfl (by rw [fetcher_starve, fetcher])
  have scored : ((w.starve pl).takeRecord pl).scoreUnit pl = _ := (after.2 (.score pl) (by simp)).trans score_starve
  rw [score] at scored
  have seq : (w.fetcher pl).seq = (s.fetcher pl).seq := (congrArg Fetcher.seq fetcher).trans (congrArg Fetcher.seq o.fetcher :)
  have index : (w.fetcher pl).index = (s.fetcher pl).index := (congrArg Fetcher.index fetcher).trans (congrArg Fetcher.index o.fetcher :)
  have starvedBefore : (w.fetcher pl).starvedLogged = (s.fetcher pl).starvedLogged :=
    (congrArg Fetcher.starvedLogged fetcher).trans (congrArg Fetcher.starvedLogged o.fetcher :)
  have fault : w.fault = s.fault := Eq.trans (keeps.2 .fault (by simp)) (o.same .fault (by simp))
  have notice : w.notice = s.notice := Eq.trans (keeps.2 .notice (by simp)) (o.same .notice (by simp))
  have clock : w.clock = s.clock := Eq.trans (keeps.2 .clock (by simp)) o.clock
  refine ⟨_, ⟨⟨done, took, final, ?_, fun ended => ?_⟩, ?_, ?_, by rw [scored]; rfl, by rw [scored]; rfl, by rw [scored]; rfl,
    by rw [scored]; rfl, ?_⟩, by rw [scored]; rfl, by rw [scored]; rfl⟩
  · exact (after.2 (.writer pl) (by simp)).trans (Eq.trans (starved.2 (.writer pl) (by simp)) writer)
  · exact (after.2 .bus (by simp)).trans (Eq.trans (starved.2 .bus (by simp)) (Eq.trans (keeps.2 .bus (by simp)) (bus ended)))
  · rw [logged, fetcher_starve]
  · have fault' : ((w.starve pl).takeRecord pl).fault = (w.starve pl).fault := after.2 .fault (by simp)
    have notice' : ((w.starve pl).takeRecord pl).notice = (w.starve pl).notice := after.2 .notice (by simp)
    split
    · next before =>
      obtain ⟨sameFault, sameNotice⟩ := fault_starve_of_logged (starvedBefore.trans before)
      exact ⟨fault'.trans (sameFault.trans fault), notice'.trans (sameNotice.trans notice)⟩
    · next fresh =>
      obtain ⟨taken, raised⟩ := logged_starve (u := w) (pl := pl) (by rw [starvedBefore]; exact fresh)
      rw [fault, seq, index, clock] at taken
      rw [notice] at raised
      exact ⟨fault'.trans taken, notice'.trans raised⟩
  · refine (o.keeps.mono ?_).trans ((keeps.mono (by simp)).trans ((starved.mono (by simp)).trans (after.mono (by simp))))
    exact List.append_subset.mpr ⟨by simp, List.subset_append_right ..⟩

end late

section finals
variable {s u w : State} {pl : Player} {i : Nat} {e : Entry} {more : List Part} {x : NoteRecord} {instr : Instr}

theorem keeps_voidUnit (k : Option Nat) : Keeps [.score pl] u (u.voidUnit pl k) := by
  unfold State.voidUnit; split
  exacts [.refl u, (Keeps.refl u).onScore _]

theorem score_voidUnit {unit : Nat} : (u.voidUnit pl (some unit)).scoreUnit pl = (u.scoreUnit pl).apply (.void unit) :=
  State.scoreUnit_setScore_same ..

/-- R63: the part with the units of the late record of entry `i` voided, before the stage starves. -/
def State.voidedNote (w : State) (pl : Player) (i : Nat) : State :=
  (((w.onEntry pl i (fun e =>
    { e with own := .void, unitGrade := .void, offset := 0, flags := { e.flags with lateFetch := true } })).makeFinal pl i).voidUnit pl
      (w.entry pl i).unit).voidUnit pl (w.entry pl i).tailUnit

/-- R63: a late note that stands alone. -/
theorem voidLateNote_alone (low : i < (w.judge pl).pool.length) (alone : (w.entry pl i).chord = none) :
    w.voidLateNote pl i = (w.voidedNote pl i).starve pl := by
  unfold State.voidLateNote State.voidedNote
  dsimp only
  rw [entry_onEntry_same _ low, alone]
  dsimp only
  rw [onEntry_onEntry]
  rfl

theorem entry_voidedNote (low : i < (w.judge pl).pool.length) : (w.voidedNote pl i).entry pl i = { w.entry pl i with
    state := .final, own := .void, unitGrade := .void, offset := 0, flags := { (w.entry pl i).flags with lateFetch := true } } := by
  refine (congrArg (Judge.entry · i) (((keeps_voidUnit _).trans ((keeps_voidUnit _))).2 (.judge pl) (by simp))).trans ?_
  refine (entry_makeFinal (by rw [length_pool_onEntry]; exact low)).trans ?_
  rw [entry_onEntry_same _ low]

theorem keeps_voidedNote : Keeps [.judge pl, .writer pl, .score pl] w (w.voidedNote pl i) :=
  (((Keeps.refl w).onEntry i _).makeFinal i).trans (((keeps_voidUnit _).trans (keeps_voidUnit _)).mono (by simp))

theorem writer_voidedNote : (w.voidedNote pl i).writer pl = { w.writer pl with queue := (w.writer pl).queue ++ [.result i] } :=
  (((keeps_voidUnit _).trans ((keeps_voidUnit _))).2 (.writer pl) (by simp)).trans writer_makeFinal

section units
variable {a b : Nat} (unit : (w.entry pl i).unit = some a)
include unit

theorem score_voidedNote_tap (bare : (w.entry pl i).tailUnit = none) :
    (w.voidedNote pl i).scoreUnit pl = (w.scoreUnit pl).apply (.void a) := by
  unfold State.voidedNote
  rw [unit, bare]
  exact score_voidUnit

theorem score_voidedNote_hold (tail : (w.entry pl i).tailUnit = some b) :
    (w.voidedNote pl i).scoreUnit pl = ((w.scoreUnit pl).apply (.void a)).apply (.void b) := by
  unfold State.voidedNote
  rw [unit, tail, score_voidUnit, score_voidUnit]
  rfl

end units

theorem isLate_of_note (head : x.kind = .tap ∨ x.kind = .hold) (playing : (s.session pl).state = .playing)
    (late : s.lateFrom pl x (s.params pl).thin.late ≤ s.clock.songTime) : s.isLate pl x = true :=
  isLate_iff.mpr ⟨playing, .inl ⟨head, late⟩⟩

/-- R56, step 5: a late record needs no room but a chord's. -/
theorem dealRecord_of_late (record : (u.entry pl i).record = x) (late : u.isLate pl x = true)
    (alone : x.kind = .tap ∨ x.kind = .hold → x.chord ≤ 1) : u.dealRecord pl i = u.takeAccepted pl i x true := by
  have room : u.lacksRoom pl x true = false := by
    rw [← Bool.not_eq_true, lacksRoom_iff]
    rintro (⟨head, many, -⟩ | ⟨-, timely, -⟩ | ⟨-, timely, -⟩)
    · have := alone head; omega
    · cases timely
    · cases timely
  unfold State.dealRecord
  dsimp only
  rw [record, late, room]
  rfl

/-- R63: an offered late TAP or HOLD that stands alone is VOID with its units. -/
theorem Offered.takes_late_note (o : Offered s u pl i e more) (standing : (s.scoreUnit pl).outcome ≠ .failed)
    (record : e.record = x) (head : x.kind = .tap ∨ x.kind = .hold) (single : x.chord ≤ 1) (alone : e.chord = none)
    (late : s.isLate pl x = true) (bare : x.kind = .tap → e.tailUnit = none) {units : Nat}
    (many : units = if x.kind = .hold then 2 else 1) (below : (s.fetcher pl).unitCounter + (units - 1) < (s.scoreUnit pl).n)
    (top : (s.scoreUnit pl).n ≤ 65535) (legal : (s.scoreUnit pl).settledTotal ≤ (s.scoreUnit pl).assigned)
    (few : (s.scoreUnit pl).assigned + units ≤ 65535) (done : exec instr s = .next (u.dealRecord pl i))
    (bus : .bus ∈ more → u.bus = Freed s.bus) :
    ∃ t, s.VoidedLate pl i instr e more t (some (s.fetcher pl).unitCounter)
        (if x.kind = .hold then some ((s.fetcher pl).unitCounter + 1) else none)
      ∧ (t.scoreUnit pl).voided = (s.scoreUnit pl).voided + units
      ∧ (t.scoreUnit pl).assigned = (s.scoreUnit pl).assigned + units := by
  obtain ⟨entry, counter, count, -⟩ := numbered_alone (u := u) (i := i) (x := x) o.low single
    (by rw [o.counter]; omega) (by rw [o.score]; omega)
  rw [o.counter] at entry count
  rw [o.recordsTaken, o.entry] at entry
  have r := renumbered_numbered (u := u) (pl := pl) (i := i) (x := x)
  have low : i < ((u.numbered pl i x).judge pl).pool.length := by rw [r.length]; exact o.low
  have is : u.dealRecord pl i = (((u.numbered pl i x).voidedNote pl i).starve pl).takeRecord pl := by
    rw [dealRecord_of_late (by rw [o.entry, record]) (by rw [o.isLate, late]) (fun _ => single),
      ← voidLateNote_alone low (by rw [entry]; exact alone)]
    unfold State.takeAccepted
    rcases head with k | k <;> rw [k] <;> rfl
  rw [is] at done
  have tail : (if x.kind = .hold then some (min 65535 ((s.fetcher pl).unitCounter + 1)) else e.tailUnit)
      = if x.kind = .hold then some ((s.fetcher pl).unitCounter + 1) else none := by
    rcases head with k | k
    · simp only [k, reduceCtorEq, if_false]; exact bare k
    · simp only [k, if_true] at many ⊢; congr 1; omega
  rw [tail] at entry
  have assigned : ((u.numbered pl i x).scoreUnit pl).assigned = (s.scoreUnit pl).assigned + units := by
    rw [count, o.score]
    split at many
    · next k => simp only [k, if_true]; omega
    · next k => simp only [k, if_false]; omega
  have numbered : (u.numbered pl i x).scoreUnit pl =
      { s.scoreUnit pl with assigned := (s.scoreUnit pl).assigned + units } := by rw [r.score, assigned, o.score]
  have first := apply_void (c := { s.scoreUnit pl with assigned := (s.scoreUnit pl).assigned + units })
    (unit := (s.fetcher pl).unitCounter) (by show _ < (s.scoreUnit pl).n; omega)
    (by show (s.scoreUnit pl).settledTotal < (s.scoreUnit pl).assigned + units; split at many <;> omega) few
  have score : ((u.numbered pl i x).voidedNote pl i).scoreUnit pl = { s.scoreUnit pl with
      assigned := (s.scoreUnit pl).assigned + units, voided := (s.scoreUnit pl).voided + units } := by
    by_cases hold : x.kind = .hold
    · obtain rfl : units = 2 := many.trans (if_pos hold)
      have second := apply_void (c := { s.scoreUnit pl with
          assigned := (s.scoreUnit pl).assigned + 2, voided := (s.scoreUnit pl).voided + 1 })
        (unit := (s.fetcher pl).unitCounter + 1) below
        (by rw [settledTotal_voided { s.scoreUnit pl with assigned := (s.scoreUnit pl).assigned + 2 }]
            show (s.scoreUnit pl).settledTotal + 1 < (s.scoreUnit pl).assigned + 2; omega) few
      rw [score_voidedNote_hold (by rw [entry]) (by rw [entry, if_pos hold]), numbered, first]
      exact second
    · obtain rfl : units = 1 := many.trans (if_neg hold)
      rw [score_voidedNote_tap (by rw [entry]) (by rw [entry, if_neg hold]), numbered]
      exact first
  have same : ((u.numbered pl i x).voidedNote pl i).fetcher pl = (u.numbered pl i x).fetcher pl :=
    keeps_voidedNote.2 (.fetcher pl) (by simp)
  have writer : ((u.numbered pl i x).voidedNote pl i).writer pl =
      { s.writer pl with queue := (s.writer pl).queue ++ [.result i] } := by
    rw [writer_voidedNote, show (u.numbered pl i x).writer pl = s.writer pl from
      Eq.trans (r.keeps.2 (.writer pl) (by simp)) o.writer]
  obtain ⟨t, void, voided, given⟩ := o.voids_late standing ((entry_voidedNote low).trans (by rw [entry])) writer
    (by rw [same]; exact r.fetcher) (by rw [score]) ((r.keeps.mono (by simp)).trans (keeps_voidedNote.mono (by simp))) done bus
  exact ⟨t, void, voided.trans (by rw [score]), given.trans (by rw [score])⟩

/-- R64: an offered late AVOID is VOID. -/
theorem Offered.takes_late_avoid (o : Offered s u pl i e more) (standing : (s.scoreUnit pl).outcome ≠ .failed)
    (record : e.record = x) (avoid : x.kind = .avoid) (late : s.isLate pl x = true) (noTail : e.tail = .none)
    (done : exec instr s = .next (u.dealRecord pl i)) (bus : .bus ∈ more → u.bus = Freed s.bus) :
    ∃ t, s.VoidedLate pl i instr e more t e.unit e.tailUnit
      ∧ (t.scoreUnit pl).voided = (s.scoreUnit pl).voided := by
  let w := (u.onEntry pl i (fun e =>
    { e with
      own := .void, unitGrade := .void, tail := .none, offset := 0, flags := { e.flags with lateFetch := true },
      chartNo := (u.fetcher pl).recordsTaken })).makeFinal pl i
  have is : u.dealRecord pl i = (w.starve pl).takeRecord pl := by
    rw [dealRecord_of_late (by rw [o.entry, record]) (by rw [o.isLate, late]) (by simp [avoid])]
    unfold State.takeAccepted State.voidLateAvoid
    rw [avoid]
    dsimp only
    rw [onEntry_onEntry]
    rfl
  have entry : w.entry pl i = _ := (entry_makeFinal (by rw [length_pool_onEntry]; exact o.low)).trans
    (by rw [entry_onEntry_same _ o.low, o.entry, o.recordsTaken])
  have writer : w.writer pl = { s.writer pl with queue := (s.writer pl).queue ++ [.result i] } := by
    rw [writer_makeFinal, show State.writer (State.onEntry _ pl i _) pl = u.writer pl from rfl, o.writer]
  obtain ⟨t, void, voided, -⟩ := o.voids_late (w := w) standing (entry.trans (by rw [noTail])) writer rfl
    (by rw [show w.scoreUnit pl = u.scoreUnit pl from rfl, o.score]) (((Keeps.refl u).onEntry i _).makeFinal i) (is ▸ done) bus
  exact ⟨t, void, voided.trans (congrArg Score.voided o.score)⟩

/-- R65: an offered late BEAT is PASSED. -/
theorem Offered.takes_late_beat (o : Offered s u pl i e more) (standing : (s.scoreUnit pl).outcome ≠ .failed)
    (record : e.record = x) (beat : x.kind = .beat) (late : s.isLate pl x = true)
    (done : exec instr s = .next (u.dealRecord pl i)) (bus : .bus ∈ more → u.bus = Freed s.bus) :
    ∃ t, s.TakenLate pl i instr e more t .passed .none e.unit e.tailUnit
      ∧ Keeps ([.judge pl, .fetcher pl, .writer pl] ++ more) s t := by
  let w := (u.onEntry pl i (fun e =>
    { e with
      own := .passed, unitGrade := .passed, tail := .none, offset := 0, flags := { e.flags with lateFetch := true },
      chartNo := (u.fetcher pl).recordsTaken })).makeFinal pl i
  have is : u.dealRecord pl i = w.takeRecord pl := by
    rw [dealRecord_of_late (by rw [o.entry, record]) (by rw [o.isLate, late]) (by simp [beat])]
    unfold State.takeAccepted State.passLateBeat
    rw [beat]
    dsimp only
    rw [onEntry_onEntry]
    rfl
  have entry : w.entry pl i = _ := (entry_makeFinal (by rw [length_pool_onEntry]; exact o.low)).trans
    (by rw [entry_onEntry_same _ o.low, o.entry, o.recordsTaken])
  have keeps : Keeps [.judge pl, .writer pl] u w := ((Keeps.refl u).onEntry i _).makeFinal i
  obtain ⟨took, final, -, after⟩ := o.takes_final (v := w) (by rw [show w.scoreUnit pl = u.scoreUnit pl from rfl, o.score]; exact standing)
    entry rfl rfl
  refine ⟨_, ⟨is ▸ done, took, final, ?_, fun ended => ?_⟩, ?_⟩
  · refine (after.2 (.writer pl) (by simp)).trans (writer_makeFinal.trans ?_)
    rw [show State.writer (State.onEntry _ pl i _) pl = u.writer pl from rfl, o.writer]
  · exact (after.2 .bus (by simp)).trans (Eq.trans (keeps.2 .bus (by simp)) (bus ended))
  · refine (o.keeps.mono ?_).trans ((keeps.mono (by simp)).trans (after.mono (by simp)))
    exact List.append_subset.mpr ⟨by simp, List.subset_append_right ..⟩

end finals

end Sys2Proof.Machine

namespace Sys2Proof.Machine

/-! ### END (R66) -/

section ending
variable {s u : State} {pl : Player} {i : Nat} {x : NoteRecord} {e : Entry} {more : List Part}

/-- R133: an entry in use holds the clearing off. -/
theorem clearingCheck_of_inUse (used : (s.entry pl i).state ≠ .free) : s.clearingCheck pl = s := by
  have low := lt_of_entry_ne_free used
  have busy : ¬ ((s.judge pl).pool.all (fun e => !e.inUse)) = true := by
    rw [List.all_eq_true]
    intro all
    have free := all _ (List.getElem_mem low)
    rw [show (s.judge pl).pool[i] = s.entry pl i from ((List.getD_eq_getElem ..) : (s.judge pl).pool.getD i _ = _).symm] at free
    simp [Entry.inUse, used] at free
  unfold State.clearingCheck
  split
  · rfl
  · exact if_neg (fun h => busy h.2.2.1)

/-- The part with the END of entry `i` FINAL (R66). -/
def State.passedEnd (u : State) (pl : Player) (i : Nat) : State :=
  (u.onEntry pl i (fun e =>
    { e with
      own := .passed, unitGrade := .passed, tail := .none, offset := 0, flags := ResultFlags.clear,
      chartNo := (u.fetcher pl).recordsTaken })).makeFinal pl i

/-- The part with END taken from entry `i` (R66). -/
def State.ended (u : State) (pl : Player) (i : Nat) (x : NoteRecord) : State :=
  ((u.passedEnd pl i).onScore pl (fun c =>
      { c with endTime := some (max (-8388608) (min 8388607 (x.time + ((u.passedEnd pl i).params pl).offset))) })).onFetcher pl
    (fun f => { f.take with state := .ended })

theorem params_onEntry (f : Entry → Entry) : (u.onEntry pl i f).params pl = u.params pl := by
  rw [State.params, judge_onEntry]; rfl

theorem params_passedEnd : (u.passedEnd pl i).params pl = u.params pl :=
  (params_onEntry _).trans (params_onEntry _)

theorem entry_ended (low : i < (u.judge pl).pool.length) : (u.ended pl i x).entry pl i = { u.entry pl i with
    state := .final, own := .passed, unitGrade := .passed, tail := .none, offset := 0, flags := ResultFlags.clear,
    chartNo := (u.fetcher pl).recordsTaken } := by
  refine (entry_makeFinal (by rw [length_pool_onEntry]; exact low)).trans ?_
  rw [entry_onEntry_same _ low]

theorem keeps_ended : Keeps [.judge pl, .fetcher pl, .writer pl, .score pl] u (u.ended pl i x) :=
  ((((Keeps.refl u).onEntry i _).makeFinal i).onScore _).onFetcher _

theorem writer_ended : (u.ended pl i x).writer pl = { u.writer pl with queue := (u.writer pl).queue ++ [.result i] } := by
  have keeps : Keeps [.score pl, .fetcher pl] (u.passedEnd pl i) (u.ended pl i x) := ((Keeps.refl _).onScore _).onFetcher _
  rw [show (u.ended pl i x).writer pl = (u.passedEnd pl i).writer pl from keeps.2 (.writer pl) (by simp), State.passedEnd,
    writer_makeFinal, show State.writer (State.onEntry _ pl i _) pl = u.writer pl from rfl]

/-- R56, step 5: an END needs no room and is never late. -/
theorem dealRecord_of_end (low : i < (u.judge pl).pool.length) (record : (u.entry pl i).record = x) (kind : x.kind = .chartEnd)
    (standing : (u.scoreUnit pl).outcome ≠ .failed) : u.dealRecord pl i = u.ended pl i x := by
  have timely : u.isLate pl x = false := by
    rw [← Bool.not_eq_true, isLate_iff]
    simp [kind]
  have room : u.lacksRoom pl x false = false := lacksRoom_eq_false_of (by simp [kind]) (by simp [kind]) (by simp [kind])
  have score : (u.ended pl i x).scoreUnit pl = _ := State.scoreUnit_setScore_same ..
  have judged : (u.ended pl i x).endJudgeStep pl = u.ended pl i x := endJudgeStep_of_standing (by rw [score]; exact standing)
  have stays : (u.ended pl i x).clearingCheck pl = u.ended pl i x := clearingCheck_of_inUse (by rw [entry_ended low]; exact nofun)
  have taken : u.takeAccepted pl i x false = ((u.ended pl i x).endJudgeStep pl).clearingCheck pl := by
    unfold State.takeAccepted State.takeEnd
    rw [kind]
    dsimp only
    rw [onEntry_onEntry]
    rfl
  unfold State.dealRecord
  dsimp only
  rw [record, timely, room, taken, judged, stays]
  rfl

end ending

section late
variable {s u : State} {pl : Player} {i : Nat} {x : NoteRecord} {e : Entry} {more : List Part} {instr : Instr}

/-- An offered record that is late, by its kind. -/
theorem Offered.takes_late (o : Offered s u pl i e more) (standing : (s.scoreUnit pl).outcome ≠ .failed)
    (playing : (s.session pl).state = .playing) (alone : e.chord = none)
    (done : e.record.kind ≠ .chartEnd → exec instr s = .next (u.dealRecord pl i)) (bus : .bus ∈ more → u.bus = Freed s.bus) :
    let f := s.fetcher pl
    let x := e.record
    (x.kind = .tap → x.chord ≤ 1 → s.lateFrom pl x (s.params pl).thin.late ≤ s.clock.songTime →
        f.unitCounter < (s.scoreUnit pl).n → (s.scoreUnit pl).n ≤ 65535 → e.tailUnit = none →
        (s.scoreUnit pl).settledTotal ≤ (s.scoreUnit pl).assigned → (s.scoreUnit pl).assigned < 65535 →
        ∃ t, s.VoidedLate pl i instr e more t (some f.unitCounter) none
          ∧ (t.scoreUnit pl).voided = (s.scoreUnit pl).voided + 1
          ∧ (t.scoreUnit pl).assigned = (s.scoreUnit pl).assigned + 1)
      ∧ (x.kind = .hold → x.chord ≤ 1 → s.lateFrom pl x (s.params pl).thin.late ≤ s.clock.songTime →
        f.unitCounter + 1 < (s.scoreUnit pl).n → (s.scoreUnit pl).n ≤ 65535 →
        (s.scoreUnit pl).settledTotal ≤ (s.scoreUnit pl).assigned → (s.scoreUnit pl).assigned < 65534 →
        ∃ t, s.VoidedLate pl i instr e more t (some f.unitCounter) (some (f.unitCounter + 1))
          ∧ (t.scoreUnit pl).voided = (s.scoreUnit pl).voided + 2
          ∧ (t.scoreUnit pl).assigned = (s.scoreUnit pl).assigned + 2)
      ∧ (x.kind = .avoid → s.lateFrom pl x (s.params pl).avoidWindow ≤ s.clock.songTime → e.tail = .none →
        ∃ t, s.VoidedLate pl i instr e more t e.unit e.tailUnit ∧ (t.scoreUnit pl).voided = (s.scoreUnit pl).voided)
      ∧ (x.kind = .beat → x.time + (s.params pl).offset + 64 < s.clock.songTime →
        ∃ t, s.TakenLate pl i instr e more t .passed .none e.unit e.tailUnit
          ∧ Keeps ([.judge pl, .fetcher pl, .writer pl] ++ more) s t) := by
  intro f x
  refine ⟨fun tap single late below top bare legal few => ?_, fun hold single late below top legal few => ?_,
    fun avoid late noTail => ?_, fun beat late => ?_⟩
  · have t := o.takes_late_note (units := 1) standing rfl (.inl tap) single alone (isLate_of_note (.inl tap) playing late)
      (fun _ => bare) (by rw [tap]; rfl) below top legal few (done (ne_of_eq_of_ne tap nofun)) bus
    rwa [if_neg (by rw [tap]; exact nofun)] at t
  · have t := o.takes_late_note (units := 2) standing rfl (.inr hold) single alone (isLate_of_note (.inr hold) playing late)
      (by rw [hold]; exact nofun) (by rw [hold]; rfl) below top legal (by omega)
      (done (ne_of_eq_of_ne hold nofun)) bus
    rwa [if_pos hold] at t
  · exact o.takes_late_avoid standing rfl avoid (isLate_iff.mpr ⟨playing, .inr (.inl ⟨avoid, late⟩)⟩) noTail
      (done (ne_of_eq_of_ne avoid nofun)) bus
  · exact o.takes_late_beat standing rfl beat (isLate_iff.mpr ⟨playing, .inr (.inr ⟨beat, late⟩)⟩)
      (done (ne_of_eq_of_ne beat nofun)) bus

end late

/-- Settles O44: a late record and an END are followed from the state in which they are offered to the taking. -/
theorem lateAndEndRecords : Obligations.LateAndEndRecords := by
  refine ⟨?late, ?ends⟩
  case late =>
    intro s pl i reserved low standing playing f late
    constructor
    · intro op stalled report alone
      exact (offered_retry low stalled).takes_late standing playing alone
        (fun _ => exec_stalledRecordRetry op stalled report reserved) (fun no => absurd no List.not_mem_nil)
    · intro r d x flags c read live fetching closed good repaired
      have o := offered_accepted x flags low fetching
      refine o.takes_late standing playing rfl (fun notEnd => ?_) (fun _ => rfl)
      rw [recordReadDone_accepts c read live reserved good repaired, assemblyTest_of_admitted]
      intro a opened kind
      have head : x.kind = .tap ∨ x.kind = .hold := (or_assoc.mpr kind).resolve_right notEnd
      rw [o.assembly, closed head] at opened
      cases opened
  case ends =>
    intro s pl r i d c read live reserved low fetching closed standing f x kind order
    have o := offered_accepted x ResultFlags.clear low fetching
    have good : f.recordFault (s.session pl).laneCount x = none := by
      have early : f.lastTime.any (fun t => x.time < t) ≠ true := by
        rw [ne_eq, early_iff]
        rintro ⟨last, at', before⟩
        have := order last at'
        omega
      simp [Fetcher.recordFault, kind, RecordKind.laneBound, early]
    have repaired : repairRecord x = (x, ResultFlags.clear) := by rw [repairRecord, kind]
    have noTest : (s.accepted pl i x ResultFlags.clear).assemblyTest pl x = s.accepted pl i x ResultFlags.clear :=
      assemblyTest_of_admitted (fun a opened => by rw [o.assembly, closed] at opened; cases opened)
    have done := recordReadDone_accepts c read live reserved good repaired
    rw [noTest, dealRecord_of_end o.low (by rw [o.entry]; rfl) kind (by rw [o.score]; exact standing)] at done
    let u := s.accepted pl i x ResultFlags.clear
    have score : (u.ended pl i x).scoreUnit pl = _ := State.scoreUnit_setScore_same ..
    rw [params_passedEnd, o.params, show (u.passedEnd pl i).scoreUnit pl = u.scoreUnit pl from rfl, o.score] at score
    have fetcher : (u.ended pl i x).fetcher pl = { (u.fetcher pl).take with state := .ended } := fetcher_onFetcher_same ..
    rw [fetcher_accepted] at fetcher
    refine ⟨_, done, ?_, by rw [writer_ended, o.writer], score, by rw [fetcher], by rw [fetcher]; rfl, by rw [fetcher]; rfl, by rw [fetcher]; rfl,
      keeps_ended.2 .bus (by simp), (o.keeps.mono (by simp)).trans (keeps_ended.mono (by simp))⟩
    rw [entry_ended o.low, o.entry, o.recordsTaken]
    rfl

end Sys2Proof.Machine

namespace Sys2Proof.Machine

/-! ### The members of a chord (R60, R111) -/

/-- Every entry of the list is changed by `f`. -/
def State.onEntries (s : State) (pl : Player) (l : List Nat) (f : Entry → Entry) : State :=
  l.foldl (fun s i => s.onEntry pl i f) s

/-- Every JUDGED entry of the list becomes FINAL (R111, step 3). -/
def State.finishMembers (s : State) (pl : Player) (l : List Nat) : State := l.foldl (fun s i => s.finishMember pl i) s

section lists
variable {s : State} {pl : Player} {m : Nat} {l : List Nat} {f : Entry → Entry}

theorem keeps_onEntries : Keeps [.judge pl] s (s.onEntries pl l f) := (Keeps.refl s).foldl l (fun _ i h => h.onEntry i f)

theorem judge_onEntries (s : State) (l : List Nat) : ∃ pool, (s.onEntries pl l f).judge pl = { s.judge pl with pool }
    ∧ pool.length = (s.judge pl).pool.length := by
  induction l generalizing s with
  | nil => exact ⟨_, rfl, rfl⟩
  | cons a l ih =>
    obtain ⟨pool, judge, length⟩ := ih (s.onEntry pl a f)
    exact ⟨pool, judge.trans (by rw [judge_onEntry]), length.trans (length_pool_onEntry f)⟩

theorem entry_onEntries_of_notMem (no : m ∉ l) : (s.onEntries pl l f).entry pl m = s.entry pl m := by
  induction l generalizing s with
  | nil => rfl
  | cons a l ih =>
    obtain ⟨other, rest⟩ := not_or.mp (List.mem_cons.not.mp no)
    exact (ih rest).trans (entry_onEntry_ne f other)

theorem entry_onEntries_of_mem (idem : ∀ e, f (f e) = f e) (low : m < (s.judge pl).pool.length) (mem : m ∈ l) :
    (s.onEntries pl l f).entry pl m = f (s.entry pl m) := by
  induction l generalizing s with
  | nil => exact absurd mem List.not_mem_nil
  | cons a l ih =>
    have low' : m < ((s.onEntry pl a f).judge pl).pool.length := by rw [length_pool_onEntry]; exact low
    by_cases same : m = a
    · subst same
      have first : (s.onEntry pl m f).entry pl m = f (s.entry pl m) := entry_onEntry_same f low
      by_cases again : m ∈ l
      · exact (ih low' again).trans (by rw [first, idem])
      · exact (entry_onEntries_of_notMem again).trans first
    · have rest : m ∈ l := (List.mem_cons.mp mem).resolve_left same
      exact (ih low' rest).trans (by rw [entry_onEntry_ne f same])

theorem finishMember_of_judged (judged : (s.entry pl m).state = .judged) : s.finishMember pl m = s.makeFinal pl m := if_pos judged

theorem finishMember_of_not (other : (s.entry pl m).state ≠ .judged) : s.finishMember pl m = s := if_neg other

theorem keeps_finishMember {but : List Part} {t : State} (h : Keeps but s t) (j : Part.judge pl ∈ but) (w : Part.writer pl ∈ but) :
    Keeps but s (t.finishMember pl m) := by
  unfold State.finishMember; split
  exacts [h.makeFinal m j w, h]

theorem keeps_finishMembers : Keeps [.judge pl, .writer pl] s (s.finishMembers pl l) :=
  (Keeps.refl s).foldl l (fun _ _ h => keeps_finishMember h (by simp) (by simp))

theorem entry_finishMember_ne {k : Nat} (other : m ≠ k) : (s.finishMember pl k).entry pl m = s.entry pl m := by
  unfold State.finishMember; split
  exacts [entry_makeFinal_ne other, rfl]

theorem entry_finishMember : (s.finishMember pl m).entry pl m =
    { s.entry pl m with state := if (s.entry pl m).state = .judged then .final else (s.entry pl m).state } := by
  by_cases judged : (s.entry pl m).state = .judged
  · rw [finishMember_of_judged judged, if_pos judged,
      entry_makeFinal (lt_of_entry_ne_free (by rw [judged]; exact nofun))]
  · rw [finishMember_of_not judged, if_neg judged]

theorem judge_finishMember (s : State) (k : Nat) : ∃ pool, (s.finishMember pl k).judge pl = { s.judge pl with pool } := by
  unfold State.finishMember; split
  exacts [⟨_, judge_onEntry _⟩, ⟨_, rfl⟩]

theorem judge_finishMembers (s : State) (l : List Nat) : ∃ pool, (s.finishMembers pl l).judge pl = { s.judge pl with pool } := by
  induction l generalizing s with
  | nil => exact ⟨_, rfl⟩
  | cons a l ih =>
    obtain ⟨pool, after⟩ := ih (s.finishMember pl a)
    obtain ⟨_, first⟩ := judge_finishMember (pl := pl) s a
    exact ⟨pool, after.trans (by rw [first])⟩

theorem entry_finishMembers_of_notMem (no : m ∉ l) : (s.finishMembers pl l).entry pl m = s.entry pl m := by
  induction l generalizing s with
  | nil => rfl
  | cons a l ih =>
    obtain ⟨other, rest⟩ := not_or.mp (List.mem_cons.not.mp no)
    exact (ih rest).trans (entry_finishMember_ne other)

/-- R111, step 3: each JUDGED member is FINAL, and the results are queued in the order of the members. -/
theorem finishMembers_effect (distinct : l.Nodup) : (∀ m ∈ l, (s.finishMembers pl l).entry pl m =
      { s.entry pl m with state := if (s.entry pl m).state = .judged then .final else (s.entry pl m).state })
    ∧ (s.finishMembers pl l).writer pl = { s.writer pl with queue := (s.writer pl).queue
        ++ (l.filter (fun m => (s.entry pl m).state = .judged)).map WriteItem.result } := by
  induction l generalizing s with
  | nil => exact ⟨nofun, by simp [State.finishMembers]⟩
  | cons a l ih =>
    obtain ⟨apart, distinct⟩ := List.nodup_cons.mp distinct
    obtain ⟨entries, writer⟩ := ih (s := s.finishMember pl a) distinct
    have others : ∀ m ∈ l, (s.finishMember pl a).entry pl m = s.entry pl m := fun m mem =>
      entry_finishMember_ne (by rintro rfl; exact apart mem)
    constructor
    · intro m mem
      rcases List.mem_cons.mp mem with rfl | rest
      · exact (entry_finishMembers_of_notMem apart).trans entry_finishMember
      · exact (entries m rest).trans (by rw [others m rest])
    · have same : l.filter (fun m => ((s.finishMember pl a).entry pl m).state = .judged)
          = l.filter (fun m => (s.entry pl m).state = .judged) :=
        List.filter_congr (fun m mem => by rw [others m mem])
      refine writer.trans ?_
      rw [same]
      by_cases judged : (s.entry pl a).state = .judged
      · rw [finishMember_of_judged judged, writer_makeFinal, List.filter_cons_of_pos (by simpa using judged)]
        simp
      · rw [finishMember_of_not judged, List.filter_cons_of_neg (by simpa using judged)]

end lists

/-! ### Settling a chord (R111) -/

theorem settlement_eq (p : Params) (unit : Nat) (g : Grade) : p.settlement unit g = UnitSettlement p unit g := by
  cases g <;> rfl

section settling
variable {s : State} {pl : Player} {k : Fin 8} {c : Chord} {g : Grade}

/-- The part with the chord's unit settled and its members graded, finished and loose (R111). -/
def State.graded (s : State) (pl : Player) (c : Chord) (g : Grade) : State :=
  (((s.settle pl ((s.params pl).settlement c.unit g)).onEntries pl c.members (fun e =>
    { e with unitGrade := g })).finishMembers pl c.members).onEntries pl c.members (fun e => { e with chord := none })

theorem settleChord_eq (at' : s.chord pl k = some c) : s.settleChord pl k =
    ((s.graded pl c (c.worst.getD .void)).setChord pl k none).reportRoom pl none := by
  unfold State.settleChord
  rw [at']
  rfl

theorem keeps_graded : Keeps [.judge pl, .score pl, .writer pl] s (s.graded pl c g) :=
  ((Keeps.refl s).onScore _).trans ((keeps_onEntries.mono (by simp)).trans ((keeps_finishMembers.mono (by simp)).trans
    (keeps_onEntries.mono (by simp))))

theorem score_graded : (s.graded pl c g).scoreUnit pl = (s.scoreUnit pl).apply (UnitSettlement (s.params pl) c.unit g) := by
  have rest : Keeps [.judge pl, .writer pl] (s.settle pl ((s.params pl).settlement c.unit g)) (s.graded pl c g) :=
    (keeps_onEntries.mono (by simp)).trans ((keeps_finishMembers.mono (by simp)).trans (keeps_onEntries.mono (by simp)))
  rw [show (s.graded pl c g).scoreUnit pl = _ from rest.2 (.score pl) (by simp), ← settlement_eq]
  exact State.scoreUnit_setScore_same ..

theorem entry_graded_of_notMem {m : Nat} (no : m ∉ c.members) : (s.graded pl c g).entry pl m = s.entry pl m :=
  (entry_onEntries_of_notMem no).trans ((entry_finishMembers_of_notMem no).trans (entry_onEntries_of_notMem no))

/-- R111: what the members of a settled chord become, and what is queued. -/
theorem graded_effect (distinct : c.members.Nodup) (used : ∀ m ∈ c.members, (s.entry pl m).state ≠ .free) :
    (∀ m ∈ c.members, (s.graded pl c g).entry pl m = { s.entry pl m with
        state := if (s.entry pl m).state = .judged then .final else (s.entry pl m).state, unitGrade := g, chord := none })
      ∧ (s.graded pl c g).writer pl = { s.writer pl with queue := (s.writer pl).queue
          ++ (c.members.filter (fun m => (s.entry pl m).state = .judged)).map WriteItem.result } := by
  let u := s.settle pl ((s.params pl).settlement c.unit g)
  let v := u.onEntries pl c.members (fun e => { e with unitGrade := g })
  have before : ∀ m ∈ c.members, v.entry pl m = { s.entry pl m with unitGrade := g } := fun m mem =>
    entry_onEntries_of_mem (s := u) (fun _ => rfl) (lt_of_entry_ne_free (s := s) (used m mem)) mem
  obtain ⟨entries, writer⟩ := finishMembers_effect (s := v) (pl := pl) distinct
  constructor
  · intro m mem
    have finished := entries m mem
    rw [before m mem] at finished
    have low : m < ((v.finishMembers pl c.members).judge pl).pool.length := by
      refine lt_of_entry_ne_free (?_ : ((v.finishMembers pl c.members).entry pl m).state ≠ .free)
      rw [finished]
      show (if (s.entry pl m).state = .judged then EntryState.final else (s.entry pl m).state) ≠ .free
      split
      exacts [nofun, used m mem]
    have loose : (s.graded pl c g).entry pl m = { (v.finishMembers pl c.members).entry pl m with chord := none } :=
      entry_onEntries_of_mem (fun _ => rfl) low mem
    rw [loose, finished]
  · have last : (s.graded pl c g).writer pl = (v.finishMembers pl c.members).writer pl := keeps_onEntries.2 (.writer pl) (by simp)
    have first : v.writer pl = s.writer pl := Eq.trans (keeps_onEntries.2 (.writer pl) (by simp)) rfl
    have same : c.members.filter (fun m => (v.entry pl m).state = .judged)
        = c.members.filter (fun m => (s.entry pl m).state = .judged) :=
      List.filter_congr (fun m mem => by rw [before m mem])
    rw [last, writer, same, first]

/-- R56: a fetcher that is not STALLED has no retry to make. -/
theorem reportRoom_of_fetching {lane : Option Nat} (fetching : (s.fetcher pl).state = .fetching) :
    (s.reportRoom pl lane).fetcher pl = s.fetcher pl := by
  rw [State.reportRoom, fetcher_onFetcher_same]
  split
  · next stalled _ => rw [fetching] at stalled; cases stalled
  · rfl

theorem keeps_reportRoom {lane : Option Nat} : Keeps [.fetcher pl] s (s.reportRoom pl lane) := (Keeps.refl s).onFetcher _

theorem settleChordIfComplete_of_partial (at' : s.chord pl k = some c) (open' : c.judged ≠ c.expected) :
    s.settleChordIfComplete pl k = s := by
  unfold State.settleChordIfComplete
  rw [at']
  exact if_neg open'

theorem settleChordIfComplete_of_whole (at' : s.chord pl k = some c) (whole : c.judged = c.expected) :
    s.settleChordIfComplete pl k = s.settleChord pl k := by
  unfold State.settleChordIfComplete
  rw [at']
  exact if_pos whole

end settling

end Sys2Proof.Machine

namespace Sys2Proof.Machine

/-! ### Closing a chord short (R60) -/

section closing
variable {s : State} {pl : Player} {a : Assembly} {c : Chord} {x : NoteRecord} {m : Nat}

/-- The part with the chord `c` as large as it has been found and its members marked. -/
def State.markedShort (s : State) (pl : Player) (a : Assembly) (c : Chord) : State :=
  (s.setChord pl a.chord (some { c with expected := a.found })).onEntries pl c.members Entry.markShort

theorem keeps_markedShort : Keeps [.judge pl] s (s.markedShort pl a c) := ((Keeps.refl s).setChord _ _).trans keeps_onEntries

/-- The part with the open chord `c` marked short and nothing being assembled, before the chord settles. -/
def State.shortened (s : State) (pl : Player) (a : Assembly) (c : Chord) : State :=
  (((s.markedShort pl a c).logFault .chordShort (some pl) (s.fetcher pl).seq (s.fetcher pl).index).onScore pl
    Score.recordFault).onFetcher pl (fun f => { f with assembly := none })

theorem closeShort_eq (at' : s.chord pl a.chord = some c) :
    s.closeShort pl a = (s.shortened pl a c).settleChordIfComplete pl a.chord := by
  unfold State.closeShort
  dsimp only
  rw [at']
  rfl

/-- R60: the record does not belong to the chord `a` that is being assembled. -/
def NoteRecord.Strays (x : NoteRecord) (a : Assembly) : Prop :=
  x.kind = .chartEnd ∨ ((x.kind = .tap ∨ x.kind = .hold) ∧ (x.chord ≠ a.size ∨ x.time ≠ a.time ∨ x.lane ∈ a.lanes))

theorem assemblyTest_of_strays (opened : (s.fetcher pl).assembly = some a) (strays : x.Strays a) :
    s.assemblyTest pl x = s.closeShort pl a := by
  unfold State.assemblyTest
  rw [opened]
  refine if_pos ?_
  rcases strays with k | ⟨k, apart⟩
  · simp [k, Assembly.admits]
  · refine ⟨or_assoc.mp (.inl k), ?_⟩
    simp only [Assembly.admits, decide_eq_true_eq]
    rintro ⟨-, size, time, lane⟩
    rcases apart with h | h | h
    exacts [h size, h time, lane h]

theorem markShort_idem (e : Entry) : e.markShort.markShort = e.markShort := by
  unfold Entry.markShort
  by_cases late : e.flags.lateFetch = true
  · rw [if_pos late, if_pos late]
  · rw [if_neg late]
    exact if_neg late

theorem markShort_eq (e : Entry) : e.markShort =
    { e with flags := if e.flags.lateFetch then e.flags else { e.flags with chordShort := true } } := by
  unfold Entry.markShort; split <;> rfl

theorem keeps_shortened : Keeps [.judge pl, .fetcher pl, .score pl, .notice, .fault] s (s.shortened pl a c) :=
  (((keeps_markedShort.mono (by simp)).logFault _ _ _ _ (by simp)).onScore _).onFetcher _

theorem fetcher_shortened : (s.shortened pl a c).fetcher pl = { s.fetcher pl with assembly := none } := by
  have before : (s.markedShort pl a c).fetcher pl = s.fetcher pl := keeps_markedShort.2 (.fetcher pl) (by simp)
  rw [← before]
  exact fetcher_onFetcher_same ..

theorem judge_shortened : ∃ pool, (s.shortened pl a c).judge pl =
    { s.judge pl with pool, chords := (s.judge pl).chords.set a.chord (some { c with expected := a.found }) } := by
  obtain ⟨pool, judge, -⟩ := judge_onEntries (pl := pl) (f := Entry.markShort)
    (s.setChord pl a.chord (some { c with expected := a.found })) c.members
  exact ⟨pool, Eq.trans judge (by rw [judge_setChord])⟩

theorem chord_shortened : (s.shortened pl a c).chord pl a.chord = some { c with expected := a.found } := by
  obtain ⟨_, judge⟩ := judge_shortened (s := s) (pl := pl) (a := a) (c := c)
  rw [State.chord, judge]
  exact Tab.get_set_same ..

theorem params_shortened : (s.shortened pl a c).params pl = s.params pl := by
  obtain ⟨_, judge⟩ := judge_shortened (s := s) (pl := pl) (a := a) (c := c)
  rw [State.params, judge]; rfl

theorem entry_shortened_of_notMem (no : m ∉ c.members) : (s.shortened pl a c).entry pl m = s.entry pl m :=
  (entry_onEntries_of_notMem (s := s.setChord pl a.chord (some { c with expected := a.found })) no).trans (entry_setChord ..)

theorem entry_shortened_of_mem (low : m < (s.judge pl).pool.length) (mem : m ∈ c.members) :
    (s.shortened pl a c).entry pl m = { s.entry pl m with
      flags := if (s.entry pl m).flags.lateFetch then (s.entry pl m).flags else { (s.entry pl m).flags with chordShort := true } } := by
  rw [← markShort_eq]
  refine (entry_onEntries_of_mem (s := s.setChord pl a.chord (some { c with expected := a.found })) markShort_idem
    (by rw [judge_setChord]; exact low) mem).trans ?_
  rw [entry_setChord]

theorem score_shortened : (s.shortened pl a c).scoreUnit pl = (s.scoreUnit pl).recordFault := by
  have before : (s.markedShort pl a c).scoreUnit pl = s.scoreUnit pl := keeps_markedShort.2 (.score pl) (by simp)
  rw [← before]
  exact State.scoreUnit_setScore_same ..

theorem logged_shortened : Logged s (s.shortened pl a c) .chordShort (some pl) (s.fetcher pl).seq (s.fetcher pl).index
    s.clock.songTime 0 :=
  logged_logFault (u := s.markedShort pl a c) .chordShort (some pl) _ _ 0 (keeps_markedShort.2 .fault (by simp))
    (Eq.trans (keeps_markedShort.2 .notice (by simp)) (BitVec.or_zero (x := s.notice)).symm) (keeps_markedShort.2 .clock (by simp))

/-- R60: a chord closed short with a member yet to report. -/
theorem closeShort_of_partial (at' : s.chord pl a.chord = some c) (open' : c.judged ≠ a.found) :
    s.closeShort pl a = s.shortened pl a c := by
  rw [closeShort_eq at', settleChordIfComplete_of_partial chord_shortened open']

/-- R60, R111: a chord closed short with every member found reported. -/
theorem closeShort_of_whole (at' : s.chord pl a.chord = some c) (whole : c.judged = a.found) : s.closeShort pl a =
    (((s.shortened pl a c).graded pl { c with expected := a.found } (c.worst.getD .void)).setChord pl a.chord none).reportRoom pl
      none := by
  rw [closeShort_eq at', settleChordIfComplete_of_whole chord_shortened whole, settleChord_eq chord_shortened]

theorem fetcher_closeShort (at' : s.chord pl a.chord = some c) (fetching : (s.fetcher pl).state = .fetching) :
    (s.closeShort pl a).fetcher pl = { s.fetcher pl with assembly := none } := by
  by_cases whole : c.judged = a.found
  · have same : (((s.shortened pl a c).graded pl { c with expected := a.found } (c.worst.getD .void)).setChord pl a.chord none).fetcher pl
        = (s.shortened pl a c).fetcher pl := keeps_graded.2 (.fetcher pl) (by simp)
    rw [closeShort_of_whole at' whole, reportRoom_of_fetching (by rw [same, fetcher_shortened]; exact fetching), same, fetcher_shortened]
  · rw [closeShort_of_partial at' whole, fetcher_shortened]

theorem keeps_closeShort (at' : s.chord pl a.chord = some c) :
    Keeps [.judge pl, .fetcher pl, .score pl, .writer pl, .notice, .fault] s (s.closeShort pl a) := by
  by_cases whole : c.judged = a.found
  · rw [closeShort_of_whole at' whole]
    exact (keeps_shortened.mono (by simp)).trans (((keeps_graded.mono (by simp)).setChord _ _).trans (keeps_reportRoom.mono (by simp)))
  · rw [closeShort_of_partial at' whole]
    exact keeps_shortened.mono (by simp)

end closing

end Sys2Proof.Machine

namespace Sys2Proof.Machine

/-! ### Closing a chord short and accepting a record are independent (R56, R60) -/

/-- The part with the bus `b`, the fetcher's read over at the running times of `f`, and `e` in entry `i`. -/
def State.offer (s : State) (pl : Player) (i : Nat) (b : Bus) (f : Fetcher) (e : Entry) : State :=
  ((s.setBus b).onFetcher pl (fun g =>
    { g with read := none, lastTime := f.lastTime, laneLast := f.laneLast, holdBusy := f.holdBusy })).onEntry pl i (fun _ => e)

section offering
variable {s : State} {pl : Player} {i m : Nat} {b : Bus} {f : Fetcher} {e : Entry} {k : Fin 8} {l : List Nat} {h : Entry → Entry}

theorem accepted_eq_offer (x : NoteRecord) (flags : ResultFlags) : s.accepted pl i x flags =
    s.offer pl i (Freed s.bus) ((s.fetcher pl).runTimes x) ((s.fetcher pl).entryOf x flags) := by
  cases pl <;> rfl

theorem setChord_offer (c : Option Chord) :
    (s.offer pl i b f e).setChord pl k c = (s.setChord pl k c).offer pl i b f e := by cases pl <;> rfl

theorem onScore_offer (g : Score → Score) : (s.offer pl i b f e).onScore pl g = (s.onScore pl g).offer pl i b f e := rfl

theorem logFault_offer (kind : FaultKind) (q : Option Player) (seq index : Nat) :
    (s.offer pl i b f e).logFault kind q seq index = (s.logFault kind q seq index).offer pl i b f e := rfl

theorem fetcher_offer : (s.offer pl i b f e).fetcher pl = { s.fetcher pl with
    read := none, lastTime := f.lastTime, laneLast := f.laneLast, holdBusy := f.holdBusy } :=
  fetcher_onFetcher_same (s.setBus b) pl (fun g =>
    { g with read := none, lastTime := f.lastTime, laneLast := f.laneLast, holdBusy := f.holdBusy })

theorem chord_offer : (s.offer pl i b f e).chord pl k = s.chord pl k := chord_onEntry ..

theorem params_offer : (s.offer pl i b f e).params pl = s.params pl := params_onEntry _

theorem entry_offer (other : m ≠ i) : (s.offer pl i b f e).entry pl m = s.entry pl m := entry_onEntry_ne _ other

theorem onEntry_comm (other : m ≠ i) (g : Entry → Entry) :
    (s.onEntry pl i g).onEntry pl m h = (s.onEntry pl m h).onEntry pl i g := by
  simp only [State.onEntry, State.onJudge, State.judge_setJudge_same, Judge.onEntry, List.modify_modify_ne g h _ other.symm]
  cases pl <;> rfl

theorem onEntry_offer (other : m ≠ i) : (s.offer pl i b f e).onEntry pl m h = (s.onEntry pl m h).offer pl i b f e :=
  (onEntry_comm other _).trans rfl

theorem onEntries_offer (apart : i ∉ l) : (s.offer pl i b f e).onEntries pl l h = (s.onEntries pl l h).offer pl i b f e := by
  induction l generalizing s with
  | nil => rfl
  | cons m l ih =>
    obtain ⟨other, rest⟩ := not_or.mp (List.mem_cons.not.mp apart)
    exact (congrArg (State.onEntries · pl l h) (onEntry_offer (Ne.symm other))).trans (ih rest)

theorem finishMember_offer (other : m ≠ i) : (s.offer pl i b f e).finishMember pl m = (s.finishMember pl m).offer pl i b f e := by
  have entry : (s.offer pl i b f e).entry pl m = s.entry pl m := entry_offer other
  by_cases judged : (s.entry pl m).state = .judged
  · rw [finishMember_of_judged judged, finishMember_of_judged (by rw [entry]; exact judged), State.makeFinal, onEntry_offer other]
    rfl
  · rw [finishMember_of_not judged, finishMember_of_not (by rw [entry]; exact judged)]

theorem finishMembers_offer (apart : i ∉ l) : (s.offer pl i b f e).finishMembers pl l = (s.finishMembers pl l).offer pl i b f e := by
  induction l generalizing s with
  | nil => rfl
  | cons m l ih =>
    obtain ⟨other, rest⟩ := not_or.mp (List.mem_cons.not.mp apart)
    exact (congrArg (State.finishMembers · pl l) (finishMember_offer (Ne.symm other))).trans (ih rest)

theorem clearAssembly_offer : (s.offer pl i b f e).onFetcher pl (fun f => { f with assembly := none }) =
    (s.onFetcher pl (fun f => { f with assembly := none })).offer pl i b f e := by cases pl <;> rfl

theorem reportRoom_offer {lane : Option Nat} (fetching : (s.fetcher pl).state = .fetching) :
    (s.offer pl i b f e).reportRoom pl lane = (s.reportRoom pl lane).offer pl i b f e := by
  have idle {u : State} (fetching : (u.fetcher pl).state = .fetching) : u.reportRoom pl lane = u := by
    have same := reportRoom_of_fetching (lane := lane) fetching
    rw [State.reportRoom, fetcher_onFetcher_same] at same
    rw [State.reportRoom, State.onFetcher, same]
    cases pl <;> rfl
  rw [idle fetching, idle (by rw [fetcher_offer]; exact fetching)]

variable {a : Assembly} {c : Chord} {g : Grade}

theorem shortened_offer (apart : i ∉ c.members) :
    (s.offer pl i b f e).shortened pl a c = (s.shortened pl a c).offer pl i b f e := by
  unfold State.shortened State.markedShort
  rw [setChord_offer, onEntries_offer apart, fetcher_offer, logFault_offer, onScore_offer, clearAssembly_offer]

theorem graded_offer (apart : i ∉ c.members) :
    (s.offer pl i b f e).graded pl c g = (s.graded pl c g).offer pl i b f e := by
  unfold State.graded State.settle
  rw [params_offer, onScore_offer, onEntries_offer apart, finishMembers_offer apart, onEntries_offer apart]

theorem closeShort_offer (apart : i ∉ c.members) (at' : s.chord pl a.chord = some c) (fetching : (s.fetcher pl).state = .fetching) :
    (s.offer pl i b f e).closeShort pl a = (s.closeShort pl a).offer pl i b f e := by
  have at'' : (s.offer pl i b f e).chord pl a.chord = some c := chord_offer.trans at'
  by_cases whole : c.judged = a.found
  · rw [closeShort_of_whole at' whole, closeShort_of_whole at'' whole, shortened_offer apart,
      graded_offer (c := { c with expected := a.found }) apart, setChord_offer, reportRoom_offer]
    rw [show State.fetcher (State.setChord _ pl a.chord none) pl = (s.shortened pl a c).fetcher pl from
      keeps_graded.2 (.fetcher pl) (by simp), fetcher_shortened]
    exact fetching
  · rw [closeShort_of_partial at' whole, closeShort_of_partial at'' whole, shortened_offer apart]

end offering

/-- Settles O45: `numberHead` opens and joins; `closeShort` marks and settles, and commutes with accepting the record. -/
theorem chordsAreAssembled : Obligations.ChordsAreAssembled := by
  intro s pl i x low f
  refine ⟨fun k many closed free least room => numberHead_opens_effect low many closed free least room,
    fun a c many opened at' => numberHead_joins_effect low many opened at', ?closes, ?belongs, ?reads⟩
  case closes =>
    intro a c opened at' strays t marked counted reported
    have is : t = s.closeShort pl a := assemblyTest_of_strays opened strays
    obtain ⟨fault, notice⟩ := logged_shortened (s := s) (pl := pl) (a := a) (c := c)
    constructor
    · intro open'
      rw [closeShort_of_partial at' open'] at is
      simp only [reported, is]
      exact ⟨⟨⟨fault, notice⟩, fun m no => entry_shortened_of_notMem no⟩, chord_shortened, fetcher_shortened,
        fun m mem inside => entry_shortened_of_mem inside mem, score_shortened, keeps_shortened⟩
    · intro g whole worst fetching distinct states
      have fetcher : t.fetcher pl = { f with assembly := none } := by rw [is, fetcher_closeShort at' fetching]
      have keeps : Keeps [.judge pl, .fetcher pl, .score pl, .writer pl, .notice, .fault] s t := is ▸ keeps_closeShort at'
      let u := s.shortened pl a c
      let v := u.graded pl { c with expected := a.found } g
      rw [closeShort_of_whole at' whole, worst] at is
      have judge : t.judge pl = (v.setChord pl a.chord none).judge pl := by rw [is]; rfl
      have entry (m : Nat) : t.entry pl m = v.entry pl m := by rw [State.entry, judge]; exact entry_setChord a.chord none m
      have rest : Keeps [.judge pl, .fetcher pl] v t := by
        rw [is]; exact ((Keeps.refl v).setChord _ _).trans (keeps_reportRoom.mono (by simp))
      have before : Keeps [.judge pl, .score pl, .writer pl] u v := keeps_graded
      have marks : ∀ m ∈ c.members, u.entry pl m = { s.entry pl m with flags := marked m } := fun m mem =>
        entry_shortened_of_mem (lt_of_entry_ne_free (fun free => by
          have state := states m mem
          rw [free] at state
          simp at state)) mem
      obtain ⟨entries, writer⟩ := graded_effect (s := u) (pl := pl) (c := { c with expected := a.found }) (g := g) distinct
        (fun m mem => by
          rw [marks m mem]
          intro free
          have state := states m mem
          rw [show (s.entry pl m).state = .free from free] at state
          simp at state)
      have filtered : c.members.filter (fun m => (u.entry pl m).state = .judged)
          = c.members.filter (fun m => (s.entry pl m).state = .judged) :=
        List.filter_congr (fun m mem => by rw [marks m mem])
      refine ⟨⟨⟨?_, ?_⟩, fun m no => ?_⟩, ?_, fetcher, fun m mem => ?_, ?_, ?_, keeps⟩
      · exact Eq.trans (rest.2 .fault (by simp)) (Eq.trans (before.2 .fault (by simp)) fault)
      · exact Eq.trans (rest.2 .notice (by simp)) (Eq.trans (before.2 .notice (by simp)) notice)
      · exact (entry m).trans ((entry_graded_of_notMem no).trans (entry_shortened_of_notMem no))
      · rw [State.chord, judge]
        exact chord_setChord_same ..
      · rw [entry m, entries m mem, marks m mem]
      · rw [show t.scoreUnit pl = v.scoreUnit pl from rest.2 (.score pl) (by simp), score_graded, params_shortened, score_shortened]
        rfl
      · rw [show t.writer pl = v.writer pl from rest.2 (.writer pl) (by simp), writer,
          show u.writer pl = s.writer pl from keeps_shortened.2 (.writer pl) (by simp)]
        exact congrArg (fun l : List Nat => { s.writer pl with queue := (s.writer pl).queue ++ l.map WriteItem.result }) filtered
  case belongs =>
    intro a opened stays
    refine assemblyTest_of_admitted (fun b same kind => ?_)
    obtain rfl : a = b := Option.some.inj (opened.symm.trans same)
    rcases stays with k | k | ⟨k, size, time, lane⟩
    · simp [k] at kind
    · simp [k] at kind
    · simp [Assembly.admits, k, size, time, lane]
  case reads =>
    intro a c r d flags opened at' apart strays carrying read live reserved fetching good repaired closed
    have is : closed = s.closeShort pl a := assemblyTest_of_strays opened strays
    have fetcher : closed.fetcher pl = { f with assembly := none } := by rw [is, fetcher_closeShort at' fetching]
    have keeps : Keeps [.judge pl, .fetcher pl, .score pl, .writer pl, .notice, .fault] s closed := is ▸ keeps_closeShort at'
    have bus : closed.bus = s.bus := keeps.2 .bus (by simp)
    have session : closed.session pl = s.session pl := keeps.2 (.session pl) (by simp)
    have carrying' : Carrying closed (.fetch pl .record) := by rw [Carrying, bus]; exact carrying
    refine ⟨by rw [fetcher], carrying', _, recordReadDone_accepts carrying read live reserved good repaired, ?_⟩
    rw [recordReadDone_accepts carrying' (by rw [fetcher]; exact read) live (by rw [fetcher]; exact reserved)
      (by rw [fetcher, session]; exact good) repaired]
    have accepted : closed.accepted pl i x flags = closed.offer pl i (Freed s.bus) (f.runTimes x) (f.entryOf x flags) := by
      rw [accepted_eq_offer, bus, fetcher]; rfl
    have first : (s.accepted pl i x flags).assemblyTest pl x = closed.accepted pl i x flags := by
      rw [assemblyTest_of_strays (by rw [fetcher_accepted]; exact opened) strays, accepted_eq_offer,
        closeShort_offer apart at' fetching, accepted, is]
    have second : (closed.accepted pl i x flags).assemblyTest pl x = closed.accepted pl i x flags := by
      refine assemblyTest_of_admitted (fun b opened' _ => ?_)
      rw [fetcher_accepted, fetcher] at opened'
      cases opened'
    rw [first, second]

end Sys2Proof.Machine

namespace Sys2Proof.Machine

/-! ### Finishing a player's entries (R114, R115) -/

section finishing
variable {s t : State} {pl : Player} {but : List Part}

theorem keeps_markHold (h : Keeps but s t) (lane : Nat) (on : Bool) (k : ∀ i, Part.pad i ∈ but) : Keeps but s (t.markHold pl lane on) := by
  unfold State.markHold; split
  exacts [h, h.setPad _ (k _)]

/-- The parts that finishing a player's entries may change. -/
def finishParts (pl : Player) : List Part := [.judge pl, .score pl, .writer pl, .pad .pad0, .pad .pad1]

theorem judge_mem_finishParts : Part.judge pl ∈ finishParts pl := by simp [finishParts]
theorem score_mem_finishParts : Part.score pl ∈ finishParts pl := by simp [finishParts]
theorem writer_mem_finishParts : Part.writer pl ∈ finishParts pl := by simp [finishParts]
theorem pad_mem_finishParts (i : PadId) : Part.pad i ∈ finishParts pl := by cases i <;> simp [finishParts]

section steps
variable (h : Keeps (finishParts pl) s t)
include h

theorem keeps_voidChord (k : Fin 8) : Keeps (finishParts pl) s (t.voidChord pl k) := by
  unfold State.voidChord; split
  · exact h
  · exact ((h.onScore _ score_mem_finishParts).foldl _ (fun _ i h => h.onEntry i _ judge_mem_finishParts)).setChord _ _
      judge_mem_finishParts

theorem keeps_unitVoided (unit : Option Nat) : Keeps (finishParts pl) s (t.voidUnit pl unit) :=
  h.trans ((keeps_voidUnit unit).mono (by simp [finishParts]))

/-- An entry leaves its list and is FINAL. -/
theorem keeps_cleaned (i lane : Nat) : Keeps (finishParts pl) s (((t.onEntry pl i (fun e => { e with chord := none })).onJudge pl
    (fun j => { j.dropFromLane lane i with beats := j.beats.erase i })).makeFinal pl i) :=
  ((h.onEntry i _ judge_mem_finishParts).onJudge _ judge_mem_finishParts).makeFinal i judge_mem_finishParts writer_mem_finishParts

theorem keeps_finishEntry (i : Nat) : Keeps (finishParts pl) s (t.finishEntry pl i) := by
  have entry {u : State} (k : Keeps (finishParts pl) s u) (f : Entry → Entry) : Keeps (finishParts pl) s (u.onEntry pl i f) :=
    k.onEntry i f judge_mem_finishParts
  unfold State.finishEntry; dsimp only; split
  case h_1 =>
    refine keeps_cleaned ?_ i _
    split <;> split
    · exact keeps_unitVoided (entry (keeps_unitVoided (entry (entry h _) _) _) _) _
    · exact keeps_unitVoided (entry (entry h _) _) _
    · exact keeps_unitVoided (entry (entry h _) _) _
    · exact entry h _
  case h_2 => exact keeps_cleaned (entry h _) i _
  case h_3 => exact keeps_cleaned (entry h _) i _
  case h_4 => exact keeps_cleaned (keeps_markHold (keeps_unitVoided (entry h _) _) _ false pad_mem_finishParts) i _
  case h_5 => exact keeps_cleaned (keeps_markHold (keeps_unitVoided (entry h _) _) _ false pad_mem_finishParts) i _
  case h_6 => exact keeps_cleaned h i _
  case h_7 => exact h

end steps

theorem keeps_finishEntries : Keeps (finishParts pl) s (s.finishEntries pl) :=
  ((Keeps.refl s).foldl _ (fun _ k h => keeps_voidChord h k)).foldl _ (fun _ i h => keeps_finishEntry h i)

end finishing

/-! ### Entering CLOSING (R68, R152) -/

section closing
variable {s : State} {pl : Player}

theorem fetcher_returnReserved : (s.returnReserved pl).fetcher pl = { s.fetcher pl with reserved := none } := by
  unfold State.returnReserved; split
  · next none => rw [← none]
  · exact fetcher_onFetcher_same ..

theorem keeps_returnReserved : Keeps [.judge pl, .fetcher pl] s (s.returnReserved pl) := by
  unfold State.returnReserved; split
  exacts [.refl s, ((Keeps.refl s).onEntry _ _).onFetcher _]

/-- R154: what asking for the final scoreboard may change. -/
theorem keeps_askFinal : Keeps [.session pl, .refresh] s (s.askFinal pl) := by
  unfold State.askFinal; split
  exacts [((Keeps.refl s).onSession _).setRefresh _, .refl s]

theorem state_askFinal : ((s.askFinal pl).session pl).state = (s.session pl).state := by
  unfold State.askFinal; split
  · exact (congrArg Session.state (State.session_setSession_same s pl { s.session pl with finalAsked := true }) :)
  · rfl

/-- The part with the outcome concluded, the player CLOSING and its fetcher stopped. -/
def State.stopped (s : State) (pl : Player) (o : StageOutcome) : State :=
  ((s.onScore pl (fun c => c.conclude o)).onSession pl (fun x => { x with state := .closing, finalAsked := false })).stopFetcher pl

theorem enterClosing_eq (o : StageOutcome) : s.enterClosing pl o = ((s.stopped pl o).finishEntries pl).askFinal pl := rfl

theorem fetcher_stopped (o : StageOutcome) : (s.stopped pl o).fetcher pl = { s.fetcher pl with reserved := none }.stop := by
  rw [State.stopped, State.stopFetcher, fetcher_onFetcher_same, fetcher_returnReserved]
  rfl

theorem keeps_stopped (o : StageOutcome) : Keeps [.judge pl, .fetcher pl, .session pl, .score pl] s (s.stopped pl o) :=
  (((Keeps.refl s).onScore _).onSession _).trans ((keeps_returnReserved.mono (by simp)).onFetcher _)

theorem session_stopped (o : StageOutcome) :
    (s.stopped pl o).session pl = { s.session pl with state := .closing, finalAsked := false } := by
  have after : (s.stopped pl o).session pl = State.session (State.onSession (s.onScore pl _) pl _) pl :=
    (keeps_returnReserved.trans ((Keeps.refl _).onFetcher _)).2 (.session pl) (by simp)
  exact after.trans (State.session_setSession_same ..)

theorem score_stopped (o : StageOutcome) : (s.stopped pl o).scoreUnit pl = (s.scoreUnit pl).conclude o := by
  have after : (s.stopped pl o).scoreUnit pl = State.scoreUnit (State.onSession (s.onScore pl _) pl _) pl :=
    (keeps_returnReserved.trans ((Keeps.refl _).onFetcher _)).2 (.score pl) (by simp)
  exact after.trans (State.scoreUnit_setScore_same ..)

/-- The parts that entering CLOSING may change. -/
def closingParts (pl : Player) : List Part := [.fetcher pl, .session pl, .refresh] ++ finishParts pl

theorem keeps_enterClosing (o : StageOutcome) : Keeps (closingParts pl) s (s.enterClosing pl o) := by
  rw [enterClosing_eq]
  exact ((keeps_stopped o).mono (by simp [closingParts, finishParts])).trans
    ((keeps_finishEntries.mono (List.subset_append_right ..)).trans (keeps_askFinal.mono (by simp)))

theorem fetcher_enterClosing (o : StageOutcome) :
    (s.enterClosing pl o).fetcher pl = { s.fetcher pl with reserved := none }.stop := by
  rw [← fetcher_stopped o, enterClosing_eq]
  exact Eq.trans (keeps_askFinal.2 (.fetcher pl) (by simp)) (keeps_finishEntries.2 (.fetcher pl) (by simp [finishParts]))

theorem state_enterClosing (o : StageOutcome) : ((s.enterClosing pl o).session pl).state = .closing := by
  have kept : ((s.stopped pl o).finishEntries pl).session pl = (s.stopped pl o).session pl :=
    keeps_finishEntries.2 (.session pl) (by simp [finishParts])
  rw [enterClosing_eq, state_askFinal, kept, session_stopped]

/-- R132: the first cause names the outcome, and finishing the entries leaves it. -/
theorem outcome_enterClosing {o : StageOutcome} (decided : o ≠ .none) : ((s.enterClosing pl o).scoreUnit pl).outcome =
    if (s.scoreUnit pl).outcome = .none then o else (s.scoreUnit pl).outcome := by
  have concluded : ((s.stopped pl o).scoreUnit pl).outcome =
      if (s.scoreUnit pl).outcome = .none then o else (s.scoreUnit pl).outcome := by
    rw [score_stopped, Score.conclude]; split <;> rfl
  have move : Moves (· = pl) (s.stopped pl o) (s.enterClosing pl o) := by
    rw [enterClosing_eq]
    exact Moves.askFinal (Moves.finishEntries Moves.refl rfl) rfl
  rw [← concluded]
  refine (move.score pl).outcome ?_
  rw [concluded]
  split
  exacts [decided, ‹_›]

end closing

/-! ### Structural faults (R52) -/

section breaking
variable {s : State} {pl : Player} (kind : FaultKind) (seq index : Nat)

/-- R52: what a structural fault leaves. -/
theorem structuralFault_effect : let t := s.structuralFault pl kind seq index
    (t.fetcher pl).state = .halted ∧ (t.fetcher pl).read = none ∧ (t.fetcher pl).reserved = none
      ∧ (t.fetcher pl).tracker = (s.fetcher pl).tracker ∧ (t.session pl).state = .closing
      ∧ (t.scoreUnit pl).outcome = (if (s.scoreUnit pl).outcome = .none then .faulted else (s.scoreUnit pl).outcome)
      ∧ Logged s t kind (some pl) seq index s.clock.songTime 0 ∧ t.bus = s.bus := by
  let u := (s.returnReserved pl).onFetcher pl (fun f => { f with state := .halted, read := none })
  have before : Keeps [.judge pl, .fetcher pl] s u := keeps_returnReserved.onFetcher _
  have fetcher : u.fetcher pl = { s.fetcher pl with reserved := none, state := .halted, read := none } := by
    rw [show u.fetcher pl = _ from fetcher_onFetcher_same .., fetcher_returnReserved]
  have after := keeps_enterClosing (s := u.logFault kind (some pl) seq index) (pl := pl) .faulted
  have stopped : ((s.structuralFault pl kind seq index)).fetcher pl = { u.fetcher pl with reserved := none }.stop :=
    fetcher_enterClosing (s := u.logFault kind (some pl) seq index) .faulted
  rw [fetcher] at stopped
  obtain ⟨fault, notice⟩ := logged_logFault (s := s) (u := u) kind (some pl) seq index 0 (before.2 .fault (by simp))
    (Eq.trans (before.2 .notice (by simp)) (BitVec.or_zero (x := s.notice)).symm) (before.2 .clock (by simp))
  have outcome := outcome_enterClosing (s := u.logFault kind (some pl) seq index) (pl := pl) (o := .faulted) nofun
  rw [show (u.logFault kind (some pl) seq index).scoreUnit pl = s.scoreUnit pl from before.2 (.score pl) (by simp)] at outcome
  refine ⟨by rw [stopped]; rfl, by rw [stopped]; rfl, by rw [stopped]; rfl, by rw [stopped]; rfl, state_enterClosing .faulted, outcome,
    ⟨Eq.trans (after.2 .fault ?_) fault, Eq.trans (after.2 .notice ?_) notice⟩,
    Eq.trans (after.2 .bus ?_) (before.2 .bus (by simp))⟩
  all_goals simp [closingParts, finishParts]

end breaking

end Sys2Proof.Machine

namespace Sys2Proof.Machine

/-! ### The reads that fail (R47, R50, R51) -/

section failing
variable {s : State} {pl : Player} {k : FaultKind}

theorem headerRead_of_bad {d : BitVec 128} (bad : headerFault (s.fetcher pl).seq 0 (parseHeader d) = some k) :
    s.headerRead pl (some d) = s.structuralFault pl k (s.fetcher pl).seq 0 := by
  unfold State.headerRead
  dsimp only
  rw [bad]

theorem rereadHeader_of_bad {d : BitVec 128} (bad : headerFault (s.fetcher pl).seq (s.fetcher pl).fill (parseHeader d) = some k) :
    s.rereadHeader pl (some d) = s.structuralFault pl k (s.fetcher pl).seq (s.fetcher pl).index := by
  unfold State.rereadHeader
  dsimp only
  rw [bad]

theorem linkRead_of_bad {d : BitVec 32} (link : d ≠ 0) (bad : s.window.goodLink d.toNat = false) :
    s.linkRead pl (some d) = s.structuralFault pl .pageLink (s.fetcher pl).seq 31 := by
  have link' : fieldAt d 0 4 ≠ 0 := by rw [fieldAt_whole]; exact fun e => link (BitVec.eq_of_toNat_eq e)
  unfold State.linkRead
  dsimp only
  rw [if_neg link', fieldAt_whole, bad]
  rfl

/-- R200: a transfer of the fetcher that BUS_TIMEOUT or its end frees the bus of. -/
theorem isFetchOf_same (pl : Player) (kind : FetchKind) : Xfer.isFetchOf pl (.fetch pl kind) = true := decide_eq_true rfl

/-- R68: the end of a read whose result is to be discarded. -/
theorem exec_fetchReadDiscarded {r : FetchRead} {kind : FetchKind} (c : Carrying s (.fetch pl kind))
    (read : (s.fetcher pl).read = some r) (discard : r.discard = true) (ok : Bool) :
    exec (.fetchReadDiscarded pl ok) s = .next ((s.readBack pl).askFinal pl) := by
  have unwanted : s.readUnwanted pl = true := by
    rw [State.readUnwanted, State.discards, read]
    exact Bool.or_eq_true_iff.mpr (.inl discard)
  have ended : s.freeBus.endRead pl (fun s => s) = (s.readBack pl).askFinal pl := by
    have here : (s.freeBus.fetcher pl).read = some r := read
    rw [State.endRead, here]
    exact if_pos discard
  refine congrArg Host.Outcome.next ((if_pos unwanted).trans ?_)
  rw [State.endTransfer_carrying _ _ _ c (isFetchOf_same ..), ended]

theorem askFinal_of_not (h : (s.session pl).state ≠ .closing) : s.askFinal pl = s := if_neg (fun k => h k.1)

end failing

/-- Settles O41: every check that fails leads to `structuralFault`, whose effect is stated once; a discarded read asks no more
than the final scoreboard. -/
theorem faultsAndDiscardedReads : Obligations.FaultsAndDiscardedReads := by
  refine ⟨?faults, ?discards⟩
  case faults =>
    intro s pl r read live f breaks tag seq fill
    have back : (s.readBack pl).fetcher pl = { f with read := none } := fetcher_readBack s pl
    have breaks' {c : Instr} {kind : FaultKind} {index : Nat}
        (done : exec c s = .next ((s.readBack pl).structuralFault pl kind f.seq index)) : breaks c kind index := by
      obtain ⟨state, none, reserved, tracker, closing, outcome, ⟨fault, notice⟩, bus⟩ :=
        structuralFault_effect (s := s.readBack pl) (pl := pl) kind f.seq index
      exact ⟨_, done, state, none, reserved, tracker.trans (by rw [back]), closing, outcome, ⟨fault, notice⟩, bus⟩
    refine ⟨fun c => ?header, fun c => ?reread, fun c => ?record, fun c => ?link⟩
    case header =>
      have done (reply) := exec_headerReadDone c read live reply
      have bad {d : BitVec 128} {kind : FaultKind} (fails : headerFault f.seq 0 (parseHeader d) = some kind) :
          breaks (.headerReadDone pl (some d)) kind 0 := by
        refine breaks' ((done _).trans ?_)
        rw [headerRead_of_bad (by rw [back]; exact fails), back]
      refine ⟨breaks' ((done none).trans ?_), fun d h => bad ?_, fun d t h => bad ?_, fun d t q h => bad ?_⟩
      · rw [show (s.readBack pl).headerRead pl none = State.structuralFault _ pl .busRead ((s.readBack pl).fetcher pl).seq 0 from rfl, back]
      · rw [headerFault_eq, if_pos h]
      · rw [headerFault_eq, if_neg (not_not.mpr t), if_pos h]
      · rw [headerFault_eq, if_neg (not_not.mpr t), if_neg (not_not.mpr q), if_pos h]
    case reread =>
      have done (reply) := exec_fillRereadDone c read live reply
      have bad {d : BitVec 128} {kind : FaultKind} (fails : headerFault f.seq f.fill (parseHeader d) = some kind) :
          breaks (.fillRereadDone pl (some d)) kind f.index := by
        refine breaks' ((done _).trans ?_)
        rw [rereadHeader_of_bad (by rw [back]; exact fails), back]
      refine ⟨breaks' ((done none).trans ?_), fun d h => bad ?_, fun d t h => bad ?_, fun d t q h => bad ?_⟩
      · rw [show (s.readBack pl).rereadHeader pl none = State.structuralFault _ pl .busRead ((s.readBack pl).fetcher pl).seq
          ((s.readBack pl).fetcher pl).index from rfl, back]
      · rw [headerFault_eq, if_pos h]
      · rw [headerFault_eq, if_neg (not_not.mpr t), if_pos h]
      · rw [headerFault_eq, if_neg (not_not.mpr t), if_neg (not_not.mpr q)]
        by_cases long : 31 < fieldAt d 10 2
        · rw [if_pos long]
        · rw [if_neg long, if_pos (h.resolve_left long)]
    case record =>
      refine breaks' ((exec_recordReadDone c read live none).trans ?_)
      rw [show (s.readBack pl).recordRead pl none = State.structuralFault _ pl .busRead ((s.readBack pl).fetcher pl).seq
        ((s.readBack pl).fetcher pl).index from rfl, back]
    case link =>
      have done (reply) := exec_linkReadDone c read live reply
      refine ⟨breaks' ((done none).trans ?_), fun d link bad => breaks' ((done (some d)).trans ?_)⟩
      · rw [show (s.readBack pl).linkRead pl none = State.structuralFault _ pl .busRead ((s.readBack pl).fetcher pl).seq 31 from rfl,
          back]
      · have astray : (s.readBack pl).window.goodLink d.toNat = false := by
          rw [← Bool.not_eq_true, goodLink_iff]
          rintro ⟨aligned, low, high⟩
          rcases bad with h | h | h
          exacts [h aligned, absurd low (Nat.not_le.mpr h), absurd high (Nat.not_le.mpr h)]
        rw [linkRead_of_bad link astray, back]
  case discards =>
    intro s pl kind r ok c read discard
    have back : (s.readBack pl).fetcher pl = { s.fetcher pl with read := none } := fetcher_readBack s pl
    refine ⟨_, exec_fetchReadDiscarded c read discard ok, keeps_askFinal.2 .bus (by simp),
      Eq.trans (keeps_askFinal.2 (.fetcher pl) (by simp)) back, fun still => ?_, fun closing unasked empty idle => ?_⟩
    · rw [askFinal_of_not (s := s.readBack pl) still]
      exact keeps_readBack s pl
    · have asks : (s.readBack pl).askFinal pl = State.setRefresh _ _ := if_pos ⟨closing, by
        rw [show (s.readBack pl).session pl = s.session pl from rfl, unasked]
        exact Bool.false_ne_true, empty, idle, by rw [back]⟩
      rw [asks]
      exact ⟨State.session_setSession_same .., rfl, (((keeps_readBack s pl).mono (by simp)).onSession _).setRefresh _⟩

end Sys2Proof.Machine

namespace Sys2Proof.Machine

/-! ### What the judge's steps leave of stages and fetchers (R50, R51, R72)

A judge tells a fetcher no more than that a STALLED record has room (R72). So of stages and fetchers all stays but the report of a
fetcher that is STALLED, until a player enters CLOSING. -/

/-- A fetcher but for whether a report has come in while it is STALLED. -/
def Fetcher.settled (f : Fetcher) : Fetcher := if f.state = .stalled then { f with roomReport := true } else f

/-- The stages, and the fetchers but for reports. -/
def State.walkers (s : State) : PerPlayer Session × PerPlayer Fetcher :=
  (s.sessions, ⟨s.fetchers.p0.settled, s.fetchers.p1.settled⟩)

namespace State

variable (s : State) (pl : Player)

@[simp] theorem walkers_setLamps (x : Lamps) : (s.setLamps x).walkers = s.walkers := rfl
@[simp] theorem walkers_onJudge (f : Judge → Judge) : (s.onJudge pl f).walkers = s.walkers := rfl
@[simp] theorem walkers_onScore (f : Score → Score) : (s.onScore pl f).walkers = s.walkers := rfl
@[simp] theorem walkers_onWriter (f : Writer → Writer) : (s.onWriter pl f).walkers = s.walkers := rfl
@[simp] theorem walkers_onEntry (i : Nat) (f : Entry → Entry) : (s.onEntry pl i f).walkers = s.walkers := rfl
@[simp] theorem walkers_setChord (k : Fin 8) (c : Option Chord) : (s.setChord pl k c).walkers = s.walkers := rfl
@[simp] theorem walkers_settle (x : Settlement) : (s.settle pl x).walkers = s.walkers := rfl
@[simp] theorem walkers_makeFinal (i : Nat) : (s.makeFinal pl i).walkers = s.walkers := rfl

@[simp] theorem walkers_markHold (lane : Nat) (on : Bool) : (s.markHold pl lane on).walkers = s.walkers := by
  unfold State.markHold; split <;> rfl

variable {s} in
theorem walkers_foldl {α : Type} (f : State → α → State) (step : ∀ t a, (f t a).walkers = t.walkers) (l : List α) :
    (l.foldl f s).walkers = s.walkers :=
  List.foldlRecOn (motive := fun (t : State) => t.walkers = s.walkers) l f rfl (fun t h a _ => (step t a).trans h)

/-- R72: the one thing that a judge tells a fetcher. -/
@[simp] theorem walkers_reportRoom (lane : Option Nat) : (s.reportRoom pl lane).walkers = s.walkers := by
  have settled (f : Fetcher) : Fetcher.settled (match f.state, f.inHand with
      | .stalled, some r =>
        if lane = none ∨ (r.kind.laneBound ∧ lane = some r.lane) then { f with roomReport := true } else f
      | _, _ => f) = f.settled := by
    split
    · next stalled _ =>
      split
      · simp [Fetcher.settled, stalled]
      · rfl
    · rfl
  cases pl
  · exact congrArg (fun f => (s.sessions, (⟨f, s.fetchers.p1.settled⟩ : PerPlayer Fetcher))) (settled _)
  · exact congrArg (fun f => (s.sessions, (⟨s.fetchers.p0.settled, f⟩ : PerPlayer Fetcher))) (settled _)

/-! #### Lamps, entries, lists and chords (Lamps.lean, Judge.lean) -/

@[simp] theorem walkers_trigger (k : Trigger) (level : Nat) (pad : PadId) (p : PanelId) :
    (s.trigger pl k level pad p).walkers = s.walkers := by
  unfold State.trigger; split <;> rfl

@[simp] theorem walkers_triggerBeat (level : Nat) : (s.triggerBeat pl level).walkers = s.walkers :=
  walkers_foldl _ (fun _ _ => walkers_trigger ..) _

@[simp] theorem walkers_triggerLane (k : Trigger) (level lane : Nat) : (s.triggerLane pl k level lane).walkers = s.walkers := by
  unfold State.triggerLane; split <;> simp

@[simp] theorem walkers_leaveLane (i : Nat) : (s.leaveLane pl i).walkers = s.walkers := walkers_reportRoom ..
@[simp] theorem walkers_leaveBeats (i : Nat) : (s.leaveBeats pl i).walkers = s.walkers := walkers_reportRoom ..

@[simp] theorem walkers_finishMember (i : Nat) : (s.finishMember pl i).walkers = s.walkers := by
  unfold State.finishMember; split <;> simp

@[simp] theorem walkers_settleChord (k : Fin 8) : (s.settleChord pl k).walkers = s.walkers := by
  unfold State.settleChord; split
  · rfl
  · refine (walkers_reportRoom ..).trans ((walkers_setChord ..).trans ((walkers_foldl _ (fun _ _ => walkers_onEntry ..) _).trans ?_))
    exact (walkers_foldl _ (fun _ _ => walkers_finishMember ..) _).trans (walkers_foldl _ (fun _ _ => walkers_onEntry ..) _)

@[simp] theorem walkers_settleChordIfComplete (k : Fin 8) : (s.settleChordIfComplete pl k).walkers = s.walkers := by
  unfold State.settleChordIfComplete; split
  · rfl
  · split <;> simp

@[simp] theorem walkers_reportGrade (k : Fin 8) (g : Grade) : (s.reportGrade pl k g).walkers = s.walkers := by
  unfold State.reportGrade; split <;> simp

@[simp] theorem walkers_settleUnitOf (u : Option Nat) (g : Grade) : (s.settleUnitOf pl u g).walkers = s.walkers := by
  unfold State.settleUnitOf; split <;> simp

@[simp] theorem walkers_finishTap (i : Nat) : (s.finishTap pl i).walkers = s.walkers := by
  unfold State.finishTap; dsimp only; split <;> simp

@[simp] theorem walkers_settleHead (i : Nat) : (s.settleHead pl i).walkers = s.walkers := by
  unfold State.settleHead; dsimp only; split <;> simp

@[simp] theorem walkers_settleTail (u : Option Nat) (held : Bool) (delta : Int) :
    (s.settleTail pl u held delta).walkers = s.walkers := by
  unfold State.settleTail; split <;> simp

@[simp] theorem walkers_finalOrJudged (i : Nat) : (s.finalOrJudged pl i).walkers = s.walkers := by
  unfold State.finalOrJudged; split <;> simp

@[simp] theorem walkers_completeTail (i : Nat) (held : Bool) : (s.completeTail pl i held).walkers = s.walkers := by
  unfold State.completeTail; simp

@[simp] theorem walkers_enterHeld (i : Nat) : (s.enterHeld pl i).walkers = s.walkers := by
  unfold State.enterHeld; dsimp only; split <;> simp

@[simp] theorem walkers_endSlip (i : Nat) (q : Int) : (s.endSlip pl i q).walkers = s.walkers := walkers_completeTail ..
@[simp] theorem walkers_slipAt (i : Nat) (q : Int) (forced : Bool) : (s.slipAt pl i q forced).walkers = s.walkers := rfl

@[simp] theorem walkers_slipHold (i : Nat) (q : Int) (forced : Bool) : (s.slipHold pl i q forced).walkers = s.walkers := by
  unfold State.slipHold; dsimp only; split
  · simp
  · split <;> simp

@[simp] theorem walkers_gradeEntry (i : Nat) (d : Int) : (s.gradeEntry pl i d).walkers = s.walkers := by
  unfold State.gradeEntry; dsimp only; split <;> simp

@[simp] theorem walkers_lapseEntry (i : Nat) : (s.lapseEntry pl i).walkers = s.walkers := by
  unfold State.lapseEntry; dsimp only; split <;> simp

@[simp] theorem walkers_strikeEntry (i : Nat) (d : Int) : (s.strikeEntry pl i d).walkers = s.walkers := by
  unfold State.strikeEntry; simp

@[simp] theorem walkers_avoidEntry (i : Nat) : (s.avoidEntry pl i).walkers = s.walkers := by
  unfold State.avoidEntry; simp

@[simp] theorem walkers_crossEntry (i : Nat) (p : PanelState) : (s.crossEntry pl i p).walkers = s.walkers := by
  unfold State.crossEntry; split <;> simp

@[simp] theorem walkers_passBeat (i : Nat) : (s.passBeat pl i).walkers = s.walkers := by
  unfold State.passBeat; simp

/-! #### Presses, releases and due times (Matching.lean) -/

theorem walkers_testAvoid (p : Int) (i : Nat) : (s.testAvoid pl p i).walkers = s.walkers := by
  unfold State.testAvoid; dsimp only; split <;> simp

@[simp] theorem walkers_matchOrFree (l : Nat) (p : Int) : (s.matchOrFree pl l p).walkers = s.walkers := by
  have tested := walkers_foldl (s := s) (fun t i => t.testAvoid pl p i) (fun _ _ => walkers_testAvoid ..) ((s.judge pl).lane l)
  unfold State.matchOrFree; dsimp only; split
  · exact (walkers_gradeEntry ..).trans tested
  · exact tested

theorem walkers_usePress (l : Nat) (p : Int) : (s.usePress pl l p).walkers = s.walkers := by
  unfold State.usePress; split
  · split <;> simp
  · simp

theorem walkers_serveDue (seen : PerPad Pad) (i : Nat) : (s.serveDue seen pl i).walkers = s.walkers := by
  unfold State.serveDue; dsimp only; split
  · simp
  · simp
  · split <;> simp
  · simp
  · split <;> simp
  · rfl

theorem walkers_reconcileEntry (i : Nat) : (s.reconcileEntry pl i).walkers = s.walkers := by
  unfold State.reconcileEntry; dsimp only; split
  · split <;> simp
  · split <;> simp
  · rfl

end State

end Sys2Proof.Machine

namespace Sys2Proof.Machine

/-! ### Stages and fetchers through a chain of steps -/

/-- A player that is CLOSING stays so, and as long as it is not CLOSING its fetcher has had no more than reports. -/
structure Walks (s t : State) : Prop where
  closing : ∀ q, (s.session q).state = .closing → (t.session q).state = .closing
  fetcher : ∀ q, (t.session q).state = .closing ∨ (t.fetcher q).settled = (s.fetcher q).settled

namespace Walks

variable {s t u : State} {pl : Player}

theorem refl (s : State) : Walks s s := ⟨fun _ h => h, fun _ => .inr rfl⟩

theorem trans (h : Walks s t) (k : Walks t u) : Walks s u where
  closing q x := k.closing q (h.closing q x)
  fetcher q := by
    rcases k.fetcher q with closing | same
    · exact .inl closing
    · rcases h.fetcher q with closing | before
      exacts [.inl (k.closing q closing), .inr (same.trans before)]

theorem of_walkers (e : t.walkers = s.walkers) : Walks s t := by
  have session : t.sessions = s.sessions := congrArg Prod.fst e
  have fetcher : (⟨t.fetchers.p0.settled, t.fetchers.p1.settled⟩ : PerPlayer Fetcher)
      = ⟨s.fetchers.p0.settled, s.fetchers.p1.settled⟩ := congrArg Prod.snd e
  refine ⟨fun q h => ?_, fun q => .inr ?_⟩
  · rwa [show t.session q = s.session q from congrArg (PerPlayer.get · q) session]
  · cases q
    exacts [congrArg PerPlayer.p0 fetcher, congrArg PerPlayer.p1 fetcher]

theorem step (h : Walks s t) (e : u.walkers = t.walkers) : Walks s u := h.trans (.of_walkers e)

/-! #### Closing (Closing.lean) -/

theorem enterClosing (h : Walks s t) (pl : Player) (o : StageOutcome) : Walks s (t.enterClosing pl o) := by
  have others {q : Player} (n : q ≠ pl) : (t.enterClosing pl o).session q = t.session q
      ∧ (t.enterClosing pl o).fetcher q = t.fetcher q :=
    ⟨(keeps_enterClosing o).2 (.session q) (by simp [closingParts, finishParts, n]),
      (keeps_enterClosing o).2 (.fetcher q) (by simp [closingParts, finishParts, n])⟩
  refine h.trans ⟨fun q x => ?_, fun q => ?_⟩ <;> by_cases same : q = pl
  · exact same ▸ state_enterClosing o
  · rwa [(others same).1]
  · exact .inl (same ▸ state_enterClosing o)
  · exact .inr (by rw [(others same).2])

theorem endJudgeStep (h : Walks s t) (pl : Player) : Walks s (t.endJudgeStep pl) := by
  unfold State.endJudgeStep; split
  exacts [h.enterClosing pl .failed, h]

theorem clearingCheck (h : Walks s t) (pl : Player) : Walks s (t.clearingCheck pl) := by
  unfold State.clearingCheck; split
  · exact h
  · split
    exacts [h.enterClosing pl .cleared, h]

theorem abortIfPlaying (h : Walks s t) (pl : Player) : Walks s (t.abortIfPlaying pl) := by
  unfold State.abortIfPlaying; split
  exacts [h.enterClosing pl .aborted, h]

theorem eachPlayer (h : Walks s t) (first : Player) (f : Player → State → State) (each : ∀ pl u, Walks s u → Walks s (f pl u)) :
    Walks s (t.eachPlayer first f) := each _ _ (each _ _ h)

/-! #### The judges (Matching.lean) -/

theorem judgePress (h : Walks s t) (pl : Player) (pad : PadId) (p : PanelId) (stamp : Int) :
    Walks s (t.judgePress pl pad p stamp) := by
  unfold State.judgePress; split
  · exact h
  · split
    · split
      · exact (h.step (State.walkers_usePress ..)).endJudgeStep pl
      · exact h.step (State.walkers_onScore ..)
      · exact h
    · exact h

theorem judgeRelease (h : Walks s t) (pl : Player) (pad : PadId) (p : PanelId) (stamp : Int) (forced : Bool) :
    Walks s (t.judgeRelease pl pad p stamp forced) := by
  unfold State.judgeRelease; split
  · exact h
  · split
    · split
      exacts [h, (h.step (State.walkers_slipHold ..)).endJudgeStep pl]
    · exact h

theorem serveDues (seen : PerPad Pad) (pl : Player) (v : Int) (fuel : Nat) : ∀ t, Walks s t → Walks s (t.serveDues seen pl v fuel) := by
  induction fuel with
  | zero => exact fun _ h => h
  | succ fuel ih =>
    intro t h
    unfold State.serveDues; split
    · split
      · exact h
      · exact ih _ ((h.step (State.walkers_serveDue ..)).endJudgeStep pl)
    · exact h

theorem handOver (h : Walks s t) (seen : PerPad Pad) (pl : Player) (v : Int) : Walks s (t.handOver seen pl v) :=
  ((serveDues seen pl v _ _ (h.step (State.walkers_onJudge ..))).step (State.walkers_onJudge ..)).clearingCheck pl

theorem handToBoth (h : Walks s t) (first : Player) : Walks s (t.handToBoth first) :=
  h.eachPlayer first _ (fun pl u k => k.handOver u.pads pl u.clock.songTime)

theorem playIfArmed (h : Walks s t) (pl : Player) : Walks s (t.playIfArmed pl) := by
  unfold State.playIfArmed; split
  · next armed =>
    have began : Walks s (t.onSession pl (fun x => { x with state := .playing })) := by
      refine h.trans ⟨fun q closing => ?_, fun q => .inr rfl⟩
      have other : q ≠ pl := by rintro rfl; rw [armed] at closing; cases closing
      rw [State.onSession, State.session_setSession_ne _ _ _ _ other]
      exact closing
    exact (serveDues _ pl _ _ _ began).clearingCheck pl
  · exact h

theorem reconcile (h : Walks s t) (pl : Player) : Walks s (t.reconcile pl) := by
  unfold State.reconcile; split
  · exact (h.step (State.walkers_foldl _ (fun _ _ => State.walkers_reconcileEntry ..) _)).endJudgeStep pl
  · exact h

/-! #### The requests of slot 0 (Requests.lean) -/

theorem complete (h : Walks s t) (slot : SlotId) (tag : BitVec 16) (st : Status) (result : Word) :
    Walks s (t.complete slot tag st result) := h.step rfl

theorem songStart (h : Walks s t) (r : Request) : Walks s (t.songStart r) := by
  unfold State.songStart; split
  · exact (h.step (u := t.onClock _) rfl).handToBoth .p0
  all_goals exact h.complete ..

theorem songStop (h : Walks s t) (r : Request) (first : Player) : Walks s (t.songStop r first) := by
  have cancelled : Walks s (t.cancelWaiting.onClock Clock.stop) := by
    unfold State.cancelWaiting; split
    exacts [h.step rfl, h.step rfl]
  unfold State.songStop; split
  · exact h.complete ..
  all_goals exact (cancelled.eachPlayer first _ (fun pl _ k => k.abortIfPlaying pl)).complete ..

theorem serve (h : Walks s t) (first : Player) (r : Request) : Walks s (t.serve .slot0 first r) := by
  unfold State.serve; split
  · exact h.songStart r
  · unfold State.songPause; split
    exacts [h.step rfl, h.complete ..]
  · unfold State.songResume; split
    exacts [h.step rfl, h.complete ..]
  · exact h.songStop r first
  · unfold State.loadProfile; split
    · exact h.complete ..
    · split
      · exact h.complete ..
      · split
        exacts [h.complete .., h.step rfl]
  · unfold State.calibrate; split
    · exact h.complete ..
    · split
      · exact h.complete ..
      · split
        exacts [h.complete .., h.step rfl]
  · exact h.step rfl
  · next _ slot => cases slot
  · next _ slot => cases slot
  · next _ slot => cases slot
  · exact h.complete ..

theorem completeWaiting (h : Walks s t) (st : Status) (result : Word) (first : Player) :
    Walks s (t.completeWaiting st result first) := by
  unfold State.completeWaiting; split
  · exact h
  · unfold State.startHeld; split
    · exact h.step rfl
    · refine Walks.serve ?_ first _
      exact h.step rfl

/-! #### The stages of a round (Round.lean) -/

theorem flagOwner (h : Walks s t) (pad : PadId) (f : BitVec 16) : Walks s (t.flagOwner pad f) := by
  rw [flagOwner_eq]; exact h.step rfl

theorem clockStrobe (s : State) (first : Player) : Walks s (s.clockStrobe first).state :=
  clockStrobe_induction (P := Walks s) first (.refl s) (fun _ _ _ h => h.step rfl) (fun _ _ h => h.step rfl)
    (fun _ h => h.handToBoth first) (fun _ pl h => h.playIfArmed pl) (fun _ pl h => h.reconcile pl)
    (fun _ st result h => h.completeWaiting st result first)

theorem healthStep (h : Walks s t) (n : SensorName) : Walks s (t.healthStep n) := by
  by_cases tracked : (t.pad n.pad).tracked n.panel n.sensor = true
  · rw [healthStep_of_tracked t n tracked]
    split
    · rw [failSensor_eq]
      refine Walks.step (Walks.flagOwner ?_ n.pad _) rfl
      exact h.step rfl
    · split
      · rw [recoverSensor_eq]
        refine Walks.flagOwner ?_ n.pad _
        exact h.step rfl
      · exact h.step rfl
  · rw [healthStep_of_untracked t n tracked]
    exact h

theorem calibrationRound (h : Walks s t) (pad : PadId) (stamp : Int) : Walks s (t.calibrationRound pad stamp) := by
  have keeps := (calibrationRound_keeps t pad stamp).1
  exact h.trans ⟨fun q x => (congrArg Session.state (keeps.2 (.session q) (by simp))).trans x,
    fun q => .inr (congrArg Fetcher.settled (keeps.2 (.fetcher q) (by simp)))⟩

theorem senseRound (h : Walks s t) (r : Readings) (sensors : List SensorName) (stamp : Int) :
    Walks s (t.senseRound r sensors stamp) := by
  refine (Walks.calibrationRound ?_ .pad0 stamp).calibrationRound .pad1 stamp
  exact List.foldlRecOn _ _ (h.step rfl) (fun _ k n _ => k.healthStep n)

theorem emitAll (h : Walks s t) (pad : PadId) (p : PanelId) (e : Option PadEvent) : Walks s (t.emitAll pad p e) := by
  cases e with
  | none => exact h
  | some e =>
    cases e with
    | press stamp =>
      show Walks s (t.emit pad p (.press stamp))
      unfold State.emit; dsimp only; split
      exacts [h, h.judgePress ..]
    | release stamp forced =>
      have flagged : Walks s (if forced then t.flagOwner pad flagForcedRelease else t) := by
        split
        exacts [h.flagOwner pad _, h]
      show Walks s (t.emit pad p (.release stamp forced))
      unfold State.emit; dsimp only; split
      exacts [flagged, flagged.judgeRelease ..]

theorem roundItem (h : Walks s t) (pre seen : PerPad Pad) (stamp : Int) (handed : Bool) (x : RoundItem) :
    Walks s (t.roundItem pre seen stamp handed x) := by
  cases x with
  | handOver pl =>
    unfold State.roundItem; dsimp only; split
    exacts [h.handOver .., h]
  | panel pad p =>
    unfold State.roundItem; dsimp only; split
    · rw [roundPanel_eq]; split
      · refine Walks.emitAll ?_ ..
        exact h.step rfl
      · exact h
    · exact h
  | countdown => exact h.step (State.walkers_setLamps ..)

theorem roundItems (h : Walks s t) (pre seen : PerPad Pad) (stamp : Int) (handed : Bool) (l : List RoundItem) :
    Walks s (t.roundItems pre seen stamp handed l) := List.foldlRecOn l _ h (fun _ k x _ => k.roundItem pre seen stamp handed x)

end Walks

/-- A strobe up to the round's end (R1, R19). -/
theorem walks_roundStrobe (s : State) (r : Readings) (order : RoundOrder) :
    ∃ v, Walks s v ∧ s.roundStrobe r order = v.endRound := by
  obtain ⟨seen, handed, stages⟩ := roundStrobe_stages s r order
  have strobed := Walks.clockStrobe s order.first
  generalize (s.clockStrobe order.first).state = c at strobed stages
  exact ⟨_, (strobed.senseRound r order.sensors c.clock.songTime).roundItems c.pads seen c.clock.songTime handed _, stages⟩

end Sys2Proof.Machine

namespace Sys2Proof.Machine

/-! ### The poll counts at the end of a round (R50, R51) -/

section polls
variable {s : State} {pl : Player}

theorem keeps_askPoll : Keeps [.fetcher pl] s (s.askPoll pl) := by
  unfold State.askPoll; dsimp only; split
  · split
    · exact (Keeps.refl s).onFetcher _
    · exact (Keeps.refl s).onFetcher _
    · exact .refl s
  · exact .refl s

theorem keeps_pollRound : Keeps [.fetcher pl] s (s.pollRound pl) := by
  unfold State.pollRound; dsimp only; split
  exacts [((Keeps.refl s).onFetcher _).trans keeps_askPoll, .refl s]

/-- R50, R51: what a round does to a fetcher that polls. -/
theorem fetcher_pollRound {f : Fetcher} (is : s.fetcher pl = f) (polling : f.state = .fillPoll ∨ f.state = .linkPoll)
    (quiet : f.read = none) :
    (f.poll < 7 → (s.pollRound pl).fetcher pl = { f with poll := f.poll + 1 })
      ∧ (f.poll = 7 → (s.pollRound pl).fetcher pl = { f with
          poll := 8, read := some (if f.state = .fillPoll then ⟨.reread, f.page, false⟩ else ⟨.link, f.page + 4, false⟩) }) := by
  subst is
  let u := s.onFetcher pl (fun f => { f with poll := f.poll + 1 })
  have counted : u.fetcher pl = { s.fetcher pl with poll := (s.fetcher pl).poll + 1 } := fetcher_onFetcher_same ..
  have round (few : (s.fetcher pl).poll < 8) : s.pollRound pl = u.askPoll pl := if_pos ⟨polling, quiet, few⟩
  constructor
  · intro few
    rw [round (by omega), askPoll_of_not (.inl (by rw [counted]; show (s.fetcher pl).poll + 1 < 8; omega)), counted]
  · intro last
    have due : 8 ≤ (u.fetcher pl).poll := by rw [counted]; show 8 ≤ (s.fetcher pl).poll + 1; omega
    have still : (u.fetcher pl).read = none := by rw [counted]; exact quiet
    rw [round (by omega)]
    rcases polling with fill | link
    · rw [askPoll_of_fill (by rw [counted]; exact fill) due still, fetcher_onFetcher_same, counted, if_pos fill, last]
      rfl
    · rw [askPoll_of_link (by rw [counted]; exact link) due still, fetcher_onFetcher_same, counted, if_neg (by rw [link]; exact nofun),
        last]
      rfl

/-- The end of a round up to the polls. -/
def State.timedRound (s : State) : State := s.shownRound.dumpRoundEnd.captureIfDue.timerRound

theorem timedRound_same : s.timedRound.sessions = s.sessions ∧ s.timedRound.fetchers = s.fetchers := by
  obtain ⟨_, timer⟩ := timerRound_eq s.shownRound.dumpRoundEnd.captureIfDue
  obtain ⟨_, _, captured⟩ := captureIfDue_eq s.shownRound.dumpRoundEnd
  obtain ⟨_, due⟩ := dumpRoundEnd_eq s.shownRound
  rw [State.timedRound, timer, captured, due]
  exact ⟨rfl, rfl⟩

theorem session_endRound : s.endRound.session pl = s.session pl := by
  have first : (s.timedRound.pollRound .p0).session pl = s.timedRound.session pl := keeps_pollRound.2 (.session pl) (by simp)
  have second : s.endRound.session pl = (s.timedRound.pollRound .p0).session pl := keeps_pollRound.2 (.session pl) (by simp)
  exact second.trans (first.trans (congrArg (PerPlayer.get · pl) timedRound_same.1))

/-- Each player's fetcher has one poll round. -/
theorem fetcher_endRound : ∃ u : State, u.fetcher pl = s.fetcher pl ∧ s.endRound.fetcher pl = (u.pollRound pl).fetcher pl := by
  have timed : s.timedRound.fetcher pl = s.fetcher pl := congrArg (PerPlayer.get · pl) timedRound_same.2
  cases pl
  · exact ⟨_, timed, keeps_pollRound.2 (.fetcher .p0) (by simp)⟩
  · exact ⟨s.timedRound.pollRound .p0, Eq.trans (keeps_pollRound.2 (.fetcher .p1) (by simp)) timed, rfl⟩

/-- R50, R51: a fetcher that polls through a round strobe. -/
theorem roundStrobe_polls (r : Readings) (order : RoundOrder)
    (polling : (s.fetcher pl).state = .fillPoll ∨ (s.fetcher pl).state = .linkPoll) (quiet : (s.fetcher pl).read = none)
    (on : ((s.roundStrobe r order).session pl).state ≠ .closing) :
    ((s.fetcher pl).poll < 7 → (s.roundStrobe r order).fetcher pl = { s.fetcher pl with poll := (s.fetcher pl).poll + 1 })
      ∧ ((s.fetcher pl).poll = 7 → (s.roundStrobe r order).fetcher pl = { s.fetcher pl with
          poll := 8,
          read := some (if (s.fetcher pl).state = .fillPoll then ⟨.reread, (s.fetcher pl).page, false⟩
            else ⟨.link, (s.fetcher pl).page + 4, false⟩) }) := by
  obtain ⟨v, walks, ended⟩ := walks_roundStrobe s r order
  rw [ended, session_endRound] at on
  have awake : (s.fetcher pl).state ≠ .stalled := by rcases polling with h | h <;> rw [h] <;> exact nofun
  have settled : (v.fetcher pl).settled = s.fetcher pl :=
    ((walks.fetcher pl).resolve_left on).trans (if_neg awake)
  have same : v.fetcher pl = s.fetcher pl := by
    by_cases stalled : (v.fetcher pl).state = .stalled
    · refine absurd ?_ awake
      rw [← settled, Fetcher.settled, if_pos stalled]
      exact stalled
    · rw [← settled, Fetcher.settled, if_neg stalled]
  obtain ⟨u, before, after⟩ := fetcher_endRound (s := v) (pl := pl)
  rw [ended, after]
  exact fetcher_pollRound (before.trans same) polling quiet

end polls

/-! ### Stages while the song stands still (R78, R85, R87) -/

section still
variable {s t : State}

/-- R3: nothing but the phase moves while the clock stands still. -/
theorem clockStrobe_of_still (first : Player) (still : s.clock.state = .idle ∨ (s.clock.state = .paused ∧ s.clock.change ≠ .resume)) :
    s.clockStrobe first = ⟨s.onClock Clock.countPhase, false⟩ := by
  have state : (s.onClock Clock.countPhase).clock.state = s.clock.state := rfl
  have change : (s.onClock Clock.countPhase).clock.change = s.clock.change := rfl
  unfold State.clockStrobe
  dsimp only
  rw [state, change]
  rcases still with idle | ⟨paused, stays⟩
  · rw [idle]
  · rw [paused]
    exact if_neg stays

section events
variable (off : t.clock.state ≠ .running)
include off

/-- R78: a press while the song does not run is a free step at most. -/
theorem sessions_judgePress_of_still (pl : Player) (pad : PadId) (p : PanelId) (stamp : Int) :
    (t.judgePress pl pad p stamp).sessions = t.sessions := by
  unfold State.judgePress; split
  · rfl
  · split
    · split
      · next running => exact absurd running off
      · rfl
      · rfl
    · rfl

/-- R85: a release while the song does not run reaches no hold. -/
theorem judgeRelease_of_still (pl : Player) (pad : PadId) (p : PanelId) (stamp : Int) (forced : Bool) :
    t.judgeRelease pl pad p stamp forced = t := by
  unfold State.judgeRelease; split
  · rfl
  · exact if_neg (fun h => off h.2)

theorem sessions_emitAll_of_still (pad : PadId) (p : PanelId) (e : Option PadEvent) :
    (t.emitAll pad p e).sessions = t.sessions := by
  cases e with
  | none => rfl
  | some e =>
    cases e with
    | press stamp =>
      show (t.emit pad p (.press stamp)).sessions = _
      unfold State.emit; dsimp only; split
      exacts [rfl, sessions_judgePress_of_still off ..]
    | release stamp forced =>
      have flagged : (if forced then t.flagOwner pad flagForcedRelease else t).sessions = t.sessions
          ∧ (if forced then t.flagOwner pad flagForcedRelease else t).clock = t.clock := by
        split
        · rw [flagOwner_eq]; exact ⟨rfl, rfl⟩
        · exact ⟨rfl, rfl⟩
      show (t.emit pad p (.release stamp forced)).sessions = _
      unfold State.emit; dsimp only; split
      · exact flagged.1
      · rw [judgeRelease_of_still (by rw [flagged.2]; exact off)]
        exact flagged.1

theorem sessions_roundItem_of_still (pre seen : PerPad Pad) (stamp : Int) (x : RoundItem) :
    (t.roundItem pre seen stamp false x).sessions = t.sessions := by
  cases x with
  | handOver pl => rfl
  | panel pad p =>
    unfold State.roundItem; dsimp only; split
    · rw [roundPanel_eq]; split
      · exact sessions_emitAll_of_still (t := t.setPad pad _) off ..
      · rfl
    · rfl
  | countdown => exact State.sessions_setLamps ..

end events

theorem clock_roundItem (pre seen : PerPad Pad) (stamp : Int) (handed : Bool) (x : RoundItem) :
    (t.roundItem pre seen stamp handed x).clock = t.clock := by
  rcases roundItem_cases pre seen stamp handed t x with same | ⟨_, _, -, -, step⟩
  exacts [(congrArg State.clock same :), (congrArg State.clock step :)]

theorem session_senseRound (r : Readings) (sensors : List SensorName) (stamp : Int) (pl : Player) :
    (s.senseRound r sensors stamp).session pl = s.session pl := by
  have first := (calibrationRound_keeps (s.healthRound r sensors) .pad0 stamp).1.2 (.session pl) (by simp)
  have second := (calibrationRound_keeps ((s.healthRound r sensors).calibrationRound .pad0 stamp) .pad1 stamp).1.2 (.session pl)
    (by simp)
  exact Eq.trans second (Eq.trans first (congrArg (PerPlayer.get · pl) (sessions_healthRound s r sensors)))

/-- A round strobe while the song stands still leaves the stages. -/
theorem session_roundStrobe_of_still {pl : Player} (r : Readings) (order : RoundOrder)
    (still : s.clock.state = .idle ∨ (s.clock.state = .paused ∧ s.clock.change ≠ .resume)) :
    (s.roundStrobe r order).session pl = s.session pl := by
  have off : s.clock.state ≠ .running := by rcases still with h | ⟨h, -⟩ <;> rw [h] <;> exact nofun
  let c := s.onClock Clock.countPhase
  obtain ⟨seen, stages⟩ : ∃ seen, s.roundStrobe r order =
      ((c.senseRound r order.sensors c.clock.songTime).roundItems c.pads seen c.clock.songTime false
        (inOrder order.items allItems)).endRound := by
    unfold State.roundStrobe
    rw [clockStrobe_of_still order.first still]
    exact ⟨_, rfl⟩
  let v := c.senseRound r order.sensors c.clock.songTime
  have clock : v.clock = c.clock := ((AfterStrobe.refl c).senseRound r order.sensors _).beside.clock
  have items : (v.roundItems c.pads seen c.clock.songTime false (inOrder order.items allItems)).sessions = v.sessions
      ∧ (v.roundItems c.pads seen c.clock.songTime false (inOrder order.items allItems)).clock = v.clock :=
    List.foldlRecOn (motive := fun (t : State) => t.sessions = v.sessions ∧ t.clock = v.clock) _ _ ⟨rfl, rfl⟩ (fun t h x _ =>
      ⟨(sessions_roundItem_of_still (by rw [h.2, clock]; exact off) ..).trans h.1, (clock_roundItem ..).trans h.2⟩)
  rw [stages, session_endRound]
  exact Eq.trans (congrArg (PerPlayer.get · pl) items.1) (session_senseRound ..)

end still

end Sys2Proof.Machine

namespace Sys2Proof.Machine

/-- Settles O40: the asks and the good ends of reads by what each leaves of the fetcher; a round strobe by `Walks`, which leaves a
fetcher that polls as it was up to the poll rounds at its end. -/
theorem fetcherReadsAndWalks : Obligations.FetcherReadsAndWalks := by
  refine ⟨?asks, ?walks, ?polls⟩
  case asks =>
    intro s pl op f
    have acts {c : Instr} {deal : State → State} (h : exec c s = .next (s.whenOperating deal)) {t : State}
        (e : deal s = t) : exec c s = .next t := h.trans (congrArg Host.Outcome.next ((whenOperating_of op deal).trans e))
    have asked (g : Fetcher → Fetcher) : (s.onFetcher pl g).fetcher pl = g f ∧ Keeps [.fetcher pl] s (s.onFetcher pl g) :=
      ⟨State.fetcher_setFetcher_same .., (Keeps.refl s).onFetcher g⟩
    refine ⟨fun wait quiet room => ⟨_, acts rfl (askHeader_of_wait wait quiet room), asked _⟩,
      fun h => acts rfl (askHeader_of_not h), ?reserve, fun full => acts rfl (reserveNext_of_full (freePlace_eq_none full)),
      fun h => acts rfl (reserveNext_of_not h), fun fill due quiet => ⟨_, acts rfl (askPoll_of_fill fill due quiet), asked _⟩,
      fun link due quiet => ⟨_, acts rfl (askPoll_of_link link due quiet), asked _⟩, fun h => acts rfl (askPoll_of_not h)⟩
    case reserve =>
      intro i fetching more quiet unreserved free low least
      have place := (freePlace_eq_some (s := s) (pl := pl)).mpr ⟨low, free, least⟩
      exact ⟨_, acts rfl (reserveNext_of_free fetching more quiet unreserved place), fetcher_reserved i, judge_reserved i,
        keeps_reserved (Keeps.refl s) i⟩
  case walks =>
    intro s pl r read live f
    refine ⟨fun d c tag seq fits unreserved => ?header, fun d c tag seq fits grown => ?reread,
      fun d c => ⟨linkReadDone_again c read live, fun some aligned low high => ?next⟩⟩
    case header => exact headerReadDone_effect c read live unreserved (headerFault_eq_none tag seq fits (Nat.zero_le _))
    case reread => exact fillRereadDone_effect c read live (headerFault_eq_none tag seq fits grown)
    case next => exact linkReadDone_next c read live some (goodLink_iff.mpr ⟨aligned, low, high⟩)
  case polls =>
    intro s pl r order op f polling quiet
    exact ⟨_, exec_roundStrobe op r order, roundStrobe_polls r order polling quiet, session_roundStrobe_of_still r order⟩

end Sys2Proof.Machine

namespace Sys2Proof.Machine

/-! ### The first check that fails (R141) -/

/-- The first of numbered checks that fails, with its status and its number. -/
def firstFailure (n : Nat) : List (Bool × Status) → Option (Status × Nat)
  | [] => none
  | (fails, status) :: rest => if fails then some (status, n) else firstFailure (n + 1) rest

/-- The checks say one after the other, as long as none has failed, whether the propositions hold. -/
def Tells : List (Prop × Status) → List (Bool × Status) → Prop
  | [], [] => True
  | (p, status) :: l, (fails, status') :: rest => (p ↔ fails = true) ∧ status = status' ∧ (¬ p → Tells l rest)
  | _, _ => False

theorem firstFailure_of_tells : ∀ {l : List (Prop × Status)} {checks : List (Bool × Status)}, Tells l checks → ∀ n : Nat,
    (∀ (k : Nat) (p : Prop) (status : Status), l[k]? = some (p, status) →
      (∀ j x, j < k → l[j]? = some x → ¬ x.1) → p → firstFailure n checks = some (status, n + k))
    ∧ ((∀ x ∈ l, ¬ x.1) → firstFailure n checks = none)
  | [], [], _, n => ⟨fun k p status h => by simp at h, fun _ => rfl⟩
  | (q, status') :: l, (fails, status'') :: rest, ⟨iff, same, later⟩, n => by
    subst same
    have passes (pass : ¬ q) : firstFailure n ((fails, status') :: rest) = firstFailure (n + 1) rest :=
      if_neg (fun f => pass (iff.mpr f))
    constructor
    · intro k p status at' before holds
      cases k with
      | zero =>
        obtain ⟨rfl, rfl⟩ : q = p ∧ status' = status := by simpa using at'
        exact if_pos (iff.mp holds)
      | succ k =>
        have pass : ¬ q := before 0 (q, status') (Nat.succ_pos k) rfl
        obtain ⟨first, -⟩ := firstFailure_of_tells (later pass) (n + 1)
        rw [passes pass, first k p status at' (fun j x less h => before (j + 1) x (Nat.succ_lt_succ less) h) holds]
        congr 2; omega
    · intro none
      have pass : ¬ q := none (q, status') List.mem_cons_self
      obtain ⟨-, clear⟩ := firstFailure_of_tells (later pass) (n + 1)
      rw [passes pass, clear (fun x m => none x (List.mem_cons_of_mem _ m))]
  | [], _ :: _, h, _ => h.elim
  | _ :: _, [], h, _ => h.elim

/-! ### The checks of ARM (R141, R142) -/

section checks
variable {s : State} {pl : Player} {d : Descriptor} {set : PadSet}

/-- The checks of ARM from the fourth on, in order. -/
def State.armTests (s : State) (pl : Player) (d : Descriptor) (set : PadSet) : List (Bool × Status) :=
  [(set.pads.any (fun i => (s.pad i).state = .unconfigured), .noProfile),
    (set.pads.any (fun i => (s.pad i).state = .calibrating), .busy),
    (set.pads.any (fun i => s.owner i = some pl.other), .padBusy),
    (decide (set = .double ∧ (s.session pl.other).state ≠ .idle ∧ (s.session pl.other).state ≠ .done), .padBusy),
    (decide (d.laneCount = 0 ∨ 12 < d.laneCount ∨ s.panelsAvailable set < d.laneCount), .badArg),
    (d.targets.any (fun t => !s.goodTarget set t), .badArg), (decide (¬ d.targets.Nodup), .badArg),
    (decide (d.n = 0), .badArg), (!s.window.goodPage d.firstPage, .badArg)]

theorem armChecks_eq : s.armChecks pl d set = firstFailure 4 (s.armTests pl d set) := by
  unfold State.armChecks State.armTests
  simp only [firstFailure, decide_eq_true_eq, Bool.not_eq_true']
  cases s.window.goodPage d.firstPage <;> rfl

end checks

end Sys2Proof.Machine

namespace Sys2Proof.Machine

/-! ### The panels that a descriptor's lanes name (R141, checks 9 and 10) -/

theorem padOfNumber_eq_some {n : Nat} {i : PadId} : padOfNumber n = some i ↔ n = padNumber i := by
  unfold padOfNumber
  split
  · cases i <;> simp [padNumber]
  · cases i <;> simp [padNumber]
  · next zero one =>
    refine ⟨nofun, fun number => ?_⟩
    cases i
    exacts [(zero number).elim, (one number).elim]

/-- A lane map byte names a pad with its high half and a panel with its low half. -/
theorem laneTarget_eq_some {b : Byte} {t : PadId × PanelId} :
    laneTarget b = some t ↔ b.toNat / 16 = padNumber t.1 ∧ b.toNat % 16 = t.2.val := by
  unfold laneTarget
  cases pad : padOfNumber (b.toNat / 16) with
  | none =>
    refine ⟨nofun, fun ⟨high, _⟩ => ?_⟩
    rw [padOfNumber_eq_some.mpr high] at pad
    cases pad
  | some i =>
    have number : b.toNat / 16 = padNumber i := padOfNumber_eq_some.mp pad
    have same (j : PadId) : b.toNat / 16 = padNumber j ↔ i = j := by
      rw [← padOfNumber_eq_some, pad, Option.some_inj]
    obtain ⟨j, p⟩ := t
    dsimp only
    rw [same]
    by_cases low : b.toNat % 16 < 6
    · rw [dif_pos low, Option.some_inj, Prod.mk.injEq, Fin.ext_iff]
    · rw [dif_neg low]
      refine ⟨nofun, fun ⟨_, panel⟩ => absurd (panel ▸ p.isLt) low⟩

theorem goodTarget_laneTarget {s : State} {set : PadSet} {b : Byte} : s.goodTarget set (laneTarget b) = true ↔
    ∃ i ∈ set.pads, b.toNat / 16 = padNumber i ∧ b.toNat % 16 < min 6 (s.pad i).profile.panelCount := by
  constructor
  · intro good
    cases target : laneTarget b with
    | none => rw [target] at good; cases good
    | some t =>
      rw [target] at good
      obtain ⟨inSet, within⟩ := (Bool.and_eq_true_iff.mp good).imp of_decide_eq_true of_decide_eq_true
      obtain ⟨high, low⟩ := laneTarget_eq_some.mp target
      exact ⟨t.1, inSet, high, by rw [low]; exact lt_min t.2.isLt within⟩
  · rintro ⟨i, inSet, high, low⟩
    rw [(laneTarget_eq_some (t := (i, ⟨b.toNat % 16, (lt_min_iff.mp low).1⟩))).mpr ⟨high, rfl⟩]
    exact Bool.and_eq_true_iff.mpr ⟨decide_eq_true inSet, decide_eq_true (lt_min_iff.mp low).2⟩

/-- Two bytes that name the same panel are the same. -/
theorem eq_of_laneTarget {b c : Byte} {t : PadId × PanelId} (first : laneTarget b = some t) (second : laneTarget c = some t) :
    b.toNat = c.toNat := by
  obtain ⟨high, low⟩ := laneTarget_eq_some.mp first
  obtain ⟨high', low'⟩ := laneTarget_eq_some.mp second
  omega

section descriptor
variable {s : State} {pl : Player} {data : BitVec 640} {set : PadSet}

/-- The byte of the lane map for lane `l`. -/
def laneByte (data : BitVec 640) (l : Nat) : Nat := fieldAt data (0x04 + l) 1

theorem laneByte_lt (l : Nat) : laneByte data l < 256 := Nat.mod_lt _ (by norm_num)

theorem toNat_laneByte (l : Nat) : (BitVec.ofNat 8 (laneByte data l)).toNat = laneByte data l := by
  rw [BitVec.toNat_ofNat]; exact Nat.mod_eq_of_lt (laneByte_lt l)

theorem targets_eq (few : (parseDescriptor data).laneCount ≤ 12) : (parseDescriptor data).targets =
    (List.range (parseDescriptor data).laneCount).map (fun l => laneTarget (BitVec.ofNat 8 (laneByte data l))) := by
  have cells : (parseDescriptor data).laneMap.cells = (List.finRange 12).map (fun i => BitVec.ofNat 8 (laneByte data i.val)) := rfl
  refine List.ext_getElem ?_ (fun l low low' => ?_)
  · simp [Descriptor.targets, cells, few]
  · simp [Descriptor.targets, cells]

/-- R141, check 9. -/
theorem targets_bad_iff (few : (parseDescriptor data).laneCount ≤ 12) :
    (∃ l < (parseDescriptor data).laneCount, ¬ ∃ i ∈ set.pads, laneByte data l / 16 = padNumber i
        ∧ laneByte data l % 16 < min 6 (s.pad i).profile.panelCount)
      ↔ (parseDescriptor data).targets.any (fun t => !s.goodTarget set t) = true := by
  rw [targets_eq few, List.any_map, List.any_eq_true]
  simp only [List.mem_range, Function.comp, Bool.not_eq_true', ← Bool.not_eq_true, goodTarget_laneTarget, toNat_laneByte]

/-- R141, check 10, once every target is good. -/
theorem targets_nodup_iff (few : (parseDescriptor data).laneCount ≤ 12)
    (good : ∀ l < (parseDescriptor data).laneCount, ∃ i ∈ set.pads, laneByte data l / 16 = padNumber i
      ∧ laneByte data l % 16 < min 6 (s.pad i).profile.panelCount) :
    (∃ l < (parseDescriptor data).laneCount, ∃ k < l, laneByte data l = laneByte data k)
      ↔ ¬ (parseDescriptor data).targets.Nodup := by
  have target (l : Nat) (low : l < (parseDescriptor data).laneCount) :
      ∃ t, laneTarget (BitVec.ofNat 8 (laneByte data l)) = some t := by
    refine Option.isSome_iff_exists.mp ?_
    have known : s.goodTarget set (laneTarget (BitVec.ofNat 8 (laneByte data l))) = true := by
      rw [goodTarget_laneTarget, toNat_laneByte]; exact good l low
    cases none : laneTarget (BitVec.ofNat 8 (laneByte data l)) with
    | none => rw [none] at known; cases known
    | some t => rfl
  have same {l k : Nat} (low : l < (parseDescriptor data).laneCount)
      (e : laneTarget (BitVec.ofNat 8 (laneByte data l)) = laneTarget (BitVec.ofNat 8 (laneByte data k))) :
      laneByte data l = laneByte data k := by
    obtain ⟨t, named⟩ := target l low
    have bytes := eq_of_laneTarget named (e ▸ named)
    rwa [toNat_laneByte, toNat_laneByte] at bytes
  rw [targets_eq few, List.nodup_map_iff_inj_on List.nodup_range]
  simp only [List.mem_range]
  constructor
  · rintro ⟨l, low, k, before, e⟩ once
    exact absurd (once l low k (before.trans low) (by rw [e])) (Nat.ne_of_gt before)
  · intro twice
    by_contra none
    refine twice (fun l low k low' e => ?_)
    rcases Nat.lt_trichotomy l k with less | equal | more
    · exact absurd ⟨k, low', l, less, (same low e).symm⟩ none
    · exact equal
    · exact absurd ⟨l, low, k, more, same low e⟩ none

end descriptor

end Sys2Proof.Machine

namespace Sys2Proof.Machine

/-! ### The end of a descriptor read that refuses (R141, R143) -/

/-- The checks of ARM from the fourth on, of a descriptor that names the pads given. -/
def State.armFails (s : State) (pl : Player) (data : BitVec 640) (pads : List PadId) (double : Prop) : List (Prop × Status) :=
  let lanes := fieldAt data 0x01 1
  let named (l : Nat) : Nat := fieldAt data (0x04 + l) 1
  let page := fieldAt data 0x10 4
  [(∃ i ∈ pads, (s.pad i).state = .unconfigured, .noProfile),
    (∃ i ∈ pads, (s.pad i).state = .calibrating, .busy), (∃ i ∈ pads, s.owner i = some pl.other, .padBusy),
    (double ∧ (s.session pl.other).state ∉ [.idle, .done], .padBusy),
    (lanes = 0 ∨ 12 < lanes ∨ (pads.map (fun i => (s.pad i).profile.panelCount)).sum < lanes, .badArg),
    (∃ l < lanes, ¬ ∃ i ∈ pads, named l / 16 = padNumber i ∧ named l % 16 < min 6 (s.pad i).profile.panelCount,
      .badArg),
    (∃ l < lanes, ∃ k < l, named l = named k, .badArg), (fieldAt data 0x16 2 = 0, .badArg),
    (¬ (page % 16 = 0 ∧ s.window.low ≤ page ∧ page + 511 ≤ s.window.high), .badArg)]

section refusing
variable {s u : State} {pl : Player} {data : BitVec 640} {ps : PadSet} {back : PlayerState}

theorem goodPage_iff {w : Window} {page : Nat} :
    w.goodPage page = true ↔ page % 16 = 0 ∧ w.low ≤ page ∧ page + 511 ≤ w.high := by
  rw [Window.goodPage, Bool.and_eq_true, decide_eq_true_iff]
  exact and_congr_right' decide_eq_true_iff

/-- R141: what the checks find, one after the other. -/
theorem armTests_tell : Tells (s.armFails pl data ps.pads (ps = .double)) (s.armTests pl (parseDescriptor data) ps) := by
  refine ⟨by simp, rfl, fun _ => ⟨by simp, rfl, fun _ => ⟨by simp, rfl, fun _ => ⟨by simp, rfl, fun _ => ⟨?_, rfl,
    fun fits => ?_⟩⟩⟩⟩⟩
  · exact decide_eq_true_iff.symm
  have few : (parseDescriptor data).laneCount ≤ 12 := by
    by_contra many
    exact fits (.inr (.inl (Nat.not_le.mp many)))
  refine ⟨targets_bad_iff few, rfl, fun good => ⟨?_, rfl, fun _ => ⟨decide_eq_true_iff.symm, rfl, fun _ => ⟨?_, rfl, fun _ => trivial⟩⟩⟩⟩
  · rw [decide_eq_true_iff]
    refine targets_nodup_iff (s := s) (set := ps) few (fun l low => ?_)
    by_contra bad
    exact good ⟨l, low, bad⟩
  · rw [Bool.not_eq_true', ← Bool.not_eq_true, goodPage_iff]
    rfl

/-- R143: what a refusal leaves. -/
theorem refuseArm_effect (status : Status) (check : Nat) (executing : (s.slot (slotOf pl)).executing ≠ none)
    (returns : (s.session pl).returnState = some back) (session : u.session pl = s.session pl) (work : u.work = s.work)
    (slot : u.slot (slotOf pl) = s.slot (slotOf pl)) :
    (u.refuseArm pl status check).session pl = { s.session pl with state := back, returnState := none }
      ∧ CompletedExecuting s (u.refuseArm pl status check) (slotOf pl) status (BitVec.ofNat 32 check)
      ∧ Keeps [.work, .slot (slotOf pl), .session pl] u (u.refuseArm pl status check) := by
  refine ⟨?_, completedExecuting_of_same status _ executing work slot,
    ((Keeps.refl u).onSession _).finishExecuting _ _ (by simp) (by simp)⟩
  rw [State.refuseArm, State.session_finishExecuting]
  refine (State.session_setSession_same ..).trans ?_
  rw [session]
  dsimp only
  rw [returns]
  rfl

theorem exec_descriptorReadDone {a : Nat} (c : Carrying s (.request (.descriptor pl a))) (reply : Option (BitVec 640)) :
    exec (.descriptorReadDone pl reply) s = .next (s.freeBus.descriptorRead pl reply) :=
  congrArg Host.Outcome.next (State.endTransfer_carrying _ _ _ c (decide_eq_true rfl))

theorem descriptorRead_of_unknownSet (unknown : parsePadSet (fieldAt data 0x00 1) = none) :
    u.descriptorRead pl (some data) = u.refuseArm pl .badArg 3 := by
  unfold State.descriptorRead
  dsimp only
  rw [show (parseDescriptor data).padSet = none from unknown]

theorem descriptorRead_of_failing {fail : Status × Nat} (known : parsePadSet (fieldAt data 0x00 1) = some ps)
    (fails : u.armChecks pl (parseDescriptor data) ps = some fail) :
    u.descriptorRead pl (some data) = u.refuseArm pl fail.1 fail.2 := by
  unfold State.descriptorRead
  dsimp only
  rw [show (parseDescriptor data).padSet = some ps from known]
  dsimp only
  rw [fails]

theorem descriptorRead_of_passing (known : parsePadSet (fieldAt data 0x00 1) = some ps)
    (passes : u.armChecks pl (parseDescriptor data) ps = none) :
    u.descriptorRead pl (some data) = u.armSuccess pl (parseDescriptor data) ps := by
  unfold State.descriptorRead
  dsimp only
  rw [show (parseDescriptor data).padSet = some ps from known]
  dsimp only
  rw [passes]

end refusing

/-- What the descriptor's first byte says of the pads. -/
theorem parsePadSet_known {set : Nat} (known : ¬ 2 < set) : ∃ ps, parsePadSet set = some ps
    ∧ (if set = 0 then [PadId.pad0] else if set = 1 then [.pad1] else [.pad0, .pad1]) = ps.pads
    ∧ (if set = 0 then PadSet.pad0 else if set = 1 then .pad1 else .double) = ps ∧ (set = 2) = (ps = .double) := by
  have few : set = 0 ∨ set = 1 ∨ set = 2 := by omega
  rcases few with rfl | rfl | rfl
  exacts [⟨.pad0, rfl, rfl, rfl, by simp⟩, ⟨.pad1, rfl, rfl, rfl, by simp⟩, ⟨.double, rfl, rfl, rfl, by simp⟩]

theorem parsePadSet_unknown {set : Nat} (unknown : 2 < set) : parsePadSet set = none := by
  unfold parsePadSet
  split
  case h_4 => rfl
  all_goals omega

end Sys2Proof.Machine

namespace Sys2Proof.Machine

/-! ### A stage as it is set up (R144, R145) -/

section stage
variable {u v : State} {pl : Player} {d : Descriptor} {set : PadSet} {but : List Part} {s : State}

theorem keeps_ownPads (h : Keeps but s u) (set : PadSet) (work : Part.work ∈ but) (owner : ∀ i, Part.owner i ∈ but)
    (pad : ∀ i, Part.pad i ∈ but) : Keeps but s (u.ownPads pl set) :=
  (h.setWork _ work).foldl _ (fun _ i k => (k.setOwner i (some pl) (owner i)).setPad _ (pad i))

theorem keeps_startJudge (h : Keeps but s u) (params : Params) (judge : ∀ q, Part.judge q ∈ but) :
    Keeps but s (u.startJudge pl set params) := by
  unfold State.startJudge; split
  exacts [(h.setJudge _ (judge _)).onJudge _ (judge _), h.setJudge _ (judge _)]

/-- R70: the pool of a stage that begins holds 64 entries, or 128 in double play. -/
theorem judge_startJudge (params : Params) : (u.startJudge pl set params).judge pl =
    Judge.empty (if set = .double then 128 else 64) params u.clock.songTime := by
  unfold State.startJudge; split
  · rw [State.onJudge, State.judge_setJudge_ne _ _ _ _ (by cases pl <;> decide), State.judge_setJudge_same]; rfl
  · exact State.judge_setJudge_same ..

/-- R70: in double play the other player has no pool. -/
theorem judge_startJudge_other (params : Params) : (u.startJudge pl set params).judge pl.other =
    if set = .double then { u.judge pl.other with pool := [] } else u.judge pl.other := by
  have apart : pl.other ≠ pl := by cases pl <;> decide
  unfold State.startJudge; split
  · rw [State.onJudge, State.judge_setJudge_same, State.judge_setJudge_ne _ _ _ _ apart]
  · exact State.judge_setJudge_ne _ _ _ _ apart

/-- The session that an ARM sets. -/
def Session.armedBy (x : Session) (d : Descriptor) (set : PadSet) : Session :=
  { x with
    padSet := some set, laneCount := d.laneCount, laneMap := d.laneMap, firstPage := d.firstPage, firstSeq := d.firstSeq,
    returnState := none }

/-- The part with all of the stage set up but the player's state. -/
def State.staged (u : State) (pl : Player) (d : Descriptor) (set : PadSet) : State :=
  ((((((u.onSession pl (fun x => x.armedBy d set)).ownPads pl set).setScore pl (Score.start d.n d.noFail d.startLife)).startJudge pl
    set d.params).setWriter pl (Writer.start d.firstSeq)).setFetcher pl (Fetcher.start d.firstPage d.firstSeq)).askHeader pl

/-- The parts that setting up a stage may change. -/
def stageParts (pl : Player) : List Part :=
  [.session pl, .work, .owner .pad0, .owner .pad1, .pad .pad0, .pad .pad1, .score pl, .judge .p0, .judge .p1, .writer pl, .fetcher pl]

theorem staged_eq : u.staged pl d set =
    (((((u.onSession pl (fun x => x.armedBy d set)).ownPads pl set).setScore pl (Score.start d.n d.noFail d.startLife)).startJudge pl
      set d.params).setWriter pl (Writer.start d.firstSeq)).setFetcher pl { Fetcher.reset with
        state := .pageWait, page := d.firstPage, seq := d.firstSeq, read := some ⟨.header, d.firstPage, false⟩ } := by
  unfold State.staged
  have fresh (w : State) : (w.setFetcher pl (Fetcher.start d.firstPage d.firstSeq)).fetcher pl = Fetcher.start d.firstPage d.firstSeq :=
    State.fetcher_setFetcher_same ..
  rw [askHeader_of_wait (by rw [fresh]; rfl) (by rw [fresh]; rfl) (by rw [fresh]; exact Nat.zero_lt_succ 7), State.onFetcher, fresh]
  cases pl <;> rfl

theorem keeps_staged : Keeps (stageParts pl) u (u.staged pl d set) := by
  have owner (i : PadId) : Part.owner i ∈ stageParts pl := by cases i <;> simp [stageParts]
  have pad (i : PadId) : Part.pad i ∈ stageParts pl := by cases i <;> simp [stageParts]
  have judge (q : Player) : Part.judge q ∈ stageParts pl := by cases q <;> simp [stageParts]
  have owned : Keeps (stageParts pl) u ((u.onSession pl (fun x => x.armedBy d set)).ownPads pl set) :=
    keeps_ownPads ((Keeps.refl u).onSession _ (by simp [stageParts])) set (by simp [stageParts]) owner pad
  rw [staged_eq]
  exact ((keeps_startJudge (owned.setScore _ (by simp [stageParts])) d.params judge).setWriter _ (by simp [stageParts])).setFetcher _
    (by simp [stageParts])

/-- What the set-up of a stage leaves, piece by piece (R93, R117, R138, R144, R147, R165). -/
theorem staged_effect : let t := u.staged pl d set
    t.session pl = (u.session pl).armedBy d set
      ∧ t.work = u.work.map (Work.claim set.pads)
      ∧ (∀ i, t.owner i = if i ∈ set.pads then some pl else u.owner i)
      ∧ (∀ i, t.pad i = if i ∈ set.pads then (u.pad i).clearHolds else u.pad i)
      ∧ t.scoreUnit pl = Score.start d.n d.noFail d.startLife
      ∧ t.judge pl = Judge.empty (if set = .double then 128 else 64) d.params u.clock.songTime
      ∧ t.judge pl.other = (if set = .double then { u.judge pl.other with pool := [] } else u.judge pl.other)
      ∧ t.writer pl = Writer.start d.firstSeq
      ∧ t.fetcher pl = { Fetcher.reset with
          state := .pageWait, page := d.firstPage, seq := d.firstSeq, read := some ⟨.header, d.firstPage, false⟩ } := by
  let w := u.onSession pl (fun x => x.armedBy d set)
  let x := w.ownPads pl set
  let y := x.setScore pl (Score.start d.n d.noFail d.startLife)
  let z := y.startJudge pl set d.params
  have owned : Keeps [.work, .owner .pad0, .owner .pad1, .pad .pad0, .pad .pad1] w x :=
    keeps_ownPads (.refl w) set (by simp) (fun i => by cases i <;> simp) (fun i => by cases i <;> simp)
  have judged : Keeps [.judge .p0, .judge .p1] y z := keeps_startJudge (.refl y) d.params (fun q => by cases q <;> simp)
  have last : Keeps [.writer pl, .fetcher pl] z (u.staged pl d set) := by
    rw [staged_eq]; exact ((Keeps.refl z).setWriter _).setFetcher _
  have scored : Keeps [.judge .p0, .judge .p1, .writer pl, .fetcher pl] y (u.staged pl d set) :=
    (judged.mono (by simp)).trans (last.mono (by simp))
  have opened : Keeps [.score pl, .judge .p0, .judge .p1, .writer pl, .fetcher pl] x (u.staged pl d set) :=
    ((Keeps.refl x).setScore _ (by simp)).trans (scored.mono (by simp))
  have judgeBefore : y.judge pl.other = u.judge pl.other :=
    Eq.trans (owned.2 (.judge pl.other) (by simp)) rfl
  have clock : y.clock = u.clock := Eq.trans (owned.2 .clock (by simp)) rfl
  refine ⟨?_, ?_, fun i => ?_, fun i => ?_, ?_, ?_, ?_, ?_, ?_⟩
  · exact Eq.trans (opened.2 (.session pl) (by simp)) (Eq.trans (owned.2 (.session pl) (by simp)) (State.session_setSession_same ..))
  · exact Eq.trans (opened.2 .work (by simp)) (State.work_ownPads w pl set)
  · exact Eq.trans (opened.2 (.owner i) (by simp)) (State.owner_ownPads w pl set i)
  · exact Eq.trans (opened.2 (.pad i) (by simp)) (State.pad_ownPads w pl set i)
  · exact Eq.trans (scored.2 (.score pl) (by simp)) (State.scoreUnit_setScore_same ..)
  · rw [← clock]
    exact Eq.trans (last.2 (.judge pl) (by simp)) (judge_startJudge d.params)
  · rw [← judgeBefore]
    exact Eq.trans (last.2 (.judge pl.other) (by simp)) (judge_startJudge_other d.params)
  · rw [staged_eq]
    exact State.writer_setWriter_same ..
  · rw [staged_eq]
    exact State.fetcher_setFetcher_same ..

/-! ### Taking the stage up (R145) -/

theorem becomePlaying_of_quiet (quiet : QuietFor v pl) : v.becomePlaying pl = v.onSession pl (fun x => { x with state := .playing }) := by
  have still : QuietFor (v.onSession pl (fun x => { x with state := .playing })) pl :=
    quiet.of_same rfl (by rw [State.onSession, State.session_setSession_same]) rfl rfl
  have due := firstDue_eq_none (fun i m => still.2 i (List.mem_range.mp m))
  rw [State.becomePlaying, serveDues_of_none _ due, clearingCheck_of_noEnd still.1]

/-- An empty pool has nothing to serve. -/
theorem quietFor_of_empty {size : Nat} {params : Params} {judged : Int} (judge : v.judge pl = Judge.empty size params judged)
    (score : (v.scoreUnit pl).endTime = none) : QuietFor v pl := by
  refine ⟨score, fun i _ due next => ?_⟩
  have blank : v.entry pl i = Entry.blank := by
    rw [State.entry, judge]
    show (List.replicate size Entry.blank).getD i Entry.blank = Entry.blank
    simp only [List.getD_eq_getElem?_getD, List.getElem?_replicate]
    split <;> rfl
  rw [blank] at next
  cases next

/-- R145: ARMED before the song, PLAYING within it. -/
theorem enterStage_eq (quiet : QuietFor v pl) : v.enterStage pl =
    if v.clock.state = .idle ∨ v.clock.state = .starting then (v.onSession pl (fun x => { x with state := .armed }), 0)
    else (v.onSession pl (fun x => { x with state := .playing }), 1) := by
  rw [← becomePlaying_of_quiet quiet]
  unfold State.enterStage
  cases v.clock.state <;> rfl

theorem armSuccess_eq : u.armSuccess pl d set =
    ((u.staged pl d set).enterStage pl).1.finishExecuting (slotOf pl) .ok ((u.staged pl d set).enterStage pl).2 := rfl

end stage

section success
variable {s u : State} {pl : Player} {d : Descriptor} {set : PadSet} (state : PlayerState) (result : Word)

/-- The part with the stage set up, the player in the state given, and the ARM completed. -/
def State.armedAs (u : State) (pl : Player) (d : Descriptor) (set : PadSet) (state : PlayerState) (result : Word) : State :=
  ((u.staged pl d set).onSession pl (fun x => { x with state })).finishExecuting (slotOf pl) .ok result

theorem armSuccess_eq_armedAs : u.armSuccess pl d set =
    if u.clock.state = .idle ∨ u.clock.state = .starting then u.armedAs pl d set .armed 0 else u.armedAs pl d set .playing 1 := by
  obtain ⟨-, -, -, -, score, judge, -, -, -⟩ := staged_effect (u := u) (pl := pl) (d := d) (set := set)
  have clock : (u.staged pl d set).clock = u.clock := keeps_staged.2 .clock (by simp [stageParts])
  rw [armSuccess_eq, enterStage_eq (quietFor_of_empty judge (by rw [score]; rfl)), clock]
  split <;> rfl

/-- What the stage's last step leaves of what has been set up. -/
theorem keeps_armedAs : Keeps [.session pl, .work, .slot (slotOf pl)] (u.staged pl d set) (u.armedAs pl d set state result) :=
  ((Keeps.refl _).onSession _).finishExecuting _ _ (by simp) (by simp)

theorem session_armedAs : (u.armedAs pl d set state result).session pl = { (u.session pl).armedBy d set with state } := by
  obtain ⟨session, -⟩ := staged_effect (u := u) (pl := pl) (d := d) (set := set)
  rw [State.armedAs, State.session_finishExecuting]
  refine (State.session_setSession_same ..).trans ?_
  rw [session]

/-- R144: the ARM completes beside the profile reads that have learned of their pads' owner. -/
theorem completed_armedAs {claimed : State} (executing : (claimed.slot (slotOf pl)).executing ≠ none)
    (work : claimed.work = u.work.map (Work.claim set.pads)) (slot : claimed.slot (slotOf pl) = u.slot (slotOf pl)) :
    CompletedExecuting claimed (u.armedAs pl d set state result) (slotOf pl) .ok result := by
  obtain ⟨-, staged, -⟩ := staged_effect (u := u) (pl := pl) (d := d) (set := set)
  have same : (u.staged pl d set).slot (slotOf pl) = u.slot (slotOf pl) := keeps_staged.2 (.slot (slotOf pl)) (by simp [stageParts])
  exact completedExecuting_of_same .ok result executing (staged.trans work.symm) (same.trans slot.symm)

end success

end Sys2Proof.Machine

namespace Sys2Proof.Machine

/-- The stage that the descriptor `d` describes is set up in `t` for the player, whatever state it is in. -/
def State.StageSet (s : State) (pl : Player) (d : BitVec 640) (t : State) : Prop :=
  let set := fieldAt d 0x00 1
  let pads : List PadId := if set = 0 then [.pad0] else if set = 1 then [.pad1] else [.pad0, .pad1]
  let page := fieldAt d 0x10 4
  let seq := fieldAt d 0x14 2
  (t.session pl).returnState = none ∧ (t.session pl).laneCount = fieldAt d 0x01 1
    ∧ (t.session pl).padSet = some (if set = 0 then .pad0 else if set = 1 then .pad1 else .double)
    ∧ (∀ l, ((t.session pl).laneMap.get l).toNat = fieldAt d (0x04 + l.val) 1)
    ∧ (t.session pl).firstPage = page ∧ (t.session pl).firstSeq = seq
    ∧ (t.session pl).waitingAbandon = (s.session pl).waitingAbandon
    ∧ (∀ i, t.owner i = if i ∈ pads then some pl else s.owner i)
    ∧ (∀ i, t.pad i = if i ∈ pads then (s.pad i).clearHolds else s.pad i)
    ∧ t.scoreUnit pl = Score.start (fieldAt d 0x16 2) (decide (fieldAt d 0x02 1 ≠ 0)) (max 1 (min 1000 (fieldAt d 0x18 2)))
    ∧ t.judge pl = Judge.empty (if set = 2 then 128 else 64) (parseParams d) s.clock.songTime
    ∧ t.judge pl.other = (if set = 2 then { s.judge pl.other with pool := [] } else s.judge pl.other)
    ∧ t.writer pl = ⟨[], none, false, (seq + 65535) % 65536⟩
    ∧ t.fetcher pl = { Fetcher.reset with state := .pageWait, page, seq, read := some ⟨.header, page, false⟩ }
    ∧ Keeps ([.bus, .work, .slot (slotOf pl), .session pl] ++ [.owner .pad0, .owner .pad1, .pad .pad0, .pad .pad1, .score pl,
        .judge .p0, .judge .p1, .writer pl, .fetcher pl]) s t

/-- R144: the stage of an ARM that passes its checks. -/
theorem stageSet_armedAs {s : State} {pl : Player} {d : BitVec 640} {ps : PadSet} (known : ¬ 2 < fieldAt d 0x00 1)
    (parsed : parsePadSet (fieldAt d 0x00 1) = some ps) (state : PlayerState) (result : Word) :
    s.StageSet pl d (s.freeBus.armedAs pl (parseDescriptor d) ps state result) := by
  obtain ⟨ps', parsed', padList, padSet, double⟩ := parsePadSet_known known
  obtain rfl : ps = ps' := Option.some.inj (parsed.symm.trans parsed')
  obtain ⟨-, -, owner, pad, score, judge, otherJudge, writer, fetcher⟩ :=
    staged_effect (u := s.freeBus) (pl := pl) (d := parseDescriptor d) (set := ps)
  rw [← padList] at owner pad
  have size : (if ps = .double then 128 else 64) = if fieldAt d 0x00 1 = 2 then 128 else 64 := if_congr (iff_of_eq double.symm) rfl rfl
  have shared : (if ps = .double then { s.judge pl.other with pool := [] } else s.judge pl.other)
      = if fieldAt d 0x00 1 = 2 then { s.judge pl.other with pool := [] } else s.judge pl.other :=
    if_congr (iff_of_eq double.symm) rfl rfl
  have noFail : (fieldAt d 0x02 1 != 0) = decide (fieldAt d 0x02 1 ≠ 0) := by
    rw [Bool.eq_iff_iff, bne_iff_ne, decide_eq_true_iff]
  have keeps := keeps_armedAs (u := s.freeBus) (pl := pl) (d := parseDescriptor d) (set := ps) state result
  have session := session_armedAs (u := s.freeBus) (pl := pl) (d := parseDescriptor d) (set := ps) state result
  refine ⟨by rw [session]; rfl, by rw [session]; rfl, ?_, fun l => ?_, by rw [session]; rfl, by rw [session]; rfl, by rw [session]; rfl,
    fun i => Eq.trans (keeps.2 (.owner i) (by simp)) (owner i), fun i => Eq.trans (keeps.2 (.pad i) (by simp)) (pad i), ?_, ?_, ?_,
    Eq.trans (keeps.2 (.writer pl) (by simp)) writer, Eq.trans (keeps.2 (.fetcher pl) (by simp)) fetcher, ?_⟩
  · rw [session, padSet]; rfl
  · rw [session, show fieldAt d (0x04 + l.val) 1 = _ from (toNat_laneByte (data := d) l.val).symm]
    exact congrArg BitVec.toNat (Tab.get_ofFn ..)
  · refine Eq.trans (keeps.2 (.score pl) (by simp)) (score.trans ?_)
    rw [← noFail]; rfl
  · refine Eq.trans (keeps.2 (.judge pl) (by simp)) (judge.trans ?_)
    rw [size]; rfl
  · exact Eq.trans (keeps.2 (.judge pl.other) (by simp)) (otherJudge.trans shared)
  · refine ((Keeps.refl s).freeBus (by simp)).trans ((keeps_staged.mono ?_).trans (keeps.mono (by simp)))
    simp [stageParts]

/-- Settles O54: the checks are walked in order by `Tells`; the stage that passes them is `State.armedAs`. -/
theorem descriptorDecidesArm : Obligations.DescriptorDecidesArm := by
  intro s pl a r back c executes returns refused touched
  have executing : (s.slot (slotOf pl)).executing ≠ none := by rw [executes]; exact Option.some_ne_none r
  have freed : Keeps [.bus] s s.freeBus := (Keeps.refl s).freeBus (by simp)
  refine ⟨?fault, ?checks⟩
  case fault =>
    let u := s.freeBus.logFault .busRead (some pl) 0 0
    obtain ⟨session, completed, keeps⟩ := refuseArm_effect (s := s) (u := u) .busFault 2 executing returns rfl rfl rfl
    obtain ⟨fault, notice⟩ := logged_logFault (s := s) (u := s.freeBus) .busRead (some pl) 0 0 0 rfl (BitVec.or_zero (x := s.notice)).symm rfl
    exact ⟨_, exec_descriptorReadDone c none, ⟨keeps.2 .bus (by simp), session, completed⟩,
      ⟨Eq.trans (keeps.2 .fault (by simp)) fault, Eq.trans (keeps.2 .notice (by simp)) notice⟩,
      ((freed.mono (by simp [touched])).logFault _ _ _ _ (by simp [touched])).trans (keeps.mono (by simp [touched]))⟩
  case checks =>
    intro d set pads lanes named n page seq life armed claimed fails
    refine ⟨?fails, ?passes⟩
    case fails =>
      intro k fail status at' before holds
      have refuses {check : Nat} (done : s.freeBus.descriptorRead pl (some d) = s.freeBus.refuseArm pl status check) :
          ∃ t, exec (.descriptorReadDone pl (some d)) s = .next t ∧ refused t status check ∧ Keeps touched s t := by
        obtain ⟨session, completed, keeps⟩ := refuseArm_effect (s := s) (u := s.freeBus) status check executing returns rfl rfl rfl
        exact ⟨_, (exec_descriptorReadDone c _).trans (congrArg _ done), ⟨keeps.2 .bus (by simp), session, completed⟩,
          (freed.mono (by simp [touched])).trans (keeps.mono (by simp [touched]))⟩
      cases k with
      | zero =>
        obtain ⟨rfl, rfl⟩ : (2 < set) = fail ∧ Status.badArg = status := by simpa [fails] using at'
        exact refuses (descriptorRead_of_unknownSet (parsePadSet_unknown holds))
      | succ k =>
        obtain ⟨ps, known, padList, -, double⟩ := parsePadSet_known (before 0 (2 < set, .badArg) (Nat.succ_pos k) rfl)
        have tells := armTests_tell (s := s.freeBus) (pl := pl) (data := d) (ps := ps)
        rw [← double, ← padList] at tells
        have first := (firstFailure_of_tells tells 4).1 k fail status at'
          (fun j x less h => before (j + 1) x (Nat.succ_lt_succ less) h) holds
        rw [← armChecks_eq] at first
        refine refuses ((descriptorRead_of_failing known first).trans ?_)
        congr 1; omega
    case passes =>
      intro pass
      obtain ⟨ps, known, padList, padSet, double⟩ := parsePadSet_known (pass (2 < set, .badArg) List.mem_cons_self)
      have tells := armTests_tell (s := s.freeBus) (pl := pl) (data := d) (ps := ps)
      rw [← double, ← padList] at tells
      have clear := (firstFailure_of_tells tells 4).2 (fun x m => pass x (List.mem_cons_of_mem _ m))
      rw [← armChecks_eq] at clear
      have done := (exec_descriptorReadDone c (some d)).trans (congrArg _ (descriptorRead_of_passing known clear))
      rw [armSuccess_eq_armedAs] at done
      have work : claimed.work = s.freeBus.work.map (Work.claim ps.pads) := by
        rw [← padList]
        refine List.map_congr_left (fun w _ => ?_)
        cases w <;> rfl
      have stage (state : PlayerState) (result : Word) :=
        stageSet_armedAs (s := s) (pl := pl) (pass (2 < set, .badArg) List.mem_cons_self) known state result
      have completed (state : PlayerState) (result : Word) :=
        completed_armedAs (u := s.freeBus) (pl := pl) (d := parseDescriptor d) state result (claimed := claimed) executing work rfl
      have session (state : PlayerState) (result : Word) :=
        session_armedAs (u := s.freeBus) (pl := pl) (d := parseDescriptor d) (set := ps) state result
      have bus (state : PlayerState) (result : Word) : (s.freeBus.armedAs pl (parseDescriptor d) ps state result).bus = Freed s.bus :=
        Eq.trans ((keeps_armedAs state result).2 .bus (by simp)) (keeps_staged.2 .bus (by simp [stageParts]))
      by_cases early : armed
      · rw [if_pos (show s.freeBus.clock.state = .idle ∨ s.freeBus.clock.state = .starting from early)] at done
        exact ⟨_, done, bus .., fun _ => ⟨by rw [session], completed ..⟩, fun late => absurd early late, stage ..⟩
      · rw [if_neg (show ¬ (s.freeBus.clock.state = .idle ∨ s.freeBus.clock.state = .starting) from early)] at done
        exact ⟨_, done, bus .., fun now => absurd now early, fun _ => ⟨by rw [session], completed ..⟩, stage ..⟩

end Sys2Proof.Machine

namespace Sys2Proof.Machine

/-! ### The pools of the players (R70)

A judge's step keeps the size of every pool and every pad set (`Moves.inner`). The steps that size a pool anew are the start of a
stage, its end in double play, standby entry and reset; what else a command does leaves judges and pad sets alone. -/

/-- There are two players. -/
theorem eq_other_of_ne {pl q : Player} (ne : q ≠ pl) : q = pl.other := by
  cases pl <;> cases q <;> simp_all [Player.other]

/-- The law of the pools goes over from `s` to `t`. -/
def PoolsKept (s t : State) : Prop := (∀ pl, PoolLegal s pl) → ∀ pl, PoolLegal t pl

/-- A pool of 64 entries is within its size whoever owns it. -/
theorem poolLegal_of_single {s : State} {pl : Player} (h : (s.judge pl).pool.length ≤ 64) : PoolLegal s pl :=
  ⟨h.trans (by decide), fun _ => h⟩

namespace PoolsKept

variable {s t u : State}

theorem refl (s : State) : PoolsKept s s := id

theorem trans (h : PoolsKept s t) (k : PoolsKept t u) : PoolsKept s u := fun l => k (h l)

/-- A step that leaves the sizes of the pools and the pad sets. -/
theorem of_sizes (h : PoolsKept s t) (pool : ∀ pl, (u.judge pl).pool.length = (t.judge pl).pool.length)
    (padSet : ∀ pl, (u.session pl).padSet = (t.session pl).padSet) : PoolsKept s u := fun l pl => by
  rw [PoolLegal, pool, padSet]; exact h l pl

theorem of_same (h : PoolsKept s t) (judges : u.judges = t.judges) (sessions : u.sessions = t.sessions) : PoolsKept s u :=
  h.of_sizes (fun pl => by rw [State.judge, judges]; rfl) (fun pl => by rw [State.session, sessions]; rfl)

theorem of_keeps {but : List Part} (h : PoolsKept s t) (k : Keeps but t u) (judge : ∀ pl, Part.judge pl ∉ but)
    (session : ∀ pl, Part.session pl ∉ but) : PoolsKept s u :=
  h.of_sizes (fun pl => congrArg (fun j : Judge => j.pool.length) (k.2 _ (judge pl)))
    (fun pl => congrArg Session.padSet (k.2 _ (session pl)))

theorem moved (h : PoolsKept s t) (k : Moved t u) : PoolsKept s u := h.of_sizes k.inner.pool k.inner.padSet

theorem onClock (h : PoolsKept s t) (f : Clock → Clock) : PoolsKept s (t.onClock f) := h.of_same rfl rfl
theorem setPad (h : PoolsKept s t) (i : PadId) (x : Pad) : PoolsKept s (t.setPad i x) := h.of_same rfl rfl
theorem setLamps (h : PoolsKept s t) (x : Lamps) : PoolsKept s (t.setLamps x) := h.of_same rfl rfl
theorem setRefresh (h : PoolsKept s t) (x : Refresh) : PoolsKept s (t.setRefresh x) := h.of_same rfl rfl
theorem setRun (h : PoolsKept s t) (r : RunState) : PoolsKept s (t.setRun r) := h.of_same rfl rfl
theorem freeBus (h : PoolsKept s t) : PoolsKept s t.freeBus := h.of_same rfl rfl
theorem ask (h : PoolsKept s t) (w : Work) : PoolsKept s (t.ask w) := h.of_same rfl rfl
theorem execute (h : PoolsKept s t) (x : SlotId) (r : Request) : PoolsKept s (t.execute x r) := h.of_same rfl rfl
theorem complete (h : PoolsKept s t) (x : SlotId) (tag : BitVec 16) (st : Status) (r : Word) :
    PoolsKept s (t.complete x tag st r) := h.of_same rfl rfl
theorem logFault (h : PoolsKept s t) (k : FaultKind) (pl : Option Player) (a b : Nat) : PoolsKept s (t.logFault k pl a b) :=
  h.of_same rfl rfl
theorem raise (h : PoolsKept s t) (b : BitVec 8) : PoolsKept s (t.raise b) := h.of_same rfl rfl
theorem finishExecuting (h : PoolsKept s t) (x : SlotId) (st : Status) (r : Word) :
    PoolsKept s (t.finishExecuting x st r) := h.of_same (by simp) (by simp)
theorem readReadySlots (h : PoolsKept s t) : PoolsKept s t.readReadySlots := h.of_same (by simp) (by simp)

theorem onSession (h : PoolsKept s t) (pl : Player) (f : Session → Session)
    (padSet : (f (t.session pl)).padSet = (t.session pl).padSet) : PoolsKept s (t.onSession pl f) := by
  refine h.of_sizes (fun q => rfl) (fun q => ?_)
  rw [State.onSession, State.session_setSession]
  split
  · rename_i same; rw [same]; exact padSet
  · rfl

theorem whenOperating (f : State → State) (k : PoolsKept s (f s)) : PoolsKept s (s.whenOperating f) := by
  unfold State.whenOperating; split
  exacts [k, refl s]

theorem operating_moved (f : State → State) (k : Moved s (f s)) : PoolsKept s (s.whenOperating f) :=
  whenOperating f ((refl s).moved k)

theorem whenReleased (f : State → State) (k : PoolsKept s (f s)) : PoolsKept s (s.whenReleased f) := by
  unfold State.whenReleased; split
  exacts [refl s, k]

theorem endTransfer (is : Xfer → Bool) (deal : Xfer → State → State) (k : ∀ x u, PoolsKept u (deal x u)) :
    PoolsKept s (s.endTransfer is deal) := by
  rcases s.endTransfer_cases is deal with e | ⟨x, -, -, e⟩ | ⟨x, -, -, -, e⟩ <;> rw [e]
  exacts [refl s, (refl s).freeBus, (refl s).freeBus.trans (k _ _)]

/-! #### Pad requests (Pads.lean, Requests.lean) -/

theorem padWriteEnded (h : PoolsKept s t) (ok : Bool) (result : Word) : PoolsKept s (t.padWriteEnded ok result) := by
  unfold State.padWriteEnded; split
  exacts [h.finishExecuting _ _ _, (h.logFault _ _ _ _).finishExecuting _ _ _]

theorem profileRead (h : PoolsKept s t) (pad : PadId) (addr : Nat) (claimed : Bool) (reply : Option (BitVec 768)) :
    PoolsKept s (t.profileRead pad addr claimed reply) := by
  unfold State.profileRead; split
  · exact (h.logFault _ _ _ _).finishExecuting _ _ _
  · split
    · exact h.finishExecuting _ _ _
    · exact (h.of_same (u := t.applyProfile pad _ addr) rfl rfl).finishExecuting _ _ _

theorem captureIfDue (h : PoolsKept s t) : PoolsKept s t.captureIfDue := by
  obtain ⟨_, _, e⟩ := captureIfDue_eq t
  rw [e]; exact h.of_same rfl rfl

theorem loadProfile (h : PoolsKept s t) (r : Request) : PoolsKept s (t.loadProfile r) := by
  unfold State.loadProfile; split
  · exact h.complete _ _ _ _
  · split
    · exact h.complete _ _ _ _
    · split
      exacts [h.complete _ _ _ _, (h.execute _ r).ask _]

theorem calibrate (h : PoolsKept s t) (r : Request) : PoolsKept s (t.calibrate r) := by
  unfold State.calibrate; split
  · exact h.complete _ _ _ _
  · split
    · exact h.complete _ _ _ _
    · split
      exacts [h.complete _ _ _ _, (h.execute _ r).setPad _ _]

/-! #### Sessions (Sessions.lean, Refresh.lean) -/

theorem takeArm (h : PoolsKept s t) (pl : Player) (r : Request) : PoolsKept s (t.takeArm pl r) := by
  have taken : PoolsKept s (t.onSession pl (fun x => { x with returnState := some x.state, state := .arming })) :=
    h.onSession pl _ rfl
  unfold State.takeArm; split
  case h_1 | h_2 => exact (taken.execute _ r).ask _
  all_goals exact h.complete _ _ _ _

theorem refuseArm (h : PoolsKept s t) (pl : Player) (st : Status) (check : Nat) : PoolsKept s (t.refuseArm pl st check) :=
  (h.onSession pl _ rfl).finishExecuting _ _ _

/-- R70: a stage that begins has a pool of 64 entries, in double play all 128 and the other player none. -/
theorem staged (h : PoolsKept s t) (pl : Player) (d : Descriptor) (set : PadSet) : PoolsKept s (t.staged pl d set) := by
  obtain ⟨session, -, -, -, -, judge, shared, -⟩ := staged_effect (u := t) (pl := pl) (d := d) (set := set)
  have other : (t.staged pl d set).session pl.other = t.session pl.other :=
    keeps_staged.2 (.session pl.other) (by cases pl <;> simp [stageParts, Player.other])
  refine fun l q => ?_
  by_cases mine : q = pl
  · subst mine
    rw [PoolLegal, judge, session]
    cases set <;> simp [Judge.empty, Session.armedBy]
  · obtain rfl : q = pl.other := eq_other_of_ne mine
    rw [PoolLegal, shared, other]
    split
    · simp
    · exact h l _

/-- R12, R87: taking RUNNING sizes no pool. -/
theorem becomePlaying (h : PoolsKept s t) (pl : Player) : PoolsKept s (t.becomePlaying pl) :=
  (h.onSession pl (fun x => { x with state := .playing }) rfl).moved (Moves.refl.playOn trivial _ _ _)

theorem armSuccess (h : PoolsKept s t) (pl : Player) (d : Descriptor) (set : PadSet) :
    PoolsKept s (t.armSuccess pl d set) := by
  have set_up := h.staged pl d set
  rw [armSuccess_eq]
  refine PoolsKept.finishExecuting ?_ _ _ _
  unfold State.enterStage; split
  case h_1 | h_2 => exact set_up.onSession pl _ rfl
  case h_3 | h_4 => exact set_up.becomePlaying pl

theorem descriptorRead (h : PoolsKept s t) (pl : Player) (reply : Option (BitVec 640)) :
    PoolsKept s (t.descriptorRead pl reply) := by
  unfold State.descriptorRead; split
  · exact (h.logFault _ _ _ _).refuseArm pl _ _
  · dsimp only; split
    · exact h.refuseArm pl _ _
    · split
      exacts [h.refuseArm pl _ _, h.armSuccess pl _ _]

theorem takeAbandon (h : PoolsKept s t) (pl : Player) (r : Request) : PoolsKept s (t.takeAbandon pl r) := by
  have waits : PoolsKept s (t.abandonWait pl r) := (h.execute _ r).onSession pl _ rfl
  have closing := waits.moved (Moves.refl.enterClosing (pl := pl) trivial .aborted nofun)
  unfold State.takeAbandon; split
  exacts [h.complete _ _ _ _, h.complete _ _ _ _, h.complete _ _ _ _, closing, closing, waits]

theorem endNow (h : PoolsKept s t) (pl : Player) (st : Status) (r : Word) : PoolsKept s (t.endNow pl st r) :=
  (h.setRefresh _).finishExecuting _ _ _

theorem endHolds (h : PoolsKept s t) (reply : Option (BitVec 64)) : PoolsKept s (t.endHolds reply) := by
  unfold State.endHolds; split
  exacts [(h.logFault _ _ _ _).setRefresh _, h.setRefresh _]

theorem endNowHold (h : PoolsKept s t) (pl : Player) (reply : Option (BitVec 32)) : PoolsKept s (t.endNowHold pl reply) := by
  unfold State.endNowHold; split
  · exact (h.logFault _ _ _ _).endNow _ _ _
  · split
    exacts [h.endNow _ _ _, h.setRefresh _]

theorem boardEnded (h : PoolsKept s t) (pl : Player) (ok : Bool) : PoolsKept s (t.boardEnded pl ok) := by
  unfold State.boardEnded; split
  exacts [h.setRefresh _, h.of_same rfl rfl]

theorem endBoard (h : PoolsKept s t) (pl : Player) (serial : Nat) (ok : Bool) : PoolsKept s (t.endBoard pl serial ok) := by
  unfold State.endBoard; dsimp only; split
  · split
    exacts [(h.boardEnded pl ok).endNow _ _ _, h.boardEnded pl ok]
  · exact h.boardEnded pl ok

theorem releasePad (h : PoolsKept s t) (pl : Player) (pad : PadId) : PoolsKept s (t.releasePad pl pad) := by
  unfold State.releasePad; split
  exacts [h.of_same rfl rfl, h]

/-- R70: after double play each player has a pool of 64 again. -/
theorem returnPools (t : State) (pl : Player) : PoolsKept s (t.returnPools pl) := fun _ q => by
  refine poolLegal_of_single ?_
  rw [State.returnPools, State.onJudge, State.onJudge, State.judge_setJudge]
  split
  · simp [Config.poolSize]
  · obtain rfl : q = pl := by_contra fun ne => ‹q ≠ pl.other› (eq_other_of_ne ne)
    rw [State.judge_setJudge_same]
    simp [Config.poolSize]

theorem finishAbandon (h : PoolsKept s t) (pl : Player) : PoolsKept s (t.finishAbandon pl) := by
  unfold State.finishAbandon; split
  exacts [h, (h.onSession pl _ rfl).finishExecuting _ _ _]

theorem becomeDone (h : PoolsKept s t) (pl : Player) : PoolsKept s (t.becomeDone pl) := by
  have done : PoolsKept s ((t.onSession pl (fun x => { x with state := .done })).raise noticeStage) :=
    (h.onSession pl (fun x => { x with state := .done }) rfl).of_same rfl rfl
  have finish (u : State) (k : PoolsKept s u) : PoolsKept s ((u.onFetcher pl Fetcher.finish).finishAbandon pl) :=
    (k.of_same (u := u.onFetcher pl Fetcher.finish) rfl rfl).finishAbandon pl
  unfold State.becomeDone; dsimp only
  refine finish _ ?_
  split
  exacts [returnPools _ pl, (done.releasePad pl .pad0).releasePad pl .pad1]

theorem endFinalBoard (h : PoolsKept s t) (pl : Player) (ok : Bool) : PoolsKept s (t.endFinalBoard pl ok) :=
  ((h.boardEnded pl ok).setRefresh _).becomeDone pl

theorem endMirrors (h : PoolsKept s t) (ok : Bool) : PoolsKept s (t.endMirrors ok) := by
  have logged : PoolsKept s (if ok then t else t.logFault .busWrite none 0 0) := by split; exacts [h, h.logFault _ _ _ _]
  unfold State.endMirrors State.dropJob; dsimp only
  exact (logged.setRefresh _).raise _

/-! #### Requests of slot 0 and slot reads (Requests.lean) -/

theorem handToBoth (h : PoolsKept s t) (first : Player) : PoolsKept s (t.handToBoth first) :=
  h.moved (Moves.refl.handToBoth first)

theorem songStart (h : PoolsKept s t) (r : Request) : PoolsKept s (t.songStart r) := by
  unfold State.songStart; split
  · exact (h.onClock _).handToBoth .p0
  all_goals exact h.complete _ _ _ _

theorem songPause (h : PoolsKept s t) (r : Request) : PoolsKept s (t.songPause r) := by
  unfold State.songPause; split
  exacts [h.onClock _, h.complete _ _ _ _]

theorem songResume (h : PoolsKept s t) (r : Request) : PoolsKept s (t.songResume r) := by
  unfold State.songResume; split
  exacts [h.onClock _, h.complete _ _ _ _]

theorem songStop (h : PoolsKept s t) (r : Request) (first : Player) : PoolsKept s (t.songStop r first) := by
  have cancelled : PoolsKept s t.cancelWaiting := by
    unfold State.cancelWaiting; split
    exacts [h, (h.onClock _).complete _ _ _ _]
  have stopped := ((cancelled.onClock Clock.stop).moved (abortBoth_moved _ first)).complete .slot0 r.tag .ok
    (timeWord ((t.cancelWaiting.onClock Clock.stop).eachPlayer first (fun pl s => s.abortIfPlaying pl)).clock.songTime)
  unfold State.songStop; split
  · exact h.complete _ _ _ _
  all_goals exact stopped

theorem serve (h : PoolsKept s t) (slot : SlotId) (first : Player) (r : Request) : PoolsKept s (t.serve slot first r) := by
  unfold State.serve; split
  exacts [h.songStart r, h.songPause r, h.songResume r, h.songStop r first, h.loadProfile r, h.calibrate r,
    h.of_same rfl rfl, h.takeArm _ r, h.takeAbandon _ r, (h.execute _ r).setRefresh _, h.complete _ _ _ _]

theorem startHeld (h : PoolsKept s t) (first : Player) : PoolsKept s (t.startHeld first) := by
  unfold State.startHeld; split
  exacts [h, (h.onClock _).serve _ _ _]

theorem completeWaiting (h : PoolsKept s t) (st : Status) (result : Word) (first : Player) :
    PoolsKept s (t.completeWaiting st result first) := by
  unfold State.completeWaiting; split
  exacts [h, ((h.onClock _).complete _ _ _ _).startHeld first]

theorem takeRead (h : PoolsKept s t) (slot : SlotId) (kind : BitVec 16) (w : SlotWords) (first : Player) :
    PoolsKept s (t.takeRead slot kind w first) := by
  unfold State.takeRead; dsimp only; split
  · exact h
  · split
    · exact h.onClock _
    · split
      exacts [(h.serve _ _ _).startHeld first, h.serve _ _ _]

theorem slotRead (s : State) (slot : SlotId) (kind : BitVec 16) (w : SlotWords) (first : Player) :
    PoolsKept s (s.slotRead slot kind w first) :=
  endTransfer _ _ (fun _ u => (((refl u).of_same (u := u.slotReadOver slot) rfl rfl).takeRead slot kind w first).readReadySlots)

theorem slotReadFailed (h : PoolsKept s t) (slot : SlotId) : PoolsKept s (t.slotReadFailed slot) :=
  (h.of_same (u := (t.slotReadOver slot).logFault .busRead (slotPlayer slot) 0 0) rfl rfl).readReadySlots

theorem completionWritten (h : PoolsKept s t) (slot : SlotId) (ok : Bool) : PoolsKept s (t.completionWritten slot ok) := by
  unfold State.completionWritten; dsimp only
  refine PoolsKept.readReadySlots ?_
  split
  exacts [h.of_same rfl rfl, h.of_same rfl rfl]

/-! #### The Song Clock (Clock.lean) -/

theorem playIfArmed (h : PoolsKept s t) (pl : Player) : PoolsKept s (t.playIfArmed pl) := by
  unfold State.playIfArmed; split
  exacts [h.becomePlaying pl, h]

theorem startRunning (h : PoolsKept s t) (mode : LockMode) (result : Word) (first : Player) :
    PoolsKept s (t.startRunning mode result first) :=
  (((h.onClock _).playIfArmed _).playIfArmed _).completeWaiting _ _ _

theorem resumeRunning (h : PoolsKept s t) (mode : LockMode) (flag : BitVec 16) (result : Word) (first : Player) :
    PoolsKept s (t.resumeRunning mode flag result first) := by
  rw [resumeRunning_eq]
  exact (((h.moved (reportMode_moved t mode flag)).onClock _).moved (resumeBoth_moved _ first)).completeWaiting _ _ _

theorem afterPulse (h : PoolsKept s t) (before : Int) (first : Player) : PoolsKept s (t.afterPulse before first) := by
  obtain ⟨v, moved, done⟩ := afterPulse_eq t before first
  rw [done]
  split
  exacts [((h.moved moved).onClock _).completeWaiting _ _ _, h.moved moved]

theorem actPulse (h : PoolsKept s t) (first : Player) : PoolsKept s (t.actPulse first) := by
  unfold State.actPulse; split
  · exact h
  · exact h.startRunning _ _ _
  · unfold State.pulseRunning; split
    · exact (h.onClock _).afterPulse _ _
    · exact ((h.onClock _).moved (Moves.refl.reportSync _)).afterPulse _ _
  · split
    exacts [h.resumeRunning _ _ _ _, h]

theorem clockStrobe (s : State) (first : Player) : PoolsKept s (s.clockStrobe first).state :=
  clockStrobe_induction first (refl s) (fun _ f _ h => h.onClock f) (fun _ f h => h.moved (Moves.refl.reportSync f))
    (fun _ h => h.handToBoth first) (fun _ pl h => h.playIfArmed pl) (fun _ _ h => h.moved (Moves.refl.reconcile trivial))
    (fun _ st result h => h.completeWaiting st result first)

theorem checkSpacing (s : State) : PoolsKept s s.checkSpacing :=
  (refl s).of_keeps (keeps_checkSpacing s) (by simp) (by simp)

/-! #### The round (Round.lean) -/

theorem calibrationRound (h : PoolsKept s t) (pad : PadId) (stamp : Int) : PoolsKept s (t.calibrationRound pad stamp) :=
  h.of_keeps (calibrationRound_keeps t pad stamp).1 (by simp) (by simp)

theorem roundItem (h : PoolsKept s t) (pre seen : PerPad Pad) (stamp : Int) (handed : Bool) (x : RoundItem) :
    PoolsKept s (t.roundItem pre seen stamp handed x) := by
  unfold State.roundItem; split
  · split
    exacts [h.moved (Moves.refl.handOver trivial seen stamp), h]
  · split
    exacts [h.moved (Moves.refl.roundPanel _ _ stamp), h]
  · exact h.setLamps _

theorem endRound (h : PoolsKept s t) : PoolsKept s t.endRound := by
  obtain ⟨_, _, ended⟩ := endRound_eq t
  obtain ⟨_, _, captured⟩ := captureIfDue_eq t.shownRound.dumpRoundEnd
  obtain ⟨_, due⟩ := dumpRoundEnd_eq t.shownRound
  rw [ended, captured, due]
  exact h.of_same rfl rfl

theorem senseRound (h : PoolsKept s t) (r : Readings) (sensors : List SensorName) (stamp : Int) :
    PoolsKept s (t.senseRound r sensors stamp) := by
  rw [senseRound_eq]
  exact ((h.moved (healthRound_moved t r sensors)).calibrationRound .pad0 stamp).calibrationRound .pad1 stamp

theorem roundItems (h : PoolsKept s t) (pre seen : PerPad Pad) (stamp : Int) (handed : Bool) (l : List RoundItem) :
    PoolsKept s (t.roundItems pre seen stamp handed l) :=
  List.foldlRecOn (motive := PoolsKept s) l _ h (fun _ k x _ => k.roundItem pre seen stamp handed x)

theorem roundStrobe (s : State) (r : Readings) (order : RoundOrder) : PoolsKept s (s.roundStrobe r order) := by
  obtain ⟨seen, handed, stages⟩ := roundStrobe_stages s r order
  have clock := clockStrobe s order.first
  rw [stages]
  generalize (s.clockStrobe order.first).state = v at clock
  have sensed := clock.senseRound r order.sensors v.clock.songTime
  generalize v.senseRound r order.sensors v.clock.songTime = w at sensed
  exact (sensed.roundItems v.pads seen v.clock.songTime handed (inOrder order.items allItems)).endRound

/-! #### Bus errors and grants (BusPort.lean) -/

theorem failFetch (h : PoolsKept s t) (pl : Player) (kind : FetchKind) : PoolsKept s (t.failFetch pl kind) :=
  h.moved (Moves.refl.endRead trivial _ (fun u m => by
    cases kind
    exacts [m.headerRead trivial none, m.rereadHeader trivial none, m.recordRead trivial none, m.linkRead trivial none]))

theorem failWork (h : PoolsKept s t) (w : Work) : PoolsKept s (t.failWork w) := by
  unfold State.failWork; split
  exacts [(h.logFault _ _ _ _).setRun _, h.slotReadFailed _, h.completionWritten _ false, h.descriptorRead _ none,
    h.profileRead _ _ _ none, h.padWriteEnded false _, h.padWriteEnded false _]

theorem failTransfer (h : PoolsKept s t) (x : Xfer) : PoolsKept s (t.failTransfer x) := by
  unfold State.failTransfer; split
  exacts [h.failWork _, h, h.failFetch _ _, h.moved (Moves.refl.resultLost trivial _),
    h.moved (Moves.refl.retirementLost trivial _), h.endHolds none, h.endNowHold _ none, h.endBoard _ _ false,
    h.endFinalBoard _ false, h.endMirrors false]

/-- A grant takes the transfer from where it waited. -/
theorem grantOf (h : PoolsKept s t) {c : Client} {g : Grant} (grant : t.grantOf c = some g) : PoolsKept s g.state := by
  cases c with
  | request =>
    unfold State.grantOf State.grantRequest at grant; dsimp only at grant
    split at grant
    · obtain rfl := Option.some.inj grant; exact h.of_same rfl rfl
    · split at grant
      · nomatch grant
      · obtain rfl := Option.some.inj grant
        cases ‹Work› <;> exact h.of_same rfl rfl
  | fetch pl =>
    obtain ⟨_, -, rfl⟩ := Option.map_eq_some_iff.mp grant
    exact h
  | write pl =>
    unfold State.grantOf State.grantWrite at grant; dsimp only at grant
    split at grant
    · nomatch grant
    · obtain rfl := Option.some.inj grant; exact h.of_same rfl rfl
  | refresh =>
    unfold State.grantOf State.grantRefresh at grant; dsimp only at grant
    split at grant
    · nomatch grant
    · split at grant
      · nomatch grant
      · obtain rfl := Option.some.inj grant
        cases ‹RefreshXfer› <;> exact h.of_same rfl rfl

theorem busGrant (s : State) : PoolsKept s s.busGrant := by
  unfold State.busGrant; split
  · split
    · exact refl s
    · split
      · exact refl s
      · rename_i c _ _ g grant
        have granted := (refl s).grantOf grant
        unfold State.startTransfer; split
        exacts [granted.of_same rfl rfl,
          (granted.of_same (u := g.state.setBus { g.state.bus with last := c }) rfl rfl).failTransfer _]
  · exact refl s

/-! #### Run states and register writes (Power.lean, Registers.lean) -/

/-- R94, R157: standby returns each player to a pool of 64. -/
theorem enterStandby (s : State) : PoolsKept s s.enterStandby := fun _ pl =>
  poolLegal_of_single (by cases pl <;> exact (List.length_replicate).le)

/-- R190: so does a reset. -/
theorem of_reset (judges : t.judges = State.reset.judges) : PoolsKept s t := fun _ pl =>
  poolLegal_of_single (by rw [State.judge, judges]; cases pl <;> exact (List.length_replicate).le)

theorem settingsRead (h : PoolsKept s t) (reply : Option (BitVec 512)) : PoolsKept s (t.settingsRead reply) := by
  have failed : PoolsKept s t.settingsFailed := (h.logFault _ _ _ _).setRun _
  unfold State.settingsRead; split
  · exact failed
  · dsimp only; split
    exacts [h.of_same rfl rfl, failed]

theorem standbyExit (s : State) : PoolsKept s s.standbyExit := by
  unfold State.standbyExit; split
  exacts [((refl s).setRun _).ask _, refl s]

theorem wakingAbandon (s : State) : PoolsKept s s.wakingAbandon := by
  unfold State.wakingAbandon; split
  exacts [(refl s).of_same rfl rfl, refl s]

theorem resetComplete (h : PoolsKept s t) : PoolsKept s t.resetComplete := by
  unfold State.resetComplete; split
  exacts [of_reset rfl, h]

theorem controlReset (s : State) : PoolsKept s s.controlReset := by
  unfold State.controlReset; split
  exacts [refl s,
    ((refl s).of_same (u := ({ s with bus := s.bus.silence } : State).setRun .resetting) rfl rfl).resetComplete]

theorem writeNotice (s : State) (v : Word) : PoolsKept s (s.writeNotice v) := by
  unfold State.writeNotice; dsimp only; split
  · exact refl s
  · split
    exacts [(refl s).of_same rfl rfl, (refl s).of_same rfl rfl]

theorem writeRoot (s : State) (v : Word) : PoolsKept s (s.writeRoot v) := by
  unfold State.writeRoot; split
  exacts [(refl s).of_same rfl rfl, refl s]

theorem writeMask (s : State) (v : Word) : PoolsKept s (s.writeMask v) := by
  unfold State.writeMask; split
  exacts [refl s, (refl s).of_same rfl rfl]

theorem attend (h : PoolsKept s t) (x : SlotId) (named : Bool) : PoolsKept s (t.attend x named) := by
  unfold State.attend; split
  exacts [h.of_same rfl rfl, h]

theorem writeAttn (s : State) (v : Word) : PoolsKept s (s.writeAttn v) :=
  whenOperating _ (((((refl s).attend _ _).attend _ _).attend _ _).readReadySlots)

theorem writeControl (s : State) (v : Word) : PoolsKept s (s.writeControl v) := by
  unfold State.writeControl; split
  · exact controlReset s
  · split
    · exact standbyExit s
    · split
      exacts [wakingAbandon s, whenOperating _ (enterStandby s), refl s, refl s]

theorem writeRegister (s : State) (offset : Nat) (v : Word) : PoolsKept s (s.writeRegister offset v) := by
  unfold State.writeRegister; split
  exacts [writeControl s v, writeRoot s v, writeAttn s v, writeNotice s v, writeMask s v, refl s]

/-- Every command keeps the law of the pools. -/
theorem of_exec (c : Instr) (s : State) : ∃ t, exec c s = .next t ∧ PoolsKept s t := by
  have fetchEnds (pl : Player) (is : Xfer → Bool) (deal : State → State) (k : ∀ {u v : State}, Moved u v → Moved u (deal v)) :
      PoolsKept s (s.endTransfer is (fun _ u => u.endRead pl deal)) :=
    endTransfer _ _ (fun _ u => (refl u).moved (Moves.refl.endRead trivial _ (fun _ => k)))
  cases c with
  | roundStrobe r order => exact ⟨_, rfl, whenOperating _ (PoolsKept.roundStrobe s r order)⟩
  | syncPulse first =>
    refine ⟨_, rfl, whenOperating _ ?_⟩
    split
    exacts [(checkSpacing s).actPulse first, refl s]
  | anomalyRunReport =>
    refine ⟨_, rfl, whenOperating _ ?_⟩
    split
    exacts [((refl s).moved (Moves.refl.reportSync _)).onClock _, refl s]
  | lockLoss =>
    refine ⟨_, rfl, whenOperating _ ?_⟩
    split
    exacts [((refl s).onClock _).moved (Moves.refl.reportSync _), refl s]
  | startFallback first =>
    refine ⟨_, rfl, whenOperating _ ?_⟩
    split
    exacts [((refl s).moved (Moves.refl.reportSync _)).startRunning _ _ first, refl s]
  | resumeFallback first =>
    refine ⟨_, rfl, whenOperating _ ?_⟩
    split
    exacts [(refl s).resumeRunning _ _ _ first, refl s]
  | songStart w | songPause w | songResume w | songStop w first | loadProfile w | calibrate w | sensorDump w | arm pl w
  | abandon pl w | refreshNow pl w => exact ⟨_, rfl, slotRead _ _ _ _ _⟩
  | heldRequest kind w | unknownKind slot kind w | staleRequest slot w =>
    refine ⟨_, rfl, ?_⟩
    split
    exacts [slotRead _ _ _ _ _, refl s]
  | profileReadDone reply =>
    refine ⟨_, rfl, endTransfer _ _ (fun x u => ?_)⟩
    unfold State.endProfile; split
    exacts [(refl u).profileRead _ _ _ _, refl u]
  | calibrationComplete pad =>
    refine ⟨_, rfl, whenOperating _ ?_⟩
    split
    · exact refl s
    · split
      exacts [((refl s).setPad pad _).ask _, refl s]
  | baselineTableWriteDone ok | dumpWriteDone ok =>
    refine ⟨_, rfl, endTransfer _ _ (fun x u => ?_)⟩
    unfold State.endPadWrite; split
    exacts [(refl u).padWriteEnded _ _, (refl u).padWriteEnded _ _, refl u]
  | dumpCapture => exact ⟨_, rfl, whenOperating _ (refl s).captureIfDue⟩
  | sensorFail c =>
    refine ⟨_, rfl, operating_moved _ ?_⟩
    split
    exacts [(Moves.refl.failSensor c).killIfDead _ _ _, .refl]
  | sensorRecover c =>
    refine ⟨_, rfl, operating_moved _ ?_⟩
    split
    exacts [(Moves.refl.recoverSensor c).reviveIfAlive _ _, .refl]
  | pressConfirm pad p | releaseConfirm pad p | stuckRelease pad p =>
    exact ⟨_, rfl, operating_moved _ (Effect.panelEvent ..)⟩
  | beatDue pl i | lapseDue pl i | crossingDue pl i | avoidSettleDue pl i | graceDue pl i | settleDue pl i =>
    exact ⟨_, rfl, operating_moved _ (Effect.dueEvent ..)⟩
  | descriptorReadDone pl reply => exact ⟨_, rfl, endTransfer _ _ (fun _ u => (refl u).descriptorRead pl reply)⟩
  | slotReadFault slot => exact ⟨_, rfl, endTransfer _ _ (fun _ u => (refl u).slotReadFailed slot)⟩
  | completionWriteDone slot ok => exact ⟨_, rfl, endTransfer _ _ (fun _ u => (refl u).completionWritten slot ok)⟩
  | pageWaitResume pl => exact ⟨_, rfl, operating_moved _ (Moves.refl.askHeader trivial)⟩
  | headerReadDone pl reply => exact ⟨_, rfl, fetchEnds pl _ _ (fun m => m.headerRead trivial reply)⟩
  | poolEntryReserve pl => exact ⟨_, rfl, operating_moved _ (Moves.refl.reserveNext trivial)⟩
  | recordReadDone pl reply => exact ⟨_, rfl, fetchEnds pl _ _ (fun m => m.recordRead trivial reply)⟩
  | stalledRecordRetry pl => exact ⟨_, rfl, operating_moved _ (Moves.refl.retryStalled trivial)⟩
  | pollDue pl => exact ⟨_, rfl, operating_moved _ (Moves.refl.askPoll trivial)⟩
  | fillRereadDone pl reply => exact ⟨_, rfl, fetchEnds pl _ _ (fun m => m.rereadHeader trivial reply)⟩
  | linkReadDone pl reply => exact ⟨_, rfl, fetchEnds pl _ _ (fun m => m.linkRead trivial reply)⟩
  | fetchReadDiscarded pl ok =>
    refine ⟨_, rfl, ?_⟩
    split
    exacts [fetchEnds pl _ _ (fun m => m), refl s]
  | busGrant => exact ⟨_, rfl, PoolsKept.busGrant s⟩
  | busTimeout => exact ⟨_, rfl, endTransfer _ _ (fun x u => (refl u).failTransfer x)⟩
  | resultWriteDone pl =>
    refine ⟨_, rfl, endTransfer _ _ (fun x u => ?_)⟩
    unfold State.endResult; split
    exacts [(refl u).moved (Moves.refl.resultWritten trivial _), refl u]
  | resultWriteError pl =>
    refine ⟨_, rfl, endTransfer _ _ (fun x u => ?_)⟩
    unfold State.endResult; split
    exacts [(refl u).moved (Moves.refl.resultLost trivial _), refl u]
  | retirementWriteDone pl ok =>
    refine ⟨_, rfl, endTransfer _ _ (fun x u => ?_)⟩
    unfold State.endRetire; split
    · split
      exacts [(refl u).moved (Moves.refl.pageRetired trivial _), (refl u).moved (Moves.refl.retirementLost trivial _)]
    · exact refl u
  | refreshPeriodDue =>
    refine ⟨_, rfl, operating_moved _ ?_⟩
    split
    exacts [AfterStrobe.periodDue s, .refl]
  | holdReadDone reply => exact ⟨_, rfl, endTransfer _ _ (fun _ u => (refl u).endHolds reply)⟩
  | nowHoldReadDone pl reply => exact ⟨_, rfl, endTransfer _ _ (fun _ u => (refl u).endNowHold pl reply)⟩
  | scoreboardWriteDone pl ok => exact ⟨_, rfl, endTransfer _ _ (fun x u => (refl u).endBoard pl x.serial ok)⟩
  | finalScoreboardWriteDone pl ok => exact ⟨_, rfl, endTransfer _ _ (fun _ u => (refl u).endFinalBoard pl ok)⟩
  | mirrorWriteDone ok => exact ⟨_, rfl, endTransfer _ _ (fun _ u => (refl u).endMirrors ok)⟩
  | faultRecordWriteDone ok => exact ⟨_, rfl, endTransfer _ _ (fun _ u => refl u)⟩
  | flashEnd pad p =>
    refine ⟨_, rfl, operating_moved _ ?_⟩
    split
    exacts [Moves.refl.setLamps _, .refl]
  | pwmPeriodStart => exact ⟨_, rfl, (refl s).of_same rfl rfl⟩
  | standbyExit => exact ⟨_, rfl, whenReleased _ (PoolsKept.standbyExit s)⟩
  | settingsReadDone reply => exact ⟨_, rfl, endTransfer _ _ (fun _ u => (refl u).settingsRead reply)⟩
  | wakingAbandon => exact ⟨_, rfl, whenReleased _ (PoolsKept.wakingAbandon s)⟩
  | standbyEntry => exact ⟨_, rfl, whenReleased _ (whenOperating _ (enterStandby s))⟩
  | controlReset run => exact ⟨_, rfl, whenReleased _ (PoolsKept.controlReset s)⟩
  | resetComplete => exact ⟨_, rfl, whenReleased _ (refl s).resetComplete⟩
  | resetN => exact ⟨_, rfl, of_reset rfl⟩
  | resetNRise => exact ⟨_, rfl, (refl s).of_same rfl rfl⟩
  | root v => exact ⟨_, rfl, whenReleased _ (writeRoot s v)⟩
  | attn v => exact ⟨_, rfl, whenReleased _ (writeAttn s v)⟩
  | notice v | faultRearm v => exact ⟨_, rfl, whenReleased _ (writeNotice s _)⟩
  | noticeMask v => exact ⟨_, rfl, whenReleased _ (writeMask s v)⟩
  | registerWrite offset v => exact ⟨_, rfl, whenReleased _ (writeRegister s offset v)⟩

end PoolsKept

/-- Settles O7: no queue touches a pool or a pad set, and every command keeps their law. -/
theorem poolsStayBounded : Obligations.PoolsStayBounded := fun _ _ legal h =>
  step_keeps (L := fun s => ∀ pl, PoolLegal s pl) (fun _ _ l => l) (fun c s _ e => by
    obtain ⟨_, runs, kept⟩ := PoolsKept.of_exec c s
    rw [e] at runs
    exact Host.Outcome.next.inj runs ▸ kept) h legal

end Sys2Proof.Machine

namespace Sys2Proof.Machine

/-! ### The lamps: one panel, and all of them in turn (R176, R180) -/

/-- R176: each panel of both pads has an output of its own. -/
theorem lampOf_eq_iff {a : Assign} {x y : PadId × PanelId} : lampOf a x.1 x.2 = lampOf a y.1 y.2 ↔ x = y := by
  obtain ⟨i, p⟩ := x
  obtain ⟨j, q⟩ := y
  have := p.isLt
  have := q.isLt
  cases a <;> cases i <;> cases j <;> simp [lampOf, Fin.ext_iff] <;> omega

theorem mem_allPanels (x : PadId × PanelId) : x ∈ allPanels := by
  obtain ⟨i, p⟩ := x
  revert p; cases i <;> decide

theorem nodup_allPanels : allPanels.Nodup := by decide

/-- A step for each index, none of which changes what is seen at another: each index in the list takes its own step once. -/
theorem foldl_each {σ ι β : Type} [DecidableEq ι] {look : σ → ι → β} {step : σ → ι → σ} {own : ι → β → β} {P : σ → Prop}
    (keeps : ∀ s x, P s → P (step s x)) (sees : ∀ s x y, P s → look (step s x) y = if y = x then own x (look s x) else look s y)
    (l : List ι) (once : l.Nodup) {s : σ} (h : P s) :
    P (l.foldl step s) ∧ ∀ y, look (l.foldl step s) y = if y ∈ l then own y (look s y) else look s y := by
  induction l generalizing s with
  | nil => exact ⟨h, fun y => (if_neg List.not_mem_nil).symm⟩
  | cons x l ih =>
    obtain ⟨fresh, rest⟩ := List.nodup_cons.mp once
    obtain ⟨kept, seen⟩ := ih rest (keeps s x h)
    refine ⟨kept, fun y => (seen y).trans ?_⟩
    rw [sees s x y h]
    by_cases here : y = x
    · subst here; simp [fresh]
    · simp [here]

/-- A step for each panel, once for all of them. -/
theorem foldl_allPanels {σ β : Type} {look : σ → PadId × PanelId → β} {step : σ → PadId × PanelId → σ}
    {own : PadId × PanelId → β → β} {P : σ → Prop} (keeps : ∀ s x, P s → P (step s x))
    (sees : ∀ s x y, P s → look (step s x) y = if y = x then own x (look s x) else look s y) {s : σ} (h : P s) :
    P (allPanels.foldl step s) ∧ ∀ y, look (allPanels.foldl step s) y = own y (look s y) := by
  obtain ⟨kept, seen⟩ := foldl_each keeps sees allPanels nodup_allPanels h
  exact ⟨kept, fun y => (seen y).trans (if_pos (mem_allPanels y))⟩

section light
variable (l : Lamps) (x : PadId × PanelId) (v : LampPanel)

/-- What shows at a panel: its light and its output. -/
def Lamps.shows : LampPanel × Nat := (l.panel x.1 x.2, l.output.get (lampOf l.assign x.1 x.2))

/-- A panel shows a new light at its output. -/
def Lamps.relight : Lamps := (l.setPanel x.1 x.2 v).form x.1 x.2

theorem panel_setPanel (y : PadId × PanelId) :
    (l.setPanel x.1 x.2 v).panel y.1 y.2 = if y = x then v else l.panel y.1 y.2 := by
  obtain ⟨i, p⟩ := x
  obtain ⟨j, q⟩ := y
  rw [Lamps.panel, Lamps.setPanel, PerPad.get_set]
  by_cases here : j = i
  · rw [if_pos here, Tab.get_set, here]; simp; rfl
  · simp [here]; rfl

theorem output_form (i : Fin 12) : (l.form x.1 x.2).output.get i =
    if i = lampOf l.assign x.1 x.2 then max (l.panel x.1 x.2).base (l.panel x.1 x.2).level else l.output.get i := by
  rw [Lamps.form, Tab.get_set]

theorem panel_relight (y : PadId × PanelId) : (l.relight x v).panel y.1 y.2 = if y = x then v else l.panel y.1 y.2 :=
  panel_setPanel l x v y

theorem output_relight (i : Fin 12) : (l.relight x v).output.get i =
    if i = lampOf l.assign x.1 x.2 then max v.base v.level else l.output.get i := by
  rw [Lamps.relight, output_form, panel_setPanel, if_pos rfl]; rfl

theorem shows_relight (y : PadId × PanelId) :
    (l.relight x v).shows y = if y = x then (v, max v.base v.level) else l.shows y := by
  have output := output_relight l x v (lampOf l.assign y.1 y.2)
  simp only [lampOf_eq_iff] at output
  have panel := panel_relight l x v y
  by_cases here : y = x
  · rw [if_pos here] at output panel ⊢; exact Prod.ext panel output
  · rw [if_neg here] at output panel ⊢; exact Prod.ext panel output

theorem strike_eq (level : Nat) : l.strike x.1 x.2 level =
    l.relight x ⟨(l.panel x.1 x.2).base, max (l.panel x.1 x.2).level level, (l.fields.get x.1).flashLength⟩ := rfl

theorem endFlash_eq : l.endFlash x.1 x.2 = l.relight x ⟨(l.panel x.1 x.2).base, 0, (l.panel x.1 x.2).remaining⟩ := rfl

end light

/-! ### Triggers (R181) -/

/-- The test of a trigger at a panel (R181). -/
def State.triggers (s : State) (pl : Player) (k : Trigger) (x : PadId × PanelId) : Bool :=
  s.owner x.1 = some pl ∧ ((s.pad x.1).panels.get x.2).state ≠ .off ∧ ((s.lamps.fields.get x.1).panels.get x.2).takes k

/-- A trigger that acts, at the panel it acts on (R181). -/
def flashed (level length : Nat) (v : LampPanel) : LampPanel × Nat :=
  (⟨v.base, max v.level level, length⟩, max v.base (max v.level level))

/-- Lamp changes alone, with the fields and the assignment kept. -/
structure Flashes (s t : State) : Prop where
  rest : t = s.setLamps t.lamps
  assign : t.lamps.assign = s.lamps.assign
  fields : t.lamps.fields = s.lamps.fields

section trigger
variable {s t : State} (pl : Player) (k : Trigger) (level : Nat) (x : PadId × PanelId)

theorem triggers_iff : s.triggers pl k x = true ↔ s.owner x.1 = some pl ∧ ((s.pad x.1).panels.get x.2).state ≠ .off
    ∧ ((s.lamps.fields.get x.1).panels.get x.2).takes k = true := decide_eq_true_iff

theorem trigger_eq : s.trigger pl k level x.1 x.2 =
    if s.triggers pl k x then s.setLamps (s.lamps.strike x.1 x.2 level) else s := by
  simp only [State.trigger, triggers_iff]

theorem Flashes.refl (s : State) : Flashes s s := ⟨rfl, rfl, rfl⟩

theorem Flashes.keeps (h : Flashes s t) : Keeps [.lamps] s t := by
  rw [h.rest]; exact (Keeps.refl s).setLamps _

theorem Flashes.triggers (h : Flashes s t) : t.triggers pl k x = s.triggers pl k x := by
  rw [Bool.eq_iff_iff, triggers_iff, triggers_iff, h.fields, h.rest]; rfl

theorem Flashes.trigger (h : Flashes s t) : Flashes s (t.trigger pl k level x.1 x.2) := by
  rw [trigger_eq]; split
  · exact ⟨by rw [h.rest]; rfl, h.assign, h.fields⟩
  · exact h

/-- R181: what shows after a trigger. -/
theorem shows_trigger (y : PadId × PanelId) : (s.trigger pl k level x.1 x.2).lamps.shows y =
    if y = x then
      if s.triggers pl k x then flashed level (s.lamps.fields.get x.1).flashLength (s.lamps.panel x.1 x.2) else s.lamps.shows x
    else s.lamps.shows y := by
  rw [trigger_eq]
  by_cases acts : s.triggers pl k x
  · rw [if_pos acts, if_pos acts, State.lamps_setLamps, strike_eq, shows_relight]; rfl
  · rw [if_neg acts, if_neg acts]; split
    · rename_i here; rw [here]
    · rfl

/-- R74, R181: a BEAT trigger reaches every panel, each once. -/
theorem triggerBeat_effect : Flashes s (s.triggerBeat pl level) ∧ ∀ y, (s.triggerBeat pl level).lamps.shows y =
    if s.triggers pl .beat y then flashed level (s.lamps.fields.get y.1).flashLength (s.lamps.panel y.1 y.2)
    else s.lamps.shows y :=
  foldl_allPanels (s := s) (P := Flashes s) (look := fun t : State => t.lamps.shows) (step := fun t x => t.trigger pl .beat level x.1 x.2)
    (own := fun x v => if s.triggers pl .beat x then flashed level (s.lamps.fields.get x.1).flashLength v.1 else v)
    (fun _ x h => h.trigger pl .beat level x)
    (fun t x y h => by rw [shows_trigger, h.triggers, h.fields]; rfl) (Flashes.refl s)

end trigger

/-! ### The countdown and the end of a round (R179, R180, R182) -/

/-- R182: one panel's flash counts down. -/
def LampPanel.countDown (v : LampPanel) : LampPanel := ⟨v.base, if v.remaining = 1 then 0 else v.level, v.remaining - 1⟩

theorem countDown_of_out {v : LampPanel} (out : v.remaining = 0) : v.countDown = v := by
  obtain ⟨_, _, _⟩ := v
  subst out; rfl

theorem panel_countDown (l : Lamps) (x y : PadId × PanelId) : (l.countDown x.1 x.2).panel y.1 y.2 =
    if y = x then (l.panel x.1 x.2).countDown else l.panel y.1 y.2 := by
  have step : l.countDown x.1 x.2 = if (l.panel x.1 x.2).remaining = 0 then l
      else if (l.panel x.1 x.2).remaining - 1 = 0 then
        (l.relight x { l.panel x.1 x.2 with remaining := (l.panel x.1 x.2).remaining - 1 }).endFlash x.1 x.2
      else l.relight x { l.panel x.1 x.2 with remaining := (l.panel x.1 x.2).remaining - 1 } := rfl
  rw [step]
  split
  · rename_i out
    rw [countDown_of_out out]
    split
    · rename_i here; rw [here]
    · rfl
  · rename_i lit
    split
    · rename_i last
      have one : (l.panel x.1 x.2).remaining = 1 := by omega
      rw [endFlash_eq, panel_relight, panel_relight, panel_relight, if_pos rfl, LampPanel.countDown, if_pos one]
      split <;> rfl
    · rename_i more
      rw [panel_relight, LampPanel.countDown, if_neg (by omega : (l.panel x.1 x.2).remaining ≠ 1)]

theorem panel_countDownAll (l : Lamps) (x : PadId × PanelId) : l.countDownAll.panel x.1 x.2 = (l.panel x.1 x.2).countDown :=
  (foldl_allPanels (P := fun _ => True) (look := fun l x => l.panel x.1 x.2) (own := fun _ v => v.countDown)
    (fun _ _ _ => trivial) (fun l x y _ => panel_countDown l x y) (s := l) trivial).2 x

/-- R179: the light of a panel with its base value formed afresh. -/
def LampPanel.rebased (v : LampPanel) (pad : Pad) (p : PanelId) : LampPanel :=
  { v with base := baseLight (pad.lampFields.panels.get p) (pad.panels.get p).state }

/-- R176, R179, R180: what a round end forms. -/
theorem roundEnd_effect (l : Lamps) (assign : Assign) (pads : PerPad Pad) :
    let t := l.roundEnd assign pads
    t.enabled = true ∧ t.assign = assign ∧ ∀ pad p,
      let v := (l.panel pad p).rebased (pads.get pad) p
      t.panel pad p = v ∧ t.output.get (lampOf assign pad p) = max v.base v.level := by
  let formed (m : Lamps) : Prop := m.enabled = true ∧ m.assign = assign
    ∧ ∀ x : PadId × PanelId, m.panel x.1 x.2 = (l.panel x.1 x.2).rebased (pads.get x.1) x.2
  obtain ⟨⟨enabled, same, panels⟩, outputs⟩ := foldl_allPanels (P := formed)
    (look := fun m x => m.output.get (lampOf assign x.1 x.2)) (step := fun m x => m.form x.1 x.2)
    (own := fun x _ => max ((l.panel x.1 x.2).rebased (pads.get x.1) x.2).base ((l.panel x.1 x.2).rebased (pads.get x.1) x.2).level)
    (s := { l with
      assign, enabled := true, fields := ⟨pads.pad0.lampFields, pads.pad1.lampFields⟩,
      panels :=
        ⟨(l.panels.get .pad0).mapIdx (fun p v => v.rebased pads.pad0 p),
          (l.panels.get .pad1).mapIdx (fun p v => v.rebased pads.pad1 p)⟩ })
    (fun _ _ h => h)
    (fun m x y ⟨_, assigned, panels⟩ => by rw [output_form, assigned, panels]; simp only [lampOf_eq_iff])
    ⟨rfl, rfl, fun ⟨pad, p⟩ => by
      cases pad
      exacts [Tab.get_mapIdx (l.panels.get .pad0) (fun p v => v.rebased pads.pad0 p) p,
        Tab.get_mapIdx (l.panels.get .pad1) (fun p v => v.rebased pads.pad1 p) p]⟩
  exact ⟨enabled, same, fun pad p => ⟨panels (pad, p), outputs (pad, p)⟩⟩

/-! ### What leaves the lamps while nobody is in a stage -/

/-- The lamps and the sessions are as they were. -/
structure LampsLeft (s t : State) : Prop where
  lamps : t.lamps = s.lamps
  sessions : t.sessions = s.sessions

namespace LampsLeft
variable {s t u : State}

theorem refl (s : State) : LampsLeft s s := ⟨rfl, rfl⟩
theorem trans (h : LampsLeft s t) (k : LampsLeft t u) : LampsLeft s u := ⟨k.lamps.trans h.lamps, k.sessions.trans h.sessions⟩
theorem unplayed (h : LampsLeft s t) (rest : Unplayed s) : Unplayed t := rest.of_same h.sessions

theorem handOver (rest : Unplayed s) (seen : PerPad Pad) (pl : Player) (v : Int) : LampsLeft s (s.handOver seen pl v) := by
  rw [handOver_of_rest (by rw [rest pl]; decide)]; exact ⟨rfl, rfl⟩

theorem handToBoth (rest : Unplayed s) (first : Player) : LampsLeft s (s.handToBoth first) :=
  have one := handOver rest s.pads first s.clock.songTime
  one.trans (handOver (one.unplayed rest) _ first.other _)

theorem abortIfPlaying (rest : Unplayed s) (pl : Player) : s.abortIfPlaying pl = s := if_neg (by rw [rest pl]; decide)

/-- R15: with nobody in a stage SONG_STOP is the clock's and the slot's alone. -/
theorem songStop (rest : Unplayed s) (r : Request) (first : Player) : LampsLeft s (s.songStop r first) := by
  have cancelled : LampsLeft s s.cancelWaiting := by unfold State.cancelWaiting; split <;> exact ⟨rfl, rfl⟩
  have stopped : LampsLeft s (s.cancelWaiting.onClock Clock.stop) := ⟨cancelled.lamps, cancelled.sessions⟩
  have still := stopped.unplayed rest
  have both : (s.cancelWaiting.onClock Clock.stop).eachPlayer first (fun pl s => s.abortIfPlaying pl)
      = s.cancelWaiting.onClock Clock.stop := by
    rw [State.eachPlayer, abortIfPlaying still, abortIfPlaying still]
  unfold State.songStop; split
  · exact ⟨rfl, rfl⟩
  all_goals rw [both]; exact ⟨stopped.lamps, stopped.sessions⟩

theorem serve (rest : Unplayed s) (first : Player) (r : Request) : LampsLeft s (s.serve .slot0 first r) := by
  unfold State.serve
  split
  case h_1 =>
    unfold State.songStart; split
    · dsimp only
      refine trans ?_ (handToBoth ?_ .p0)
      exacts [⟨rfl, rfl⟩, rest]
    all_goals exact ⟨rfl, rfl⟩
  case h_2 => unfold State.songPause; split <;> exact ⟨rfl, rfl⟩
  case h_3 => unfold State.songResume; split <;> exact ⟨rfl, rfl⟩
  case h_4 => exact songStop rest r first
  case h_5 =>
    unfold State.loadProfile; split
    · exact ⟨rfl, rfl⟩
    · split
      · exact ⟨rfl, rfl⟩
      · split <;> exact ⟨rfl, rfl⟩
  case h_6 =>
    unfold State.calibrate; split
    · exact ⟨rfl, rfl⟩
    · split
      · exact ⟨rfl, rfl⟩
      · split <;> exact ⟨rfl, rfl⟩
  case h_7 => exact ⟨rfl, rfl⟩
  case h_8 | h_9 | h_10 => rename_i nobody; nomatch nobody
  case h_11 => exact ⟨rfl, rfl⟩

theorem completeWaiting (rest : Unplayed s) (st : Status) (result : Word) (first : Player) :
    LampsLeft s (s.completeWaiting st result first) := by
  unfold State.completeWaiting State.startHeld; split
  · exact refl s
  · split
    · exact ⟨rfl, rfl⟩
    · refine trans ?_ (serve ?_ first _)
      exacts [⟨rfl, rfl⟩, rest]

/-- R183: a strobe of the Song Clock lights nothing while nobody is in a stage, whatever request starts in it. -/
theorem clockStrobe (rest : Unplayed s) (first : Player) : LampsLeft s (s.clockStrobe first).state := by
  have idle {t : State} (h : LampsLeft s t) (pl : Player) {x : PlayerState} (other : x ≠ .idle) : (t.session pl).state ≠ x := by
    rw [h.unplayed rest pl]; exact other.symm
  refine clockStrobe_induction (P := LampsLeft s) first (refl s) (fun _ _ _ h => ⟨h.lamps, h.sessions⟩)
    (fun _ _ h => ⟨h.lamps, h.sessions⟩) (fun _ h => h.trans (handToBoth (h.unplayed rest) first)) (fun t pl h => ?_)
    (fun t pl h => ?_) (fun _ _ _ h => h.trans (completeWaiting (h.unplayed rest) _ _ _))
  · rwa [State.playIfArmed, if_neg (idle h pl (by decide))]
  · rwa [State.reconcile, if_neg (idle h pl (by decide))]

theorem healthStep (s : State) (n : SensorName) : LampsLeft s (s.healthStep n) := by
  refine ⟨?_, sessions_healthStep s n⟩
  by_cases tracked : (s.pad n.pad).tracked n.panel n.sensor = true
  · rw [healthStep_of_tracked s n tracked]
    split
    · rw [failSensor_eq, flagOwner_eq]; rfl
    · split
      · rw [recoverSensor_eq, flagOwner_eq]; rfl
      · rfl
  · rw [healthStep_of_untracked s n tracked]

theorem calibrationRound (s : State) (pad : PadId) (stamp : Int) : LampsLeft s (s.calibrationRound pad stamp) := by
  have keeps := (calibrationRound_keeps s pad stamp).1
  exact ⟨keeps.2 .lamps (by simp), congrArg₂ PerPlayer.mk (keeps.2 (.session .p0) (by simp)) (keeps.2 (.session .p1) (by simp))⟩

theorem senseRound (s : State) (r : Readings) (sensors : List SensorName) (stamp : Int) :
    LampsLeft s (s.senseRound r sensors stamp) := by
  have health : LampsLeft s (s.healthRound r sensors) :=
    List.foldlRecOn (motive := LampsLeft s) _ _ ⟨rfl, rfl⟩ (fun _ h n _ => h.trans (healthStep _ n))
  rw [senseRound_eq]
  exact (health.trans (calibrationRound _ .pad0 stamp)).trans (calibrationRound _ .pad1 stamp)

/-- R26: a panel event that reaches no stage lights nothing. -/
theorem emitAll (rest : Unplayed s) (pad : PadId) (p : PanelId) (e : Option PadEvent) : LampsLeft s (s.emitAll pad p e) := by
  refine ⟨?_, (emitAll_of_unplayed rest pad p e).2⟩
  cases e with
  | none => rfl
  | some e =>
    show (s.emit ..).lamps = _
    cases e with
    | press stamp =>
      unfold State.emit; dsimp only; split
      · rfl
      · rw [judgePress_of_unplayed rest]
    | release stamp forced =>
      rw [emit_release_of_noHold (fun pl l _ _ => .inl (by rw [rest pl]; decide))]
      split
      · rw [flagOwner_eq]
      · rfl

section roundItem
variable (pre seen : PerPad Pad) (stamp : Int) (handed : Bool)

theorem roundItem (rest : Unplayed s) {x : RoundItem} (other : x ≠ .countdown) :
    LampsLeft s (s.roundItem pre seen stamp handed x) := by
  unfold State.roundItem; split
  · split
    exacts [handOver rest _ _ _, refl s]
  · split
    · rw [roundPanel_eq]; split
      · refine trans ?_ (emitAll ?_ _ _ _)
        exacts [⟨rfl, rfl⟩, rest]
      · exact refl s
    · exact refl s
  · exact absurd rfl other

theorem roundItems (rest : Unplayed s) (l : List RoundItem) (other : .countdown ∉ l) :
    LampsLeft s (s.roundItems pre seen stamp handed l) :=
  List.foldlRecOn (motive := LampsLeft s) l _ (refl s)
    (fun _ h x mem => h.trans (roundItem pre seen stamp handed (h.unplayed rest) (by rintro rfl; exact other mem)))

theorem mem_allItems_countdown : RoundItem.countdown ∈ allItems := List.mem_append_right _ (List.mem_singleton.mpr rfl)

theorem roundItem_countdown (s : State) :
    s.roundItem pre seen stamp handed .countdown = s.setLamps s.lamps.countDownAll := by rw [State.roundItem]

theorem roundItems_countdown (s : State) (before after : List RoundItem) :
    s.roundItems pre seen stamp handed (before ++ .countdown :: after) =
      ((s.roundItems pre seen stamp handed before).setLamps
        (s.roundItems pre seen stamp handed before).lamps.countDownAll).roundItems pre seen stamp handed after := by
  unfold State.roundItems
  rw [List.foldl_append, List.foldl_cons, roundItem_countdown]

/-- R182: the lamps count down once in the round. -/
theorem roundItems_lamps (rest : Unplayed s) (order : List RoundItem) :
    (s.roundItems pre seen stamp handed (inOrder order allItems)).lamps = s.lamps.countDownAll := by
  obtain ⟨before, after, split, first, last⟩ := inOrder_split mem_allItems_countdown order
  have early := roundItems pre seen stamp handed rest before first
  have late := (roundItems pre seen stamp handed (s := (s.roundItems pre seen stamp handed before).setLamps
    (s.roundItems pre seen stamp handed before).lamps.countDownAll) (rest.of_same
      ((State.sessions_setLamps ..).trans early.sessions)) after last).lamps
  rw [split, roundItems_countdown, late, State.lamps_setLamps, early.lamps]

end roundItem

/-- No sense round assigns the pads anew. -/
theorem assign_healthRound (s : State) (r : Readings) (sensors : List SensorName) :
    (s.healthRound r sensors).scan.assign = s.scan.assign :=
  List.foldlRecOn (motive := fun (t : State) => t.scan.assign = s.scan.assign) _ _ rfl (fun t h n _ => by
    refine Eq.trans ?_ h
    by_cases tracked : (t.pad n.pad).tracked n.panel n.sensor = true
    · rw [healthStep_of_tracked t n tracked]
      split
      · rw [failSensor_eq, flagOwner_eq]; rfl
      · split
        · rw [recoverSensor_eq, flagOwner_eq]; rfl
        · rfl
    · rw [healthStep_of_untracked t n tracked])

end LampsLeft

theorem lamps_endRound (s : State) : s.endRound.lamps = s.lamps.roundEnd s.scan.assign s.pads := by
  obtain ⟨_, _, ended⟩ := endRound_eq s
  obtain ⟨_, _, captured⟩ := captureIfDue_eq s.shownRound.dumpRoundEnd
  obtain ⟨_, due⟩ := dumpRoundEnd_eq s.shownRound
  rw [ended, captured, due]
  rfl

/-- R179, R180, R182: the lamps after a round strobe with nobody in a stage. -/
theorem lamps_roundStrobe {s : State} (rest : Unplayed s) (r : Readings) (order : RoundOrder) :
    (s.roundStrobe r order).lamps = s.lamps.countDownAll.roundEnd s.scan.assign (s.roundStrobe r order).pads := by
  obtain ⟨seen, handed, stages⟩ := roundStrobe_stages s r order
  have clock := LampsLeft.clockStrobe rest order.first
  have assign := (clockStrobe_sensorsKept s order.first).1
  generalize (s.clockStrobe order.first).state = v at stages clock assign
  have sensed := clock.trans (LampsLeft.senseRound v r order.sensors v.clock.songTime)
  have kept := (senseRound_partKept v r order.sensors v.clock.songTime).scan
  have items := roundItems_partKept v.pads seen v.clock.songTime handed (v.senseRound r order.sensors v.clock.songTime)
    (inOrder order.items allItems)
  rw [stages, (endRound_same _).1, lamps_endRound, items.scan, kept, LampsLeft.assign_healthRound, assign,
    LampsLeft.roundItems_lamps v.pads seen v.clock.songTime handed (sensed.unplayed rest), sensed.lamps]

theorem baseLight_eq (f : LampField) (x : PanelState) : baseLight f x = if x = .off then 0 else match f.mode with
    | .dark => 0
    | .steady => f.level
    | .press => if x = .down ∨ x = .falling then f.level else 0 := by
  cases x <;> cases mode : f.mode <;> simp [baseLight, mode]

/-- R176: LAMP0 to LAMP5 belong to one pad, LAMP6 to LAMP11 to the other. -/
theorem lampOf_val (a : Assign) (pad : PadId) (p : PanelId) :
    (lampOf a pad p).val = if (a = .normal ↔ pad = .pad0) then p.val else 6 + p.val := by
  cases a <;> cases pad <;> rfl

/-- R177: what the twelve outputs are while a PWM period runs. -/
theorem periodStart_effect (s : State) :
    let t := s.setLamps s.lamps.periodStart
    (∀ i, t.lamps.active.get i = if s.lamps.enabled then s.lamps.output.get i else 0)
      ∧ ∀ i cycle, t.lampPin i cycle = true ↔ s.lamps.enabled = true ∧ cycle < s.lamps.output.get i := by
  intro t
  have active (i : Fin 12) : t.lamps.active.get i = if s.lamps.enabled then s.lamps.output.get i else 0 := by
    show Tab.get (if s.lamps.enabled then s.lamps.output else Tab.fill 12 0) i = _
    split
    exacts [rfl, tab_get_fill 0 i]
  refine ⟨active, fun i cycle => ?_⟩
  rw [State.lampPin, decide_eq_true_iff, active]
  split <;> simp [*]

/-- R181: a trigger that acts. -/
theorem trigger_effect {s : State} {pl : Player} {k : Trigger} {pad : PadId} {p : PanelId} (level : Nat)
    (acts : s.triggers pl k (pad, p) = true) :
    let t := s.trigger pl k level pad p
    let now := max (s.lamps.panel pad p).level level
    t.lamps.panel pad p = ⟨(s.lamps.panel pad p).base, now, (s.lamps.fields.get pad).flashLength⟩
      ∧ t.lamps.output.get (lampOf s.lamps.assign pad p) = max (s.lamps.panel pad p).base now
      ∧ (∀ i q, (i, q) ≠ (pad, p) → t.lamps.panel i q = s.lamps.panel i q) ∧ Keeps [.lamps] s t := by
  intro t now
  have flashes := (Flashes.refl s).trigger pl k level (pad, p)
  have shows_ (y : PadId × PanelId) := shows_trigger (s := s) pl k level (pad, p) y
  have here := shows_ (pad, p)
  rw [if_pos rfl, if_pos acts] at here
  refine ⟨congrArg Prod.fst here, ?_, fun i q other => ?_, flashes.keeps⟩
  · rw [← flashes.assign]; exact congrArg Prod.snd here
  · have there := shows_ (i, q)
    rw [if_neg other] at there
    exact congrArg Prod.fst there

/-- R182: a flash that has come to its end leaves the base light. -/
theorem endFlash_effect {s : State} {pad : PadId} {p : PanelId} (out : (s.lamps.panel pad p).remaining = 0) :
    let t := s.setLamps (s.lamps.endFlash pad p)
    t.lamps.panel pad p = ⟨(s.lamps.panel pad p).base, 0, 0⟩
      ∧ (∀ i, t.lamps.output.get i =
        if i = lampOf s.lamps.assign pad p then (s.lamps.panel pad p).base else s.lamps.output.get i)
      ∧ (∀ i q, (i, q) ≠ (pad, p) → t.lamps.panel i q = s.lamps.panel i q) ∧ Keeps [.lamps] s t := by
  have panel := panel_relight s.lamps (pad, p) ⟨(s.lamps.panel pad p).base, 0, (s.lamps.panel pad p).remaining⟩
  refine ⟨?_, fun i => ?_, fun i q other => (panel (i, q)).trans (if_neg other), (Keeps.refl s).setLamps _⟩
  · exact (panel (pad, p)).trans ((if_pos rfl).trans (by rw [out]))
  · rw [State.lamps_setLamps, endFlash_eq _ (pad, p), output_relight, Nat.max_zero]

/-- Settles O60: each panel has an output of its own, and whatever forms a light forms it at that output. -/
theorem lampsShowBaseAndFlash : Obligations.LampsShowBaseAndFlash := by
  refine ⟨lampOf_val, fun s => ?period, fun s pl k level pad p => ?trigger, fun s pl level => ?beats,
    fun s pl k level lane => ?lane, fun s pad p op => ?flashEnds, fun s r order op rest => ?strobe⟩
  case period =>
    obtain ⟨active, pin⟩ := periodStart_effect s
    exact ⟨_, rfl, active, pin, rfl, (Keeps.refl s).setLamps _⟩
  case trigger =>
    have takes := triggers_iff (s := s) pl k (pad, p)
    refine ⟨fun acts => trigger_effect level (takes.mpr ?_), fun still => (trigger_eq pl k level (pad, p)).trans (if_neg ?_)⟩
    · cases k <;> exact acts
    · rw [takes]; cases k <;> exact still
  case beats =>
    obtain ⟨flashes, shows_⟩ := triggerBeat_effect (s := s) pl level
    refine ⟨flashes.keeps, fun pad p => ?_⟩
    have here := shows_ (pad, p)
    have takes := triggers_iff (s := s) pl .beat (pad, p)
    rw [Lamps.shows, flashes.assign] at here
    refine ⟨fun acts => ?_, fun still => ?_⟩
    · rw [if_pos (takes.mpr acts)] at here; exact Prod.mk.inj here
    · rw [if_neg (mt takes.mp still)] at here; exact Prod.mk.inj here
  case lane =>
    unfold State.triggerLane
    exact ⟨fun pad p target => by rw [target], fun target => by rw [target]⟩
  case flashEnds =>
    refine ⟨fun out => ?_, fun lit => ?_⟩
    · exact ⟨_, congrArg Host.Outcome.next ((whenOperating_of op _).trans (if_pos out)), endFlash_effect out⟩
    · exact congrArg Host.Outcome.next ((whenOperating_of op _).trans (if_neg lit))
  case strobe =>
    have lamps := lamps_roundStrobe rest r order
    obtain ⟨enabled, assign, formed⟩ := roundEnd_effect s.lamps.countDownAll s.scan.assign (s.roundStrobe r order).pads
    rw [← lamps] at enabled assign formed
    refine ⟨_, exec_roundStrobe op r order, enabled, assign, fun pad p => ?_⟩
    obtain ⟨panel, output⟩ := formed pad p
    have light := panel_countDownAll s.lamps (pad, p)
    dsimp only at light
    rw [light, LampPanel.countDown, LampPanel.rebased, baseLight_eq] at panel output
    exact ⟨panel, output⟩

end Sys2Proof.Machine

namespace Sys2Proof.Machine

/-! ### An entry takes its result (R71, R72, R82, R88, R106, R107) -/

theorem lane_dropFromLane (j : Judge) (lane i l : Nat) :
    (j.dropFromLane lane i).lane l = if l = lane then (j.lane l).erase i else j.lane l := by
  unfold Judge.dropFromLane
  split
  · rename_i within
    unfold Judge.lane
    by_cases low : l < 12
    · simp only [dif_pos low, Tab.get_modify, Fin.mk.injEq]
    · rw [dif_neg low, dif_neg low, if_neg (by omega)]
  · rename_i past
    split
    · rename_i same; rw [Judge.lane, dif_neg (same ▸ past)]; rfl
    · rfl

theorem dropFromLane_onEntry (j : Judge) (lane i k : Nat) (f : Entry → Entry) :
    (j.dropFromLane lane i).onEntry k f = (j.onEntry k f).dropFromLane lane i := by
  unfold Judge.dropFromLane; split <;> rfl

section retire
variable {s t u : State} {pl : Player} {i : Nat} {f g : Entry → Entry}

theorem judge_leaveLane : (s.leaveLane pl i).judge pl = (s.judge pl).dropFromLane (s.entry pl i).record.lane i :=
  State.judge_setJudge_same ..

theorem pool_dropFromLane (j : Judge) (lane : Nat) : (j.dropFromLane lane i).pool = j.pool := by
  unfold Judge.dropFromLane; split <;> rfl

theorem entry_leaveLane (k : Nat) : (s.leaveLane pl i).entry pl k = s.entry pl k := by
  rw [State.entry, judge_leaveLane, Judge.entry, pool_dropFromLane]; rfl

theorem keeps_leaveLane : Keeps [.judge pl, .fetcher pl] s (s.leaveLane pl i) :=
  ((Keeps.refl s).onJudge _).trans (keeps_reportRoom.mono (by simp))

/-- What an entry keeps besides its record decides nothing of its leaving. -/
theorem leaveLane_onEntry (record : ∀ e, (f e).record = e.record) :
    (s.leaveLane pl i).onEntry pl i f = (s.onEntry pl i f).leaveLane pl i := by
  have same : ((s.onEntry pl i f).entry pl i).record.lane = (s.entry pl i).record.lane := by
    rw [entry_onEntry]; split
    · rw [record]
    · rfl
  have left : (s.leaveLane pl i).onEntry pl i f =
      (s.setJudge pl (((s.judge pl).dropFromLane (s.entry pl i).record.lane i).onEntry i f)).reportRoom pl
        (some (s.entry pl i).record.lane) := by
    unfold State.leaveLane State.reportRoom State.onEntry State.onJudge State.onFetcher
    cases pl <;> rfl
  have right : (s.onEntry pl i f).leaveLane pl i =
      (s.setJudge pl (((s.judge pl).onEntry i f).dropFromLane (s.entry pl i).record.lane i)).reportRoom pl
        (some (s.entry pl i).record.lane) := by
    unfold State.leaveLane
    rw [same]
    cases pl <;> rfl
  rw [left, right, dropFromLane_onEntry]

/-- An entry takes its result, leaves its lane and becomes FINAL. -/
def State.retire (s : State) (pl : Player) (i : Nat) (f : Entry → Entry) : State :=
  ((s.onEntry pl i f).leaveLane pl i).makeFinal pl i

/-- Entry `i` has become FINAL as `e`, is queued, and has left its lane; the player's other entries and lanes are as they were. -/
structure Retired (s t : State) (pl : Player) (i : Nat) (e : Entry) : Prop where
  entry : t.entry pl i = e
  others : ∀ k, k ≠ i → t.entry pl k = s.entry pl k
  lanes : ∀ k, (t.judge pl).lane k =
    if k = (s.entry pl i).record.lane then ((s.judge pl).lane (s.entry pl i).record.lane).erase i else (s.judge pl).lane k
  writer : t.writer pl = { s.writer pl with queue := (s.writer pl).queue ++ [.result i] }

theorem Retired.of_same {e : Entry} (h : Retired s t pl i e) (judge : u.judge pl = t.judge pl)
    (writer : u.writer pl = t.writer pl) : Retired s u pl i e where
  entry := (congrArg (Judge.entry · i) judge).trans h.entry
  others k other := (congrArg (Judge.entry · k) judge).trans (h.others k other)
  lanes k := by rw [judge]; exact h.lanes k
  writer := writer.trans h.writer

theorem keeps_retire : Keeps [.judge pl, .writer pl, .fetcher pl] s (s.retire pl i f) :=
  (((Keeps.refl s).onEntry i f).trans (keeps_leaveLane.mono (by simp))).makeFinal i

theorem retired_retire (low : i < (s.judge pl).pool.length) (record : (f (s.entry pl i)).record = (s.entry pl i).record) :
    Retired s (s.retire pl i f) pl i { f (s.entry pl i) with state := .final } where
  entry := by
    have stays : i < (((s.onEntry pl i f).leaveLane pl i).judge pl).pool.length := by
      rw [judge_leaveLane, pool_dropFromLane, length_pool_onEntry]; exact low
    rw [State.retire, entry_makeFinal stays, entry_leaveLane, entry_onEntry_same _ low]
  others k other := by rw [State.retire, entry_makeFinal_ne other, entry_leaveLane, entry_onEntry_ne _ other]
  lanes k := by
    have final (u : State) : ((u.makeFinal pl i).judge pl).lane k = (u.judge pl).lane k := by
      show ((u.onEntry pl i _).judge pl).lane k = _
      rw [judge_onEntry]; rfl
    rw [State.retire, final, judge_leaveLane, lane_dropFromLane, entry_onEntry_same _ low, record, judge_onEntry]
    split
    · rename_i same; rw [same]; rfl
    · rfl
  writer := by
    rw [State.retire, writer_makeFinal]
    have left : Keeps [.judge pl, .fetcher pl] s ((s.onEntry pl i f).leaveLane pl i) :=
      ((Keeps.refl s).onEntry i f).trans keeps_leaveLane
    rw [show ((s.onEntry pl i f).leaveLane pl i).writer pl = s.writer pl from left.2 (.writer pl) (by simp)]

theorem params_leaveLane : (s.leaveLane pl i).params pl = s.params pl := by
  rw [State.params, judge_leaveLane]; unfold Judge.dropFromLane; split <;> rfl

theorem params_retire : (s.retire pl i f).params pl = s.params pl := by
  rw [State.retire, State.makeFinal]
  exact (params_onEntry _).trans (params_leaveLane.trans (params_onEntry _))

theorem retire_after (record : ∀ e, (g e).record = e.record) : ((s.onEntry pl i f).leaveLane pl i).onEntry pl i g =
    (s.onEntry pl i (g ∘ f)).leaveLane pl i := by rw [leaveLane_onEntry record, onEntry_onEntry]

end retire

section rows
variable {s : State} {pl : Player} {i u v : Nat}

theorem scoreUnit_settle (s : State) (pl : Player) (x : Settlement) : (s.settle pl x).scoreUnit pl = (s.scoreUnit pl).apply x :=
  State.scoreUnit_setScore_same ..

theorem scoreUnit_retire (f : Entry → Entry) : (s.retire pl i f).scoreUnit pl = s.scoreUnit pl :=
  keeps_retire.2 (.score pl) (by simp)

/-- R82: a TAP that stands alone takes its grade. -/
theorem settleHead_alone (alone : (s.entry pl i).chord = none) (unit : (s.entry pl i).unit = some u) : s.settleHead pl i =
    (s.onEntry pl i (fun e => { e with unitGrade := e.own })).settle pl ((s.params pl).settlement u (s.entry pl i).own) := by
  unfold State.settleHead
  dsimp only
  rw [alone]
  dsimp only
  rw [unit, State.settleUnitOf, params_onEntry]

theorem finishTap_alone (alone : (s.entry pl i).chord = none)
    (unit : (s.entry pl i).unit = some u) : s.finishTap pl i =
      (s.retire pl i (fun e => { e with unitGrade := e.own })).settle pl ((s.params pl).settlement u (s.entry pl i).own) := by
  have graded : ((s.leaveLane pl i).onEntry pl i (fun e => { e with unitGrade := e.own })).makeFinal pl i =
      s.retire pl i (fun e => { e with unitGrade := e.own }) := by
    exact congrArg (fun t : State => t.makeFinal pl i) (leaveLane_onEntry (fun _ => rfl))
  unfold State.finishTap
  dsimp only
  rw [entry_leaveLane, alone]
  dsimp only
  rw [graded, unit, State.settleUnitOf, params_retire]

/-- R88: a TAP that stands alone lapses. -/
theorem lapseEntry_tap (low : i < (s.judge pl).pool.length) (tap : (s.entry pl i).record.kind = .tap)
    (alone : (s.entry pl i).chord = none) (unit : (s.entry pl i).unit = some u) : s.lapseEntry pl i =
      (s.retire pl i (fun e => { e with own := .lapse, unitGrade := .lapse, offset := 0 })).settle pl
        (.unit u .lapse 0 (s.params pl).lapseDelta .break) := by
  have lapsed := entry_onEntry_same (fun e => { e with own := .lapse, offset := 0 }) low
  unfold State.lapseEntry
  dsimp only
  rw [lapsed, if_neg (by rw [tap]; decide), finishTap_alone (by rw [lapsed]; exact alone)
    (by rw [lapsed]; exact unit), lapsed, State.retire, onEntry_onEntry, params_onEntry]
  rfl

/-- R103: a HOLD head that stands alone settles its unit, and its tail DROPPED at once. -/
theorem dropHold_alone (low : i < (s.judge pl).pool.length) (alone : (s.entry pl i).chord = none)
    (unit : (s.entry pl i).unit = some u) :
    (((s.settleHead pl i).onEntry pl i (fun e => { e with tail := .dropped })).settleTail pl (some v) false 0).finalOrJudged pl i =
      (((s.onEntry pl i (fun e => { e with unitGrade := e.own, tail := .dropped })).makeFinal pl i).settle pl
        ((s.params pl).settlement u (s.entry pl i).own)).settle pl (.unit v .dropped 0 0 .break) := by
  have graded : (s.onEntry pl i (fun e => { e with unitGrade := e.own, tail := .dropped })).entry pl i =
      { s.entry pl i with unitGrade := (s.entry pl i).own, tail := .dropped } := entry_onEntry_same _ low
  have merged := onEntry_onEntry s pl i (fun e => { e with unitGrade := e.own }) (fun e => { e with tail := .dropped })
  rw [settleHead_alone alone unit]
  generalize (s.params pl).settlement u (s.entry pl i).own = x
  have reorder : ((s.onEntry pl i (fun e => { e with unitGrade := e.own })).settle pl x).onEntry pl i
      (fun e => { e with tail := .dropped }) =
        (s.onEntry pl i (fun e => { e with unitGrade := e.own, tail := .dropped })).settle pl x :=
    congrArg (fun t : State => t.settle pl x) merged
  rw [reorder]
  exact if_pos (show ((s.onEntry pl i _).entry pl i).chord = none by rw [graded]; exact alone)

/-- R88, R103: a HOLD head that stands alone lapses, and its tail is DROPPED with it. -/
theorem lapseEntry_hold (low : i < (s.judge pl).pool.length) (hold : (s.entry pl i).record.kind = .hold)
    (alone : (s.entry pl i).chord = none) (unit : (s.entry pl i).unit = some u) (tail : (s.entry pl i).tailUnit = some v) :
    s.lapseEntry pl i =
      ((s.retire pl i (fun e => { e with own := .lapse, unitGrade := .lapse, tail := .dropped, offset := 0 })).settle pl
        (.unit u .lapse 0 (s.params pl).lapseDelta .break)).settle pl (.unit v .dropped 0 0 .break) := by
  have lapsed := entry_onEntry_same (fun e => { e with own := .lapse, offset := 0 }) low
  have left := (entry_leaveLane (s := s.onEntry pl i (fun e => { e with own := .lapse, offset := 0 })) (pl := pl) (i := i) i).trans
    lapsed
  unfold State.lapseEntry
  dsimp only
  rw [lapsed, if_pos hold, tail, dropHold_alone (by rw [judge_leaveLane, pool_dropFromLane, length_pool_onEntry]; exact low)
    (by rw [left]; exact alone) (by rw [left]; exact unit), left,
    retire_after (g := fun e => { e with unitGrade := e.own, tail := .dropped }) (fun _ => rfl),
    params_leaveLane, params_onEntry]
  rfl

/-- R106. -/
theorem strikeEntry_eq (d : Int) : s.strikeEntry pl i d =
    ((s.retire pl i (fun e => { e with own := .struck, unitGrade := .struck, tail := .none, offset := d })).settle pl
      (.struck (s.params pl).struckDelta)).triggerLane pl .strike 255 (s.entry pl i).record.lane := by
  unfold State.strikeEntry
  dsimp only
  rw [← State.retire, params_retire]

/-- R107. -/
theorem avoidEntry_eq : s.avoidEntry pl i =
    (s.retire pl i (fun e => { e with own := .avoided, unitGrade := .avoided, tail := .none, offset := 0 })).settle pl .avoided :=
  rfl

end rows
end Sys2Proof.Machine

namespace Sys2Proof.Machine

/-! ### The lights of a trigger, wherever it is pulled (R181) -/

/-- What the triggers of a player go by is the same. -/
structure SameLights (s t : State) : Prop where
  owner : ∀ i, t.owner i = s.owner i
  pad : ∀ i, t.pad i = s.pad i
  lamps : t.lamps = s.lamps

theorem SameLights.of_keeps {but : List Part} {s t : State} (h : Keeps but s t) (owner : ∀ i, Part.owner i ∉ but)
    (pad : ∀ i, Part.pad i ∉ but) (lamps : Part.lamps ∉ but) : SameLights s t :=
  ⟨fun i => h.2 _ (owner i), fun i => h.2 _ (pad i), h.2 _ lamps⟩

section lights
variable {s t : State} (pl : Player) (k : Trigger) (level : Nat)

theorem triggers_of_same {x : PadId × PanelId} (owner : t.owner x.1 = s.owner x.1) (fields : t.lamps.fields = s.lamps.fields)
    (off : ((t.pad x.1).panels.get x.2).state = .off ↔ ((s.pad x.1).panels.get x.2).state = .off) :
    t.triggers pl k x = s.triggers pl k x := by
  rw [Bool.eq_iff_iff, triggers_iff, triggers_iff, owner, fields, ne_eq, off]

theorem lamps_trigger_of_same {pad : PadId} {p : PanelId} (triggers : t.triggers pl k (pad, p) = s.triggers pl k (pad, p))
    (lamps : t.lamps = s.lamps) : (t.trigger pl k level pad p).lamps = (s.trigger pl k level pad p).lamps := by
  rw [trigger_eq pl k level (pad, p), trigger_eq pl k level (pad, p), triggers, lamps]
  split
  exacts [rfl, lamps]

theorem SameLights.trigger (h : SameLights s t) (x : PadId × PanelId) :
    SameLights (s.trigger pl k level x.1 x.2) (t.trigger pl k level x.1 x.2) := by
  have triggers : t.triggers pl k x = s.triggers pl k x :=
    triggers_of_same pl k (h.owner x.1) (congrArg Lamps.fields h.lamps) (by rw [h.pad])
  refine ⟨fun i => ?_, fun i => ?_, lamps_trigger_of_same pl k level triggers h.lamps⟩
  all_goals rw [trigger_eq, trigger_eq, triggers]; split
  exacts [h.owner i, h.owner i, h.pad i, h.pad i]

theorem SameLights.triggerBeat (h : SameLights s t) : (t.triggerBeat pl level).lamps = (s.triggerBeat pl level).lamps := by
  have all (l : List (PadId × PanelId)) : ∀ s t : State, SameLights s t →
      SameLights (l.foldl (fun s x => s.trigger pl .beat level x.1 x.2) s) (l.foldl (fun s x => s.trigger pl .beat level x.1 x.2) t) := by
    induction l with
    | nil => exact fun _ _ h => h
    | cons x l ih => exact fun _ _ h => ih _ _ (h.trigger pl .beat level x)
  exact (all allPanels s t h).lamps

theorem SameLights.triggerLane (h : SameLights s t) (sessions : t.session pl = s.session pl) (lane : Nat) :
    (t.triggerLane pl k level lane).lamps = (s.triggerLane pl k level lane).lamps := by
  have target : t.laneTargetOf pl lane = s.laneTargetOf pl lane := by rw [State.laneTargetOf, sessions]; rfl
  unfold State.triggerLane
  rw [target]
  split
  exacts [h.lamps, (h.trigger pl k level _).lamps]

theorem keeps_trigger (x : PadId × PanelId) : Keeps [.lamps] s (s.trigger pl k level x.1 x.2) :=
  ((Flashes.refl s).trigger pl k level x).keeps

theorem keeps_triggerLane (lane : Nat) : Keeps [.lamps] s (s.triggerLane pl k level lane) := by
  unfold State.triggerLane; split
  exacts [.refl s, keeps_trigger pl k level _]

end lights

/-! ### A due time served, entry by entry (R74, R88, R104, R106, R107) -/

section due
variable {s : State} {pl : Player} {i : Nat} (seen : PerPad Pad)

theorem serveDue_of_waiting (at' : (s.entry pl i).state = .waiting) : s.serveDue seen pl i = s.lapseEntry pl i := by
  unfold State.serveDue; dsimp only; rw [at']

theorem serveDue_of_scheduled (at' : (s.entry pl i).state = .scheduled) : s.serveDue seen pl i = s.passBeat pl i := by
  unfold State.serveDue; dsimp only; rw [at']

theorem serveDue_of_watching (at' : (s.entry pl i).state = .watching) : s.serveDue seen pl i =
    if (s.entry pl i).crossed then s.avoidEntry pl i
    else if (s.lanePanelIn seen pl (s.entry pl i).record.lane).pressed then s.strikeEntry pl i 0
    else s.onEntry pl i (fun e => { e with crossed := true }) := by
  unfold State.serveDue; dsimp only; rw [at']; rfl

theorem nextDueOf_of_waiting {e : Entry} (at' : e.state = .waiting) : s.nextDueOf pl e = some (s.lapseDue pl e) := by
  rw [State.nextDueOf, at']

theorem nextDueOf_of_scheduled {e : Entry} (at' : e.state = .scheduled) : s.nextDueOf pl e = some (s.effectiveDue pl e) := by
  rw [State.nextDueOf, at']

theorem nextDueOf_of_watching {e : Entry} (at' : e.state = .watching) :
    s.nextDueOf pl e = some (if e.crossed then s.avoidSettleDue pl e else s.effectiveDue pl e) := by
  rw [State.nextDueOf, at']

/-- The judge of a player that is PLAYING while the clock runs serves a value handed over (R87). -/
structure Serving (s : State) (pl : Player) : Prop where
  playing : (s.session pl).state = .playing
  running : s.clock.state = .running
  serving : (s.judge pl).serving = true

theorem dueEvent_of {is : Entry → Bool} {due : Int} (h : Serving s pl) (kind : is (s.entry pl i) = true)
    (next : s.nextDueOf pl (s.entry pl i) = some due) (reached : due ≤ (s.judge pl).judged) :
    s.dueEvent pl i is = (s.serveDue s.pads pl i).endJudgeStep pl :=
  if_pos ⟨h.playing, h.running, h.serving, kind, by rw [next]; exact decide_eq_true reached⟩

theorem dueEvent_of_not {is : Entry → Bool} (h : (s.session pl).state ≠ .playing ∨ s.clock.state ≠ .running
    ∨ (s.judge pl).serving = false ∨ ∀ due, s.nextDueOf pl (s.entry pl i) = some due → (s.judge pl).judged < due) :
    s.dueEvent pl i is = s := by
  refine if_neg ?_
  rintro ⟨playing, running, serving, -, reached⟩
  rcases h with h | h | h | h
  · exact h playing
  · exact h running
  · rw [h] at serving; cases serving
  · cases next : s.nextDueOf pl (s.entry pl i) with
    | none => rw [next] at reached; cases reached
    | some due =>
      rw [next] at reached
      exact absurd (of_decide_eq_true reached) (Int.not_le.mpr (h due next))

/-- The part with beat entry `i` FINAL and out of the beat list (R74), before its trigger. -/
def State.passed (s : State) (pl : Player) (i : Nat) : State :=
  ((s.onEntry pl i (fun e =>
    { e with own := .passed, unitGrade := .passed, tail := .none, offset := 0, flags := ResultFlags.clear })).makeFinal pl i).leaveBeats
      pl i

theorem judge_leaveBeats (s : State) : (s.leaveBeats pl i).judge pl = { s.judge pl with beats := (s.judge pl).beats.erase i } :=
  State.judge_setJudge_same ..

theorem keeps_leaveBeats (s : State) : Keeps [.judge pl, .fetcher pl] s (s.leaveBeats pl i) :=
  ((Keeps.refl s).onJudge _).trans (keeps_reportRoom.mono (by simp))

theorem keeps_passed : Keeps [.judge pl, .writer pl, .fetcher pl] s (s.passed pl i) :=
  (((Keeps.refl s).onEntry i _).makeFinal i).trans ((keeps_leaveBeats _).mono (by simp))

theorem entry_leaveBeats (s : State) (k : Nat) : (s.leaveBeats pl i).entry pl k = s.entry pl k := by
  rw [State.entry, judge_leaveBeats]; rfl

theorem lights_passed : SameLights s (s.passed pl i) := .of_keeps keeps_passed (by simp) (by simp) (by simp)

theorem beats_passed : ((s.passed pl i).judge pl).beats = (s.judge pl).beats.erase i := by
  rw [State.passed, judge_leaveBeats]
  show (((s.onEntry pl i _).onEntry pl i _).judge pl).beats.erase i = _
  rw [judge_onEntry, judge_onEntry]

theorem entry_passed (low : i < (s.judge pl).pool.length) : (s.passed pl i).entry pl i = { s.entry pl i with
    state := .final, own := .passed, unitGrade := .passed, tail := .none, offset := 0, flags := ResultFlags.clear } := by
  rw [State.passed, entry_leaveBeats, entry_makeFinal (by rw [length_pool_onEntry]; exact low), entry_onEntry_same _ low]

theorem entry_passed_ne {k : Nat} (other : k ≠ i) : (s.passed pl i).entry pl k = s.entry pl k := by
  rw [State.passed, entry_leaveBeats, entry_makeFinal_ne other, entry_onEntry_ne _ other]

theorem writer_passed : (s.passed pl i).writer pl = { s.writer pl with queue := (s.writer pl).queue ++ [.result i] } :=
  writer_makeFinal

/-- R74: a beat entry is passed, and its trigger reaches every panel of the player. -/
theorem passBeat_eq : s.passBeat pl i = (s.passed pl i).triggerBeat pl (s.entry pl i).record.cue := by
  rw [State.passBeat, State.passed]

theorem keeps_triggerBeat (level : Nat) : Keeps [.lamps] s (s.triggerBeat pl level) := (triggerBeat_effect pl level).1.keeps

end due
end Sys2Proof.Machine

namespace Sys2Proof.Machine

/-! ### The rows of the due times (R74, R88, R103, R104, R106, R107) -/

/-- Entry `i` has taken its result `e`, and the score unit what it is worth. -/
structure Settled (s t : State) (pl : Player) (i : Nat) (e : Entry) (score : Score) : Prop extends Retired s t pl i e where
  score : t.scoreUnit pl = score
  keeps : Keeps [.judge pl, .score pl, .writer pl, .fetcher pl] s t

section settled
variable {s t : State} {pl : Player} {i : Nat} {e : Entry} {c : Score} {f : Entry → Entry}

theorem settled_retire (low : i < (s.judge pl).pool.length) (record : (f (s.entry pl i)).record = (s.entry pl i).record) :
    Settled s (s.retire pl i f) pl i { f (s.entry pl i) with state := .final } (s.scoreUnit pl) where
  toRetired := retired_retire low record
  score := scoreUnit_retire f
  keeps := keeps_retire.mono (by simp)

theorem Settled.settle (h : Settled s t pl i e c) (x : Settlement) : Settled s (t.settle pl x) pl i e (c.apply x) where
  toRetired := h.toRetired.of_same (State.judge_setScore ..) (State.writer_setScore ..)
  score := by rw [scoreUnit_settle, h.score]
  keeps := h.keeps.onScore _

/-- R106: what a strike leaves. -/
theorem strikeEntry_effect (low : i < (s.judge pl).pool.length) (d : Int) :
    let t := s.strikeEntry pl i d
    Retired s t pl i { s.entry pl i with state := .final, own := .struck, unitGrade := .struck, tail := .none, offset := d }
      ∧ t.scoreUnit pl = (s.scoreUnit pl).apply (.struck (s.params pl).struckDelta)
      ∧ t.lamps = (s.triggerLane pl .strike 255 (s.entry pl i).record.lane).lamps
      ∧ Keeps [.judge pl, .score pl, .writer pl, .fetcher pl, .lamps] s t := by
  intro t
  have settled := (settled_retire (f := fun e => { e with own := .struck, unitGrade := .struck, tail := .none, offset := d })
    low rfl).settle (.struck (s.params pl).struckDelta)
  rw [show t = _ from strikeEntry_eq d]
  generalize (s.retire pl i _).settle pl (.struck (s.params pl).struckDelta) = w at settled
  have lit := keeps_triggerLane (s := w) pl .strike 255 (s.entry pl i).record.lane
  refine ⟨settled.toRetired.of_same (lit.2 (.judge pl) (by simp)) (lit.2 (.writer pl) (by simp)),
    (lit.2 (.score pl) (by simp)).trans settled.score, ?_, (settled.keeps.mono (by simp)).trans (lit.mono (by simp))⟩
  exact SameLights.triggerLane pl _ _ (.of_keeps settled.keeps (by simp) (by simp) (by simp))
    (settled.keeps.2 (.session pl) (by simp)) _

end settled

section rows
variable {s : State} {pl : Player} {i : Nat} (op : s.run = .operating) (h : Serving s pl)
include op h

/-- R113: a due time that is served and fails nobody. -/
theorem exec_due {c : Instr} {is : Entry → Bool} {due : Int} {t : State}
    (row : exec c s = .next (s.whenOperating (fun s => s.dueEvent pl i is))) (kind : is (s.entry pl i) = true)
    (next : s.nextDueOf pl (s.entry pl i) = some due) (reached : due ≤ (s.judge pl).judged)
    (served : s.serveDue s.pads pl i = t) (standing : (t.scoreUnit pl).outcome ≠ .failed) : exec c s = .next t := by
  rw [row, whenOperating_of op, dueEvent_of h kind next reached, served, endJudgeStep_of_standing standing]

section lapse
variable (waiting : (s.entry pl i).state = .waiting) (alone : (s.entry pl i).chord = none)
  (reached : s.lapseDue pl (s.entry pl i) ≤ (s.judge pl).judged) {u v : Nat} (unit : (s.entry pl i).unit = some u)
include waiting alone reached unit

theorem lapseDue_tap (tap : (s.entry pl i).record.kind = .tap)
    (standing : ((s.scoreUnit pl).apply (.unit u .lapse 0 (s.params pl).lapseDelta .break)).outcome ≠ .failed) :
    ∃ t, exec (.lapseDue pl i) s = .next t
      ∧ Settled s t pl i { s.entry pl i with state := .final, own := .lapse, unitGrade := .lapse, offset := 0 }
        ((s.scoreUnit pl).apply (.unit u .lapse 0 (s.params pl).lapseDelta .break)) := by
  have low := lt_of_entry_ne_free (by rw [waiting]; decide)
  have settled := (settled_retire (f := fun e => { e with own := .lapse, unitGrade := .lapse, offset := 0 }) low rfl).settle
    (.unit u .lapse 0 (s.params pl).lapseDelta .break)
  exact ⟨_, exec_due op h rfl (by rw [waiting]; rfl) (nextDueOf_of_waiting waiting) reached
    ((serveDue_of_waiting _ waiting).trans (lapseEntry_tap low tap alone unit)) (by rw [settled.score]; exact standing), settled⟩

theorem lapseDue_hold (hold : (s.entry pl i).record.kind = .hold) (tail : (s.entry pl i).tailUnit = some v)
    (standing : (((s.scoreUnit pl).apply (.unit u .lapse 0 (s.params pl).lapseDelta .break)).apply
      (.unit v .dropped 0 0 .break)).outcome ≠ .failed) :
    ∃ t, exec (.lapseDue pl i) s = .next t
      ∧ Settled s t pl i { s.entry pl i with state := .final, own := .lapse, unitGrade := .lapse, tail := .dropped, offset := 0 }
        (((s.scoreUnit pl).apply (.unit u .lapse 0 (s.params pl).lapseDelta .break)).apply (.unit v .dropped 0 0 .break)) := by
  have low := lt_of_entry_ne_free (by rw [waiting]; decide)
  have settled := ((settled_retire (f := fun e => { e with own := .lapse, unitGrade := .lapse, tail := .dropped, offset := 0 })
    low rfl).settle (.unit u .lapse 0 (s.params pl).lapseDelta .break)).settle (.unit v .dropped 0 0 .break)
  exact ⟨_, exec_due op h rfl (by rw [waiting]; rfl) (nextDueOf_of_waiting waiting) reached
    ((serveDue_of_waiting _ waiting).trans (lapseEntry_hold low hold alone unit tail)) (by rw [settled.score]; exact standing),
    settled⟩

end lapse

theorem beatDue_row (scheduled : (s.entry pl i).state = .scheduled)
    (reached : s.effectiveDue pl (s.entry pl i) ≤ (s.judge pl).judged) (standing : (s.scoreUnit pl).outcome ≠ .failed) :
    ∃ t, exec (.beatDue pl i) s = .next t ∧ Keeps [.lamps] (s.passed pl i) t
      ∧ t.lamps = (s.triggerBeat pl (s.entry pl i).record.cue).lamps := by
  refine ⟨_, exec_due op h rfl (by rw [scheduled]; rfl) (nextDueOf_of_scheduled scheduled) reached
    ((serveDue_of_scheduled _ scheduled).trans passBeat_eq) ?_, keeps_triggerBeat _, SameLights.triggerBeat pl _ lights_passed⟩
  rw [show State.scoreUnit (State.triggerBeat _ pl _) pl = _ from (keeps_triggerBeat _).2 (.score pl) (by simp),
    show (s.passed pl i).scoreUnit pl = _ from keeps_passed.2 (.score pl) (by simp)]
  exact standing

theorem crossingDue_row {t : State} (watching : (s.entry pl i).state = .watching) (fresh : (s.entry pl i).crossed = false)
    (reached : s.effectiveDue pl (s.entry pl i) ≤ (s.judge pl).judged)
    (row : (if (s.lanePanelIn s.pads pl (s.entry pl i).record.lane).pressed then s.strikeEntry pl i 0
      else s.onEntry pl i (fun e => { e with crossed := true })) = t) (standing : (t.scoreUnit pl).outcome ≠ .failed) :
    exec (.crossingDue pl i) s = .next t := by
  refine exec_due op h rfl (by rw [watching, fresh]; rfl) (nextDueOf_of_watching watching) (by rw [fresh]; exact reached) ?_ standing
  rw [serveDue_of_watching _ watching, fresh]
  exact row

theorem avoidSettleDue_row (watching : (s.entry pl i).state = .watching) (crossed : (s.entry pl i).crossed = true)
    (reached : s.avoidSettleDue pl (s.entry pl i) ≤ (s.judge pl).judged)
    (standing : ((s.scoreUnit pl).apply .avoided).outcome ≠ .failed) :
    ∃ t, exec (.avoidSettleDue pl i) s = .next t
      ∧ Settled s t pl i { s.entry pl i with
        state := .final, own := .avoided, unitGrade := .avoided, tail := .none, offset := 0 } ((s.scoreUnit pl).apply .avoided) := by
  have low := lt_of_entry_ne_free (by rw [watching]; decide)
  have settled := (settled_retire (f := fun e => { e with own := .avoided, unitGrade := .avoided, tail := .none, offset := 0 })
    low rfl).settle .avoided
  exact ⟨_, exec_due op h rfl (by rw [watching, crossed]; rfl) (nextDueOf_of_watching watching) (by rw [crossed]; exact reached)
    ((serveDue_of_watching _ watching).trans ((if_pos crossed).trans avoidEntry_eq)) (by rw [settled.score]; exact standing), settled⟩

end rows
end Sys2Proof.Machine

namespace Sys2Proof.Machine

/-! ### A press, matched (R78 to R80, R105) -/

/-- R105: the press at `p` strikes entry `i`. -/
def State.strikesAt (s : State) (pl : Player) (p : Int) (i : Nat) : Prop :=
  (s.entry pl i).state = .watching ∧ -((s.params pl).avoidWindow : Int) ≤ p - (s.judge pl).effective (s.entry pl i)
    ∧ p - (s.judge pl).effective (s.entry pl i) ≤ (s.params pl).avoidWindow

section matching
variable {s : State} {pl : Player} {pad : PadId} {p : PanelId} {l i : Nat} {stamp : Int}

theorem laneTargetOf_of_laneOf (lane : s.laneOf pl pad p = some l) : s.laneTargetOf pl l = some (pad, p) :=
  of_decide_eq_true (List.find?_some (p := fun l => decide (s.laneTargetOf pl l = some (pad, p))) lane)

theorem triggerLane_of_laneOf (lane : s.laneOf pl pad p = some l) (k : Trigger) (level : Nat) :
    s.triggerLane pl k level l = s.trigger pl k level pad p := by
  rw [State.triggerLane, laneTargetOf_of_laneOf lane]

theorem testAvoid_of_strikes (strikes : s.strikesAt pl stamp i) :
    s.testAvoid pl stamp i = s.strikeEntry pl i (stamp - (s.judge pl).effective (s.entry pl i)) := if_pos strikes

theorem testAvoid_of_misses (misses : ¬ s.strikesAt pl stamp i) : s.testAvoid pl stamp i = s := if_neg misses

theorem not_strikesAt_of_apart (apart : (s.entry pl i).state = .watching →
    stamp - (s.judge pl).effective (s.entry pl i) < -((s.params pl).avoidWindow : Int)
      ∨ ((s.params pl).avoidWindow : Int) < stamp - (s.judge pl).effective (s.entry pl i)) : ¬ s.strikesAt pl stamp i := by
  rintro ⟨watching, early, late⟩
  have := apart watching
  omega

theorem foldl_testAvoid_of_misses {lane : List Nat} (misses : ∀ k ∈ lane, ¬ s.strikesAt pl stamp k) :
    lane.foldl (fun s k => s.testAvoid pl stamp k) s = s := by
  induction lane with
  | nil => rfl
  | cons k lane ih =>
    rw [List.foldl_cons, testAvoid_of_misses (misses k (List.mem_cons_self ..))]
    exact ih fun k mem => misses k (List.mem_cons_of_mem _ mem)

theorem Retired.misses {t : State} {e : Entry} (h : Retired s t pl i e) (params : t.params pl = s.params pl)
    (final : e.state = .final) {k : Nat} (misses : k ≠ i → ¬ s.strikesAt pl stamp k) : ¬ t.strikesAt pl stamp k := by
  by_cases same : k = i
  · rintro ⟨watching, -⟩
    rw [same, h.entry, final] at watching
    cases watching
  · have effective : (t.judge pl).effective (t.entry pl k) = (s.judge pl).effective (s.entry pl k) := by
      rw [h.others k same]; exact congrArg (fun q : Params => (s.entry pl k).record.time + q.offset) params
    rw [State.strikesAt, h.others k same, params, ← h.others k same, effective, h.others k same]
    exact misses same

theorem params_triggerLane (k : Trigger) (level lane : Nat) : (s.triggerLane pl k level lane).params pl = s.params pl :=
  congrArg Judge.params ((keeps_triggerLane pl k level lane).2 (.judge pl) (by simp))

theorem params_settle (x : Settlement) : (s.settle pl x).params pl = s.params pl := congrArg Judge.params (State.judge_setScore ..)

theorem params_strikeEntry (d : Int) : (s.strikeEntry pl i d).params pl = s.params pl := by
  rw [strikeEntry_eq, params_triggerLane, params_settle, params_retire]

/-- R79, R105: the one avoid note of a lane that the press strikes. -/
theorem foldl_testAvoid_of_strikes {lane : List Nat} (low : i < (s.judge pl).pool.length) (mem : i ∈ lane)
    (strikes : s.strikesAt pl stamp i) (only : ∀ k ∈ lane, k ≠ i → ¬ s.strikesAt pl stamp k) :
    lane.foldl (fun s k => s.testAvoid pl stamp k) s = s.strikeEntry pl i (stamp - (s.judge pl).effective (s.entry pl i)) := by
  induction lane with
  | nil => cases mem
  | cons k lane ih =>
    have rest : ∀ k ∈ lane, k ≠ i → ¬ s.strikesAt pl stamp k := fun k mem => only k (List.mem_cons_of_mem _ mem)
    rw [List.foldl_cons]
    by_cases same : k = i
    · rw [same, testAvoid_of_strikes strikes]
      refine foldl_testAvoid_of_misses fun k mem => ?_
      exact (strikeEntry_effect low _).1.misses (params_strikeEntry _) rfl (rest k mem)
    · rw [testAvoid_of_misses (only k (List.mem_cons_self ..) same)]
      exact ih ((List.mem_cons.mp mem).resolve_left (Ne.symm same)) rest

theorem usePress_of_steady (steady : ∀ k ∈ (s.judge pl).lane l, (s.entry pl k).state ≠ .slipping) :
    s.usePress pl l stamp = s.matchOrFree pl l stamp := by
  have none : (s.judge pl).firstIn l .slipping = none :=
    List.find?_eq_none.mpr fun k mem chosen => steady k mem (of_decide_eq_true chosen)
  rw [State.usePress, none]

/-- R80: entry `i` waits, and its THIN window contains the press at `p`. -/
def State.gradesAt (s : State) (pl : Player) (p : Int) (i : Nat) : Bool :=
  (s.entry pl i).state = .waiting ∧ (s.params pl).thin.contains (p - (s.judge pl).effective (s.entry pl i))

theorem gradesAt_iff : s.gradesAt pl stamp i ↔ (s.entry pl i).state = .waiting
    ∧ -((s.params pl).thin.early : Int) ≤ stamp - (s.judge pl).effective (s.entry pl i)
    ∧ stamp - (s.judge pl).effective (s.entry pl i) ≤ (s.params pl).thin.late := by
  rw [State.gradesAt, decide_eq_true_iff, GradeRow.contains, decide_eq_true_iff]

theorem matchPress_eq : (s.judge pl).matchPress l stamp = ((s.judge pl).lane l).find? (s.gradesAt pl stamp) := rfl

theorem matchPress_eq_none (unmatched : ∀ k ∈ (s.judge pl).lane l, ¬ s.gradesAt pl stamp k) :
    (s.judge pl).matchPress l stamp = none := matchPress_eq.trans (List.find?_eq_none.mpr unmatched)

theorem matchPress_eq_some {front back : List Nat} (lane : (s.judge pl).lane l = front ++ i :: back)
    (before : ∀ k ∈ front, ¬ s.gradesAt pl stamp k) (grades : s.gradesAt pl stamp i) :
    (s.judge pl).matchPress l stamp = some i := by
  rw [matchPress_eq, lane, List.find?_append, List.find?_eq_none.mpr before, Option.none_or, List.find?_cons_of_pos grades]

end matching
end Sys2Proof.Machine

namespace Sys2Proof.Machine

/-! ### A press grades an entry that stands alone (R81 to R83, R95) -/

theorem gradeOf_eq (q : Params) (d : Int) : q.gradeOf d =
    if -(q.apex.early : Int) ≤ d ∧ d ≤ q.apex.late then .apex else if -(q.solid.early : Int) ≤ d ∧ d ≤ q.solid.late then .solid
    else if -(q.fair.early : Int) ≤ d ∧ d ≤ q.fair.late then .fair else .thin := by
  simp only [Params.gradeOf, GradeRow.contains, decide_eq_true_eq]

/-- R81, R82: what the grade of a press is worth. -/
theorem settlement_gradeOf (q : Params) (u : Nat) (d : Int) :
    let within (row : GradeRow) : Prop := -(row.early : Int) ≤ d ∧ d ≤ row.late
    let count : UnitCount := if within q.apex then .apex else if within q.solid then .solid else if within q.fair then .fair else .thin
    let row := if within q.apex then q.apex else if within q.solid then q.solid else if within q.fair then q.fair else q.thin
    q.settlement u (q.gradeOf d) = .unit u count row.fraction row.delta row.action := by
  rw [gradeOf_eq]
  dsimp only
  split_ifs <;> rfl

/-- R81 to R83: an entry has taken its grade and the offset has joined the sum, and the trigger was pulled. -/
def State.rated (s : State) (pl : Player) (i : Nat) (g : Grade) (d : Int) : State :=
  ((s.onEntry pl i (fun e => { e with own := g, offset := d })).onScore pl (fun c => c.takeOffset d)).triggerLane pl .grade
    (s.entry pl i).record.cue (s.entry pl i).record.lane

theorem Retired.of_before {s t w : State} {pl : Player} {i : Nat} {e : Entry} (h : Retired w t pl i e)
    (others : ∀ k, k ≠ i → w.entry pl k = s.entry pl k) (record : (w.entry pl i).record = (s.entry pl i).record)
    (lanes : ∀ k, (w.judge pl).lane k = (s.judge pl).lane k) (writer : w.writer pl = s.writer pl) : Retired s t pl i e where
  entry := h.entry
  others k other := (h.others k other).trans (others k other)
  lanes k := by rw [h.lanes, record, lanes, lanes]
  writer := by rw [h.writer, writer]

section grading
variable {s : State} {pl : Player} {i u : Nat} {g : Grade} {d : Int}

theorem judge_rated : (s.rated pl i g d).judge pl = (s.onEntry pl i (fun e => { e with own := g, offset := d })).judge pl :=
  ((keeps_triggerLane ..).2 (.judge pl) (by simp)).trans (State.judge_setScore ..)

theorem entry_rated (low : i < (s.judge pl).pool.length) :
    (s.rated pl i g d).entry pl i = { s.entry pl i with own := g, offset := d } :=
  (congrArg (Judge.entry · i) judge_rated).trans (entry_onEntry_same (fun e => { e with own := g, offset := d }) low)

theorem entry_rated_ne {k : Nat} (other : k ≠ i) : (s.rated pl i g d).entry pl k = s.entry pl k :=
  (congrArg (Judge.entry · k) judge_rated).trans (entry_onEntry_ne (fun e => { e with own := g, offset := d }) other)

theorem lane_rated (k : Nat) : ((s.rated pl i g d).judge pl).lane k = (s.judge pl).lane k := by
  rw [judge_rated, judge_onEntry]; rfl

theorem params_rated : (s.rated pl i g d).params pl = s.params pl := by
  rw [State.params, judge_rated, judge_onEntry]; rfl

theorem score_rated : (s.rated pl i g d).scoreUnit pl = (s.scoreUnit pl).takeOffset d :=
  ((keeps_triggerLane ..).2 (.score pl) (by simp)).trans (State.scoreUnit_setScore_same ..)

theorem keeps_rated : Keeps [.judge pl, .score pl, .lamps] s (s.rated pl i g d) :=
  ((((Keeps.refl s).onEntry i _).onScore _)).trans ((keeps_triggerLane ..).mono (by simp))

theorem lamps_rated : (s.rated pl i g d).lamps =
    (s.triggerLane pl .grade (s.entry pl i).record.cue (s.entry pl i).record.lane).lamps := by
  have before : Keeps [.judge pl, .score pl] s
      ((s.onEntry pl i (fun e => { e with own := g, offset := d })).onScore pl (fun c => c.takeOffset d)) :=
    ((Keeps.refl s).onEntry i _).onScore _
  exact SameLights.triggerLane pl _ _ (.of_keeps before (by simp) (by simp) (by simp)) (before.2 (.session pl) (by simp)) _

theorem gradeEntry_eq (low : i < (s.judge pl).pool.length) : s.gradeEntry pl i d =
    if (s.entry pl i).record.kind = .hold then
      (((s.rated pl i ((s.params pl).gradeOf d) d).onEntry pl i (fun e => { e with state := .held })).settleHead pl i).enterHeld pl i
    else (s.rated pl i ((s.params pl).gradeOf d) d).finishTap pl i := by
  unfold State.gradeEntry
  dsimp only
  rw [entry_onEntry_same _ low]
  rfl

/-- R81, R82: a TAP that stands alone is graded. -/
theorem gradeEntry_tap (low : i < (s.judge pl).pool.length) (tap : (s.entry pl i).record.kind = .tap)
    (alone : (s.entry pl i).chord = none) (unit : (s.entry pl i).unit = some u) :
    let g := (s.params pl).gradeOf d
    let t := s.gradeEntry pl i d
    Retired s t pl i { s.entry pl i with state := .final, own := g, unitGrade := g, offset := d }
      ∧ t.scoreUnit pl = ((s.scoreUnit pl).takeOffset d).apply ((s.params pl).settlement u g)
      ∧ t.lamps = (s.triggerLane pl .grade (s.entry pl i).record.cue (s.entry pl i).record.lane).lamps
      ∧ Keeps [.judge pl, .score pl, .writer pl, .fetcher pl, .lamps] s t := by
  intro g t
  have before := entry_rated (g := g) (d := d) low
  have is : t = ((s.rated pl i g d).retire pl i (fun e => { e with unitGrade := e.own })).settle pl ((s.params pl).settlement u g) := by
    rw [show t = _ from gradeEntry_eq low, if_neg (by rw [tap]; decide), finishTap_alone (by rw [before]; exact alone)
      (by rw [before]; exact unit), before, params_rated]
  have stays : i < ((s.rated pl i g d).judge pl).pool.length := by rw [judge_rated, length_pool_onEntry]; exact low
  have settled := (settled_retire (f := fun e => { e with unitGrade := e.own }) stays rfl).settle ((s.params pl).settlement u g)
  rw [← is, before] at settled
  refine ⟨settled.toRetired.of_before (fun _ => entry_rated_ne) (by rw [before]) lane_rated (keeps_rated.2 (.writer pl) (by simp)),
    by rw [settled.score, score_rated], ?_, (keeps_rated.mono (by simp)).trans (settled.keeps.mono (by simp))⟩
  exact (settled.keeps.2 .lamps (by simp)).trans lamps_rated

end grading
end Sys2Proof.Machine

namespace Sys2Proof.Machine

/-! ### A press grades a HOLD head that stands alone (R83, R95) -/

section hold
variable {s : State} {pl : Player} {i u : Nat} {d : Int}

theorem settleDue_of_same {t : State} {e : Entry} (params : t.params pl = s.params pl) (sessions : t.session pl = s.session pl)
    (profiles : ∀ pad, (t.pad pad).profile = (s.pad pad).profile) : t.settleDue pl e = s.settleDue pl e := by
  have target : t.laneTargetOf pl e.record.lane = s.laneTargetOf pl e.record.lane := by rw [State.laneTargetOf, sessions]; rfl
  have release : t.laneDOff pl e.record.lane = s.laneDOff pl e.record.lane := by
    unfold State.laneDOff
    rw [target]
    split
    exacts [rfl, congrArg Profile.dOff (profiles _)]
  rw [State.settleDue, State.settleDue, release]
  exact congrArg (fun q : Params => capTime (e.record.time + e.record.length + q.offset + _ + 1)) params

theorem profile_markHold (lane : Nat) (on : Bool) (pad : PadId) : ((s.markHold pl lane on).pad pad).profile = (s.pad pad).profile := by
  unfold State.markHold
  split
  · rfl
  · rename_i at' _
    obtain ⟨pad', p⟩ := at'
    cases pad <;> cases pad' <;> rfl

/-- R95: a hold enters HELD before its settle due. -/
theorem enterHeld_of_early (low : i < (s.judge pl).pool.length) (early : (s.judge pl).judged < s.settleDue pl (s.entry pl i)) :
    s.enterHeld pl i =
      (s.onEntry pl i (fun e => { e with state := .held, slip := none })).markHold pl (s.entry pl i).record.lane true := by
  have held := entry_onEntry_same (s := s) (pl := pl) (fun e => { e with state := .held, slip := none }) low
  have mark := keeps_markHold (pl := pl) (but := [.pad .pad0, .pad .pad1])
    (.refl (s.onEntry pl i (fun e => { e with state := .held, slip := none }))) (s.entry pl i).record.lane true
    (by intro i; cases i <;> simp)
  have judge := (mark.2 (.judge pl) (by simp) : _ = State.judge _ _)
  unfold State.enterHeld
  dsimp only
  rw [held]
  refine if_neg (Int.not_le.mpr ?_)
  rw [judge, settleDue_of_same (t := State.markHold ..) (s := s) ((congrArg Judge.params judge).trans (params_onEntry _))
    (mark.2 (.session pl) (by simp))
    (profile_markHold _ _), judge_onEntry]
  exact early

/-- R83, R95: a graded HOLD head is settled and enters HELD, its settle due not yet reached. -/
theorem headHeld_effect {x : Settlement} (low : i < (s.judge pl).pool.length)
    (early : (s.judge pl).judged < s.settleDue pl (s.entry pl i)) :
    let t := ((s.onEntry pl i (fun e => { e with state := .held, unitGrade := e.own })).settle pl x).enterHeld pl i
    t.entry pl i = { s.entry pl i with state := .held, unitGrade := (s.entry pl i).own, slip := none }
      ∧ (∀ k, (t.judge pl).lane k = (s.judge pl).lane k) ∧ t.scoreUnit pl = (s.scoreUnit pl).apply x
      ∧ ∃ w, Keeps [.judge pl, .score pl] s w ∧ t = w.markHold pl (s.entry pl i).record.lane true := by
  intro t
  have settled := entry_onEntry_same (s := s) (pl := pl) (fun e => { e with state := .held, unitGrade := e.own }) low
  have keeps : Keeps [.judge pl, .score pl] s
      ((s.onEntry pl i (fun e => { e with state := .held, unitGrade := e.own })).settle pl x) :=
    ((Keeps.refl s).onEntry i _).onScore _
  have judge : (State.settle _ pl x).judge pl = (s.onEntry pl i (fun e => { e with state := .held, unitGrade := e.own })).judge pl :=
    State.judge_setScore ..
  have score : (State.settle _ pl x).scoreUnit pl = (s.scoreUnit pl).apply x :=
    scoreUnit_settle (s.onEntry pl i (fun e => { e with state := .held, unitGrade := e.own })) pl x
  have enters : t = State.enterHeld _ pl i := rfl
  clear_value t
  generalize (s.onEntry pl i (fun e => { e with state := .held, unitGrade := e.own })).settle pl x = w at enters keeps judge score
  have stays : i < (w.judge pl).pool.length := by rw [judge, length_pool_onEntry]; exact low
  have entry : w.entry pl i = _ := (congrArg (Judge.entry · i) judge).trans settled
  have is := enters.trans (enterHeld_of_early stays (by
    rw [entry, settleDue_of_same (s := s) ((congrArg Judge.params judge).trans (params_onEntry _)) (keeps.2 (.session pl) (by simp))
      (fun pad => congrArg Pad.profile (keeps.2 (.pad pad) (by simp))), judge, judge_onEntry]
    exact early))
  rw [entry] at is
  have mark := keeps_markHold (pl := pl) (but := [.pad .pad0, .pad .pad1])
    (.refl (w.onEntry pl i (fun e => { e with state := .held, slip := none }))) (s.entry pl i).record.lane true
    (by intro i; cases i <;> simp)
  have last : t.judge pl = _ := (congrArg (State.judge · pl) is).trans (mark.2 (.judge pl) (by simp))
  refine ⟨?_, fun k => ?_, ?_, _, keeps.onEntry i _, is⟩
  · refine (congrArg (Judge.entry · i) last).trans ((entry_onEntry_same
      (fun e => { e with state := .held, slip := none }) stays).trans ?_)
    rw [entry]
  · rw [last, judge_onEntry, judge, judge_onEntry]; rfl
  · exact ((congrArg (State.scoreUnit · pl) is).trans (mark.2 (.score pl) (by simp))).trans score

/-- R83, R95: a HOLD head that stands alone is graded, its settle due not yet reached. -/
theorem gradeEntry_hold (low : i < (s.judge pl).pool.length) (hold : (s.entry pl i).record.kind = .hold)
    (alone : (s.entry pl i).chord = none) (unit : (s.entry pl i).unit = some u)
    (early : (s.judge pl).judged < s.settleDue pl (s.entry pl i)) :
    let g := (s.params pl).gradeOf d
    let t := s.gradeEntry pl i d
    t.entry pl i = { s.entry pl i with state := .held, own := g, unitGrade := g, offset := d, slip := none }
      ∧ (∀ k, (t.judge pl).lane k = (s.judge pl).lane k)
      ∧ t.scoreUnit pl = ((s.scoreUnit pl).takeOffset d).apply ((s.params pl).settlement u g)
      ∧ ∃ w, Keeps [.judge pl, .score pl, .lamps] s w ∧ t = w.markHold pl (s.entry pl i).record.lane true
        ∧ w.lamps = (s.triggerLane pl .grade (s.entry pl i).record.cue (s.entry pl i).record.lane).lamps := by
  intro g t
  have before := entry_rated (g := g) (d := d) low
  have stays : i < ((s.rated pl i g d).judge pl).pool.length := by rw [judge_rated, length_pool_onEntry]; exact low
  have rated := keeps_rated (s := s) (pl := pl) (i := i) (g := g) (d := d)
  have is : t = (((s.rated pl i g d).onEntry pl i (fun e => { e with state := .held, unitGrade := e.own })).settle pl
      ((s.params pl).settlement u g)).enterHeld pl i := by
    have held := entry_onEntry_same (s := s.rated pl i g d) (pl := pl) (fun e => { e with state := .held }) stays
    rw [show t = _ from gradeEntry_eq low, if_pos hold, settleHead_alone (by rw [held, before]; exact alone)
      (by rw [held, before]; exact unit), held, before, onEntry_onEntry, params_onEntry, params_rated]
    rfl
  have due : (s.rated pl i g d).settleDue pl ((s.rated pl i g d).entry pl i) = s.settleDue pl (s.entry pl i) := by
    rw [before]
    exact settleDue_of_same params_rated (rated.2 (.session pl) (by simp)) (fun pad => congrArg Pad.profile (rated.2 (.pad pad) (by simp)))
  obtain ⟨entry, lanes, score, w, keeps, mark⟩ := headHeld_effect (x := (s.params pl).settlement u g) stays (by
    rw [due, judge_rated, judge_onEntry]; exact early)
  rw [← is] at entry lanes score mark
  rw [before] at entry mark
  exact ⟨entry, fun k => (lanes k).trans (lane_rated k), by rw [score, score_rated], w, rated.trans (keeps.mono (by simp)), mark,
    (keeps.2 .lamps (by simp)).trans lamps_rated⟩

end hold
end Sys2Proof.Machine

namespace Sys2Proof.Machine

/-! ### PRESS_CONFIRM of an owned panel (R24, R26, R78) -/

/-- R24: a panel of the pad has taken its confirmed press. -/
def State.pressed (s : State) (pad : PadId) (p : PanelId) : State :=
  s.setPad pad ((s.pad pad).setPanel p ((s.pad pad).panels.get p).confirmPress)

section press
variable {s : State} {pl : Player} {pad : PadId} {p : PanelId} {l i : Nat} {stamp : Int}

theorem keeps_pressed : Keeps [.pad pad] s (s.pressed pad p) := (Keeps.refl s).setPad _ (by simp)

theorem pad_pressed : (s.pressed pad p).pad pad = (s.pad pad).setPanel p ((s.pad pad).panels.get p).confirmPress :=
  State.pad_setPad_same ..

theorem profile_pressed (i : PadId) : ((s.pressed pad p).pad i).profile = (s.pad i).profile := by
  cases pad <;> cases i <;> rfl

theorem laneOf_of_session {t : State} (sessions : t.session pl = s.session pl) : t.laneOf pl pad p = s.laneOf pl pad p := by
  unfold State.laneOf State.laneTargetOf
  rw [sessions]

theorem lamps_trigger_pressed (rising : ((s.pad pad).panels.get p).state = .rising) (k : Trigger) (level : Nat) :
    ((s.pressed pad p).trigger pl k level pad p).lamps = (s.trigger pl k level pad p).lamps := by
  refine lamps_trigger_of_same pl k level (triggers_of_same pl k rfl rfl ?_) rfl
  have down : (((s.pressed pad p).pad pad).panels.get p).state = .down := by
    rw [pad_pressed, Pad.setPanel, Tab.get_set_same]; rfl
  rw [down, rising]
  decide

theorem exec_pressConfirm (op : s.run = .operating) (active : (s.pad pad).state = .active)
    (within : p.val < (s.pad pad).profile.panelCount) (owned : s.owner pad = some pl)
    (rising : ((s.pad pad).panels.get p).state = .rising)
    (held : (s.pad pad).profile.dOn + 1 ≤ ((s.pad pad).panels.get p).confirm) : exec (.pressConfirm pad p) s =
      .next ((s.pressed pad p).judgePress pl pad p ((s.pad pad).panels.get p).riseStamp) := by
  have event := panelEvent_of (is := fun x f => x.pressReached f.dOn) (r := Panel.pressRound) active within
    (decide_eq_true ⟨rising, held⟩)
  rw [afterPanel_of_stays rfl rfl] at event
  refine congrArg Host.Outcome.next ((whenOperating_of op _).trans (event.trans ?_))
  have owned' : (s.pressed pad p).owner pad = some pl := owned
  exact (congrArg (fun o : Option Player => match o with
    | none => s.pressed pad p
    | some pl => (s.pressed pad p).judgePress pl pad p ((s.pad pad).panels.get p).riseStamp) owned' :)

theorem judgePress_running (lane : s.laneOf pl pad p = some l) (playing : (s.session pl).state = .playing)
    (running : s.clock.state = .running) : s.judgePress pl pad p stamp = (s.usePress pl l stamp).endJudgeStep pl := by
  rw [State.judgePress, lane]
  dsimp only
  rw [if_pos playing, running]

theorem judgePress_paused (lane : s.laneOf pl pad p = some l) (playing : (s.session pl).state = .playing)
    (paused : s.clock.state = .paused) : s.judgePress pl pad p stamp = s.onScore pl Score.freeStep := by
  rw [State.judgePress, lane]
  dsimp only
  rw [if_pos playing, paused]

theorem judgePress_ignored (h : s.laneOf pl pad p = none ∨ (s.session pl).state ≠ .playing ∨ s.clock.state = .idle
    ∨ s.clock.state = .starting) : s.judgePress pl pad p stamp = s := by
  unfold State.judgePress
  split
  · rfl
  · split
    · rename_i l lane playing
      rcases h with h | h | h | h
      · rw [h] at lane; cases lane
      · exact absurd playing h
      · rw [h]
      · rw [h]
    · rfl

theorem scoreUnit_freeStep : (s.onScore pl Score.freeStep).scoreUnit pl =
    { s.scoreUnit pl with freeSteps := min 65535 ((s.scoreUnit pl).freeSteps + 1) } := State.scoreUnit_setScore_same ..

/-- R79, R84: a press that strikes and grades nothing. -/
theorem matchOrFree_of_misses (misses : ∀ k ∈ (s.judge pl).lane l, ¬ s.strikesAt pl stamp k)
    (unmatched : ∀ k ∈ (s.judge pl).lane l, ¬ s.gradesAt pl stamp k) : s.matchOrFree pl l stamp = s.onScore pl Score.freeStep := by
  unfold State.matchOrFree
  dsimp only
  rw [foldl_testAvoid_of_misses misses, matchPress_eq_none unmatched]

/-- R79, R80: a press that strikes nothing and grades entry `i`. -/
theorem matchOrFree_of_grades {front back : List Nat} (misses : ∀ k ∈ (s.judge pl).lane l, ¬ s.strikesAt pl stamp k)
    (lane : (s.judge pl).lane l = front ++ i :: back) (before : ∀ k ∈ front, ¬ s.gradesAt pl stamp k)
    (grades : s.gradesAt pl stamp i) :
    s.matchOrFree pl l stamp = s.gradeEntry pl i (stamp - (s.judge pl).effective (s.entry pl i)) := by
  unfold State.matchOrFree
  dsimp only
  rw [foldl_testAvoid_of_misses misses, matchPress_eq_some lane before grades]

theorem mem_lane_of_retired {t : State} {e : Entry} (h : Retired s t pl i e) {k : Nat} (mem : k ∈ (t.judge pl).lane l) :
    k ∈ (s.judge pl).lane l := by
  rw [h.lanes] at mem
  split at mem
  · rename_i same; rw [same]; exact List.mem_of_mem_erase mem
  · exact mem

theorem Retired.ungraded {t : State} {e : Entry} (h : Retired s t pl i e) (params : t.params pl = s.params pl)
    (final : e.state = .final) {k : Nat} (unmatched : ¬ s.gradesAt pl stamp k) : ¬ t.gradesAt pl stamp k := by
  by_cases same : k = i
  · intro grades
    obtain ⟨waiting, -⟩ := of_decide_eq_true grades
    rw [same, h.entry, final] at waiting
    cases waiting
  · have effective : (t.judge pl).effective (s.entry pl k) = (s.judge pl).effective (s.entry pl k) :=
      congrArg (fun q : Params => (s.entry pl k).record.time + q.offset) params
    rw [State.gradesAt, h.others k same, params, effective]
    exact unmatched

/-- R79, R106: a press that strikes one avoid note and grades nothing is a free step. -/
theorem matchOrFree_of_strikes (low : i < (s.judge pl).pool.length) (mem : i ∈ (s.judge pl).lane l)
    (strikes : s.strikesAt pl stamp i) (only : ∀ k ∈ (s.judge pl).lane l, k ≠ i → ¬ s.strikesAt pl stamp k)
    (unmatched : ∀ k ∈ (s.judge pl).lane l, ¬ s.gradesAt pl stamp k) : s.matchOrFree pl l stamp =
      (s.strikeEntry pl i (stamp - (s.judge pl).effective (s.entry pl i))).onScore pl Score.freeStep := by
  have struck := (strikeEntry_effect low (stamp - (s.judge pl).effective (s.entry pl i))).1
  unfold State.matchOrFree
  dsimp only
  rw [foldl_testAvoid_of_strikes low mem strikes only, matchPress_eq_none fun k mem =>
    struck.ungraded (params_strikeEntry _) rfl (unmatched k (mem_lane_of_retired struck mem))]

end press
end Sys2Proof.Machine

namespace Sys2Proof.Machine

theorem modify_set_tab {n : Nat} {α : Type} (t : Tab n α) (i : Fin n) (a : α) (f : α → α) :
    (t.set i a).modify i f = t.set i (f a) := by
  refine Tab.ext_get fun j => ?_
  rw [Tab.get_modify, Tab.get_set, Tab.get_set]
  split <;> rfl

theorem lt_capTime {x v : Int} (h : v < min 8388607 x) : v < capTime x := h.trans_eq (min_comm 8388607 x)

section used
variable {s : State} {pl : Player} {pad : PadId} {p : PanelId} {l i : Nat} {stamp : Int}

/-- R79, R113: a press that the judge uses, rescuing no hold and failing nobody. -/
theorem judgePress_used {t : State} (lane : s.laneOf pl pad p = some l) (playing : (s.session pl).state = .playing)
    (running : s.clock.state = .running) (steady : ∀ k ∈ (s.judge pl).lane l, (s.entry pl k).state ≠ .slipping)
    (used : s.matchOrFree pl l stamp = t) (standing : (t.scoreUnit pl).outcome ≠ .failed) : s.judgePress pl pad p stamp = t := by
  rw [judgePress_running lane playing running, usePress_of_steady steady, used, endJudgeStep_of_standing standing]

/-- R31, R95: the panel of the lane shows a hold. -/
theorem panels_markHold (lane : s.laneOf pl pad p = some l) :
    ((s.markHold pl l true).pad pad).panels = (s.pad pad).panels.modify p (fun x => { x with holdActive := true }) := by
  rw [State.markHold, laneTargetOf_of_laneOf lane]
  exact congrArg Pad.panels (State.pad_setPad_same ..)

theorem keeps_markHold_of_laneOf (lane : s.laneOf pl pad p = some l) (on : Bool) : Keeps [.pad pad] s (s.markHold pl l on) := by
  rw [State.markHold, laneTargetOf_of_laneOf lane]
  exact (Keeps.refl s).setPad _ (by simp)

end used

/-- Settles O46: the confirmed press is followed from the pad to the judge, and there by what the lane holds for it: nothing, an
entry that it grades, or an avoid note that it strikes. -/
theorem pressesAreMatched : Obligations.PressesAreMatched := by
  refine ⟨fun s pl pad p op active within owned rising held => ?free,
    fun s pl pad p l i u front back op active within owned rising held lane low playing running order => ?grade,
    fun s pl pad p l i op active within owned rising held lane playing running mem => ?strike⟩
  case free =>
    have runs := exec_pressConfirm op active within owned rising held
    refine ⟨fun ignored => ⟨_, runs.trans (congrArg _ (judgePress_ignored ignored)), pad_pressed, keeps_pressed⟩,
      fun l lane playing paused => ⟨_, runs.trans (congrArg _ (judgePress_paused lane playing paused)), pad_pressed,
        scoreUnit_freeStep, (keeps_pressed.mono (by simp)).onScore _⟩,
      fun l lane playing running standing calm => ?_⟩
    have used := matchOrFree_of_misses (s := s.pressed pad p) (pl := pl) (l := l)
      (stamp := ((s.pad pad).panels.get p).riseStamp)
      (fun k mem => not_strikesAt_of_apart (calm k mem).2.1) (fun k mem grades => ?_)
    · refine ⟨_, runs.trans (congrArg _ (judgePress_used lane playing running (fun k mem => (calm k mem).1) used ?_)), pad_pressed,
        scoreUnit_freeStep, (keeps_pressed.mono (by simp)).onScore _⟩
      rw [scoreUnit_freeStep]
      exact standing
    · obtain ⟨waiting, early, late⟩ := gradesAt_iff.mp grades
      rcases (calm k mem).2.2 waiting with apart | apart
      exacts [absurd early (Int.not_le.mpr apart), absurd late (Int.not_le.mpr apart)]
  case grade =>
    intro x e q offset contains d grade row count score calm before waiting inside unit alone record notFront standing
    have runs := exec_pressConfirm op active within owned rising held
    have used := matchOrFree_of_grades (s := s.pressed pad p) (pl := pl) (l := l) (i := i) (front := front) (back := back)
      (stamp := x.riseStamp) (fun k mem => not_strikesAt_of_apart (calm k mem).2) order
      (fun k mem grades => before k mem (gradesAt_iff.mp grades).1 (gradesAt_iff.mp grades).2)
      (gradesAt_iff.mpr ⟨waiting, inside⟩)
    have low := lt_of_entry_ne_free (s := s.pressed pad p) (pl := pl) (i := i) (ne_of_eq_of_ne waiting (by decide))
    have graded : q.gradeOf d = grade := gradeOf_eq q d
    have worth : ((s.scoreUnit pl).takeOffset d).apply (q.settlement u (q.gradeOf d)) = score :=
      congrArg ((s.scoreUnit pl).takeOffset d).apply (settlement_gradeOf q u d)
    have flash := (congrArg State.lamps (triggerLane_of_laneOf (s := s.pressed pad p) lane .grade e.record.cue)).trans
      (lamps_trigger_pressed rising .grade e.record.cue)
    have down : ((s.pressed pad p).pad pad).panels.get p = x.confirmPress := by rw [pad_pressed, Pad.setPanel, Tab.get_set_same]
    have lane' : ((s.pressed pad p).entry pl i).record.lane = l := record
    have passes {t : State} (is : (s.pressed pad p).gradeEntry pl i d = t)
        (scored : t.scoreUnit pl = ((s.scoreUnit pl).takeOffset d).apply (q.settlement u (q.gradeOf d))) :
        exec (.pressConfirm pad p) s = .next t ∧ t.scoreUnit pl = score := by
      have scored := scored.trans worth
      exact ⟨runs.trans (congrArg _ (judgePress_used lane playing running (fun k mem => (calm k mem).1) (used.trans is)
        (by rw [scored]; exact standing))), scored⟩
    refine ⟨fun tap => ?_, fun hold early => ?_⟩
    · obtain ⟨done, scored, lamps, keeps⟩ := gradeEntry_tap (s := s.pressed pad p) (d := d) low tap alone unit
      rw [lane'] at lamps
      have lanes := done.lanes
      rw [lane'] at lanes
      obtain ⟨runs, scored⟩ := passes rfl scored
      refine ⟨_, runs, done.entry.trans (congrArg (fun g => { e with state := .final, own := g, unitGrade := g, offset := d }) graded),
        ?_, scored, done.writer, done.others, fun k other => (lanes k).trans (if_neg other), ?_, lamps.trans flash,
        (keeps_pressed.mono (by simp)).trans (keeps.mono (by simp))⟩
      · rw [lanes, if_pos rfl, show ((s.pressed pad p).judge pl).lane l = _ from order, List.erase_append_right _ notFront,
          List.erase_cons_head]
      · rw [show State.pad _ pad = _ from keeps.2 (.pad pad) (by simp), down]; rfl
    · obtain ⟨entry, lanes, scored, w, keeps, mark, lamps⟩ := gradeEntry_hold (s := s.pressed pad p) (d := d) low hold alone unit (by
        rw [settleDue_of_same (s := s) (t := s.pressed pad p) rfl rfl profile_pressed, State.settleDue, lane']
        exact lt_capTime early)
      rw [lane'] at mark
      rw [lane'] at lamps
      obtain ⟨runs, scored⟩ := passes rfl scored
      have lane'' := (laneOf_of_session (keeps.2 (.session pl) (by simp))).trans lane
      have marked := keeps_markHold_of_laneOf lane'' true
      refine ⟨_, runs,
        entry.trans (congrArg (fun g => { e with state := .held, own := g, unitGrade := g, offset := d, slip := none }) graded),
        lanes l, scored, ?_, ?_, ?_⟩
      all_goals rw [mark]
      · rw [panels_markHold lane'', show w.pad pad = _ from keeps.2 (.pad pad) (by simp), pad_pressed]
        exact modify_set_tab ..
      · exact ((marked.2 .lamps (by simp)).trans lamps).trans flash
      · exact (keeps_pressed.mono (by simp)).trans ((keeps.mono (by simp)).trans (marked.mono (by simp)))
  case strike =>
    intro x e q offset strikes grades score watching record hits standing calm
    have runs := exec_pressConfirm op active within owned rising held
    have low := lt_of_entry_ne_free (s := s.pressed pad p) (pl := pl) (i := i) (ne_of_eq_of_ne watching (by decide))
    have used := matchOrFree_of_strikes (s := s.pressed pad p) (pl := pl) (l := l) (stamp := x.riseStamp) low mem ⟨watching, hits⟩
      (fun k mem other strikes => (calm k mem).2.1 other strikes.1 strikes.2)
      (fun k mem grades => (calm k mem).2.2 (gradesAt_iff.mp grades).1 (gradesAt_iff.mp grades).2)
    have lane' : ((s.pressed pad p).entry pl i).record.lane = l := record
    obtain ⟨done, scored, lamps, keeps⟩ := strikeEntry_effect (s := s.pressed pad p) low (offset i)
    have flash := (congrArg State.lamps (triggerLane_of_laneOf (s := s.pressed pad p) lane .strike 255)).trans
      (lamps_trigger_pressed rising .strike 255)
    have free := scoreUnit_freeStep (s := (s.pressed pad p).strikeEntry pl i (offset i)) (pl := pl)
    rw [scored] at free
    have step := (Keeps.refl (but := [.score pl]) ((s.pressed pad p).strikeEntry pl i (offset i))).onScore (pl := pl) Score.freeStep
    have done := done.of_same (step.2 (.judge pl) (by simp)) (step.2 (.writer pl) (by simp))
    have lanes := done.lanes
    rw [lane'] at lamps lanes
    have keeps := keeps.trans (step.mono (by simp))
    refine ⟨_, runs.trans (congrArg _ (judgePress_used lane playing running (fun k mem => (calm k mem).1) used
        (ne_of_eq_of_ne (congrArg Score.outcome free) standing))), done.entry, done.others, lanes, free, done.writer,
      (step.2 .lamps (by simp)).trans (lamps.trans flash), ?_, (keeps_pressed.mono (by simp)).trans (keeps.mono (by simp))⟩
    exact congrArg Pad.panels ((keeps.2 (.pad pad) (by simp)).trans pad_pressed)

end Sys2Proof.Machine

namespace Sys2Proof.Machine

/-! ### How many due times an entry has left to serve (R87, R89) -/

/-- The due times an entry still has to serve: an avoid note that has not crossed has its crossing and its settle due. -/
def Entry.dues (e : Entry) : Nat :=
  match e.state with
  | .waiting | .scheduled | .held | .slipping => 1
  | .watching => if e.crossed then 1 else 2
  | _ => 0

theorem dues_le_two (e : Entry) : e.dues ≤ 2 := by
  unfold Entry.dues; split
  case h_5 => split <;> decide
  all_goals decide

theorem dues_pos_of_next {s : State} {pl : Player} {e : Entry} {due : Int} (next : s.nextDueOf pl e = some due) : 0 < e.dues := by
  unfold State.nextDueOf at next
  unfold Entry.dues
  cases at' : e.state <;> rw [at'] at next
  case watching => dsimp only; split <;> decide
  case waiting | scheduled | held | slipping => exact Nat.one_pos
  all_goals cases next

/-- A step of the judge that gives no entry another due time, and leaves the value it serves. -/
structure Eases (s t : State) (pl : Player) : Prop where
  judged : (t.judge pl).judged = (s.judge pl).judged
  serving : (t.judge pl).serving = (s.judge pl).serving
  pool : (t.judge pl).pool.length = (s.judge pl).pool.length
  dues : ∀ k, (t.entry pl k).dues ≤ (s.entry pl k).dues

namespace Eases
variable {s t u : State} {pl : Player} {i : Nat}

theorem refl (s : State) (pl : Player) : Eases s s pl := ⟨rfl, rfl, rfl, fun _ => le_rfl⟩

theorem trans (h : Eases s t pl) (k : Eases t u pl) : Eases s u pl :=
  ⟨k.judged.trans h.judged, k.serving.trans h.serving, k.pool.trans h.pool, fun i => (k.dues i).trans (h.dues i)⟩

theorem of_judge (h : t.judge pl = s.judge pl) : Eases s t pl :=
  ⟨by rw [h], by rw [h], by rw [h], fun k => by rw [State.entry, h]; exact le_rfl⟩

theorem of_keeps {but : List Part} (h : Keeps but s t) (judge : Part.judge pl ∉ but) : Eases s t pl := of_judge (h.2 _ judge)

/-- A judge that changes beside its pool, its judged song time and the serving. -/
theorem onJudge (f : Judge → Judge) (judged : (f (s.judge pl)).judged = (s.judge pl).judged)
    (serving : (f (s.judge pl)).serving = (s.judge pl).serving) (pool : (f (s.judge pl)).pool = (s.judge pl).pool) :
    Eases s (s.onJudge pl f) pl := by
  have judge : (s.onJudge pl f).judge pl = f (s.judge pl) := State.judge_setJudge_same ..
  refine ⟨by rw [judge, judged], by rw [judge, serving], by rw [judge, pool], fun k => ?_⟩
  rw [State.entry, judge, Judge.entry, pool]
  exact le_rfl

theorem onEntry (i : Nat) (f : Entry → Entry) (less : (f (s.entry pl i)).dues ≤ (s.entry pl i).dues) :
    Eases s (s.onEntry pl i f) pl := by
  refine ⟨by rw [judge_onEntry], by rw [judge_onEntry], length_pool_onEntry f, fun k => ?_⟩
  rw [entry_onEntry]
  split
  · rename_i here; rw [here.1]; exact less
  · exact le_rfl

theorem settle (x : Settlement) : Eases s (s.settle pl x) pl := of_judge (State.judge_setScore ..)

theorem makeFinal (i : Nat) : Eases s (s.makeFinal pl i) pl :=
  (onEntry i (fun e => { e with state := .final }) (Nat.zero_le _)).trans (of_judge (State.judge_setWriter ..))

theorem reportRoom (lane : Option Nat) : Eases s (s.reportRoom pl lane) pl := of_keeps keeps_reportRoom (by simp)

theorem leaveLane (i : Nat) : Eases s (s.leaveLane pl i) pl := by
  have same (j : Judge) (lane : Nat) : (j.dropFromLane lane i).judged = j.judged ∧ (j.dropFromLane lane i).serving = j.serving := by
    unfold Judge.dropFromLane; split <;> exact ⟨rfl, rfl⟩
  exact (onJudge _ (same _ _).1 (same _ _).2 (pool_dropFromLane _ _)).trans (reportRoom _)

theorem foldl {α : Type} {f : State → α → State} (step : ∀ u a, Eases u (f u a) pl) (l : List α) : Eases s (l.foldl f s) pl :=
  List.foldlRecOn (motive := fun (t : State) => Eases s t pl) l f (refl s pl) (fun t h a _ => h.trans (step t a))

theorem finishMember (i : Nat) : Eases s (s.finishMember pl i) pl := by
  unfold State.finishMember; split
  exacts [makeFinal i, refl s pl]

theorem setChord (k : Fin 8) (c : Option Chord) : Eases s (s.setChord pl k c) pl := onJudge _ rfl rfl rfl

theorem settleChord (k : Fin 8) : Eases s (s.settleChord pl k) pl := by
  unfold State.settleChord; split
  · exact refl s pl
  · refine trans (settle _) (trans (foldl (fun u i => onEntry i _ le_rfl) _) (trans (foldl (fun u i => finishMember i) _)
      (trans (foldl (fun u i => onEntry i _ le_rfl) _) (trans (setChord _ _) (reportRoom _)))))

theorem settleChordIfComplete (k : Fin 8) : Eases s (s.settleChordIfComplete pl k) pl := by
  unfold State.settleChordIfComplete; split
  · exact refl s pl
  · split
    exacts [settleChord k, refl s pl]

theorem reportGrade (k : Fin 8) (g : Grade) : Eases s (s.reportGrade pl k g) pl := by
  unfold State.reportGrade; split
  · exact refl s pl
  · exact (setChord k _).trans (settleChordIfComplete k)

theorem settleUnitOf (unit : Option Nat) (g : Grade) : Eases s (s.settleUnitOf pl unit g) pl := by
  unfold State.settleUnitOf; split
  exacts [refl s pl, settle _]

theorem settleTail (unit : Option Nat) (held : Bool) (delta : Int) : Eases s (s.settleTail pl unit held delta) pl := by
  unfold State.settleTail; split
  exacts [refl s pl, settle _]

theorem settleHead (i : Nat) : Eases s (s.settleHead pl i) pl := by
  unfold State.settleHead; dsimp only; split
  exacts [(onEntry i _ le_rfl).trans (settleUnitOf _ _), reportGrade _ _]

theorem markHold (lane : Nat) (on : Bool) : Eases s (s.markHold pl lane on) pl := by
  unfold State.markHold; split
  exacts [refl s pl, of_judge rfl]

theorem triggerLane (k : Trigger) (level lane : Nat) : Eases s (s.triggerLane pl k level lane) pl :=
  of_keeps (keeps_triggerLane pl k level lane) (by simp)

end Eases

/-! ### A player that closes has no due times added (R152) -/

namespace Eases
variable {s t u : State} {pl : Player} {i : Nat}

theorem ite {c : Prop} [Decidable c] (h : Eases s t pl) (k : Eases s u pl) : Eases s (if c then t else u) pl := by
  split
  exacts [h, k]

theorem onFetcher (f : Fetcher → Fetcher) : Eases s (s.onFetcher pl f) pl := of_judge (State.judge_setFetcher ..)

theorem stopFetcher : Eases s (s.stopFetcher pl) pl := by
  refine trans ?_ (onFetcher _)
  unfold State.returnReserved; split
  · exact refl s pl
  · exact (onEntry _ _ (Nat.zero_le _)).trans (onFetcher _)

theorem voidChord (k : Fin 8) : Eases s (s.voidChord pl k) pl := by
  unfold State.voidChord; split
  · exact refl s pl
  · exact (settle _).trans ((foldl (fun u i => onEntry i _ le_rfl) _).trans (setChord _ _))

theorem voidUnit (unit : Option Nat) : Eases s (s.voidUnit pl unit) pl := of_keeps (keeps_voidUnit unit) (by simp)

theorem cleaned (i lane : Nat) : Eases s (((s.onEntry pl i (fun e => { e with chord := none })).onJudge pl (fun j =>
    { j.dropFromLane lane i with beats := j.beats.erase i })).makeFinal pl i) pl := by
  have same (j : Judge) : (j.dropFromLane lane i).judged = j.judged ∧ (j.dropFromLane lane i).serving = j.serving := by
    unfold Judge.dropFromLane; split <;> exact ⟨rfl, rfl⟩
  refine trans (onEntry i (fun e => { e with chord := none }) le_rfl) (trans ?_ (makeFinal i))
  exact onJudge _ (same _).1 (same _).2 (pool_dropFromLane _ _)

theorem finishEntry (i : Nat) : Eases s (s.finishEntry pl i) pl := by
  unfold State.finishEntry; dsimp only
  split
  · have own := onEntry (s := s) (pl := pl) i (fun e => { e with own := .void, offset := 0 }) le_rfl
    have head := (((own.trans (onEntry i (fun e => { e with unitGrade := .void }) le_rfl)).trans (voidUnit (s.entry pl i).unit)).ite
      (c := (s.entry pl i).chord = none) own)
    exact (((head.trans (onEntry i (fun e => { e with tail := .cut }) le_rfl)).trans (voidUnit _)).ite head).trans (cleaned _ _)
  · exact (onEntry i (fun e => { e with own := .void, unitGrade := .void, tail := .none, offset := 0 }) le_rfl).trans (cleaned _ _)
  · exact (onEntry i (fun e => { e with own := .passed, unitGrade := .passed, tail := .none, offset := 0 }) le_rfl).trans
      (cleaned _ _)
  · exact (onEntry i (fun e => { e with tail := .cut }) le_rfl).trans ((voidUnit _).trans ((markHold _ _).trans (cleaned _ _)))
  · exact (onEntry i (fun e => { e with tail := .cut }) le_rfl).trans ((voidUnit _).trans ((markHold _ _).trans (cleaned _ _)))
  · exact cleaned _ _
  · exact refl s pl

theorem enterClosing (o : StageOutcome) : Eases s (s.enterClosing pl o) pl := by
  have stopped : Eases s (s.stopped pl o) pl :=
    (of_judge (s := s)
      (t := (s.onScore pl (fun c => c.conclude o)).onSession pl (fun x => { x with state := .closing, finalAsked := false }))
      rfl).trans stopFetcher
  rw [enterClosing_eq]
  exact stopped.trans ((trans (foldl (fun u k => voidChord k) _) (foldl (fun u i => finishEntry i) _)).trans
    (of_keeps keeps_askFinal (by simp)))

theorem endJudgeStep : Eases s (s.endJudgeStep pl) pl := by
  unfold State.endJudgeStep; split
  exacts [enterClosing _, refl s pl]

end Eases

/-! ### A due time that is served is gone (R88, R89) -/

/-- The step leaves entry `i` no due time. -/
structure Exhausts (s t : State) (pl : Player) (i : Nat) : Prop extends Eases s t pl where
  out : (t.entry pl i).dues = 0

namespace Exhausts
variable {s t u : State} {pl : Player} {i : Nat}

theorem before (k : Exhausts t u pl i) (h : Eases s t pl) : Exhausts s u pl i := ⟨h.trans k.toEases, k.out⟩

theorem trans (h : Exhausts s t pl i) (k : Eases t u pl) : Exhausts s u pl i :=
  ⟨h.toEases.trans k, Nat.le_zero.mp (h.out ▸ k.dues i)⟩

theorem onEntry (f : Entry → Entry) (out : ∀ e, (f e).dues = 0) : Exhausts s (s.onEntry pl i f) pl i := by
  refine ⟨.onEntry i f (by rw [out]; exact Nat.zero_le _), ?_⟩
  rw [entry_onEntry]
  split
  · exact out _
  · rename_i past
    have off : ¬ i < (s.judge pl).pool.length := fun low => past ⟨rfl, low⟩
    have free : (s.entry pl i).state = .free := by_contra fun used => off (lt_of_entry_ne_free used)
    rw [Entry.dues, free]

theorem makeFinal : Exhausts s (s.makeFinal pl i) pl i :=
  (onEntry (fun e => { e with state := .final }) (fun _ => rfl)).trans (.of_judge (State.judge_setWriter ..))

theorem finalOrJudged : Exhausts s (s.finalOrJudged pl i) pl i := by
  unfold State.finalOrJudged; split
  exacts [makeFinal, onEntry _ (fun _ => rfl)]

theorem finishTap : Exhausts s (s.finishTap pl i) pl i := by
  unfold State.finishTap; dsimp only
  refine before ?_ (.leaveLane i)
  split
  · exact (makeFinal.before (.onEntry i (fun e => { e with unitGrade := e.own }) le_rfl)).trans (.settleUnitOf _ _)
  · exact (onEntry _ (fun _ => rfl)).trans (.reportGrade _ _)

theorem completeTail (held : Bool) : Exhausts s (s.completeTail pl i held) pl i := by
  unfold State.completeTail; dsimp only
  exact finalOrJudged.before ((Eases.onEntry i _ le_rfl).trans ((Eases.settleTail _ _ _).trans ((Eases.markHold _ _).trans
    (Eases.leaveLane i))))

theorem lapseEntry : Exhausts s (s.lapseEntry pl i) pl i := by
  unfold State.lapseEntry; dsimp only
  refine before ?_ (.onEntry i (fun e => { e with own := .lapse, offset := 0 }) le_rfl)
  split
  · exact finalOrJudged.before ((Eases.leaveLane i).trans ((Eases.settleHead i).trans ((Eases.onEntry i _ le_rfl).trans
      (Eases.settleTail _ _ _))))
  · exact finishTap

theorem strikeEntry (d : Int) : Exhausts s (s.strikeEntry pl i d) pl i :=
  ((makeFinal.before (.leaveLane i)).before (.onEntry i _ le_rfl)).trans ((Eases.settle _).trans (.triggerLane _ _ _))

theorem avoidEntry : Exhausts s (s.avoidEntry pl i) pl i :=
  ((makeFinal.before (.leaveLane i)).before (.onEntry i _ le_rfl)).trans (.settle _)

theorem passBeat : Exhausts s (s.passBeat pl i) pl i :=
  ((makeFinal.before (.onEntry i _ le_rfl)).trans ((Eases.onJudge _ rfl rfl rfl).trans (.reportRoom _))).trans
    (.of_keeps (keeps_triggerBeat _) (by simp))

end Exhausts

section serving
variable {s t : State} {pl : Player} {i : Nat} {due v : Int} (seen : PerPad Pad)

/-- R104: a crossing leaves an avoid note its settle due. -/
theorem eases_cross (watching : (s.entry pl i).state = .watching) (fresh : (s.entry pl i).crossed = false) :
    Eases s (s.onEntry pl i (fun e => { e with crossed := true })) pl
      ∧ ((s.onEntry pl i (fun e => { e with crossed := true })).entry pl i).dues < (s.entry pl i).dues := by
  have low := lt_of_entry_ne_free (by rw [watching]; decide)
  have before : (s.entry pl i).dues = 2 := by rw [Entry.dues, watching, fresh]; rfl
  have after : Entry.dues { s.entry pl i with crossed := true } = 1 := by unfold Entry.dues; dsimp only; rw [watching]; rfl
  refine ⟨.onEntry i _ (by rw [after, before]; decide), ?_⟩
  rw [entry_onEntry_same _ low, after, before]
  decide

/-- R89: a due time that is served leaves its entry fewer. -/
theorem serveDue_eases (next : s.nextDueOf pl (s.entry pl i) = some due) :
    Eases s (s.serveDue seen pl i) pl ∧ ((s.serveDue seen pl i).entry pl i).dues < (s.entry pl i).dues := by
  have pos := dues_pos_of_next next
  have gone {u : State} (h : Exhausts s u pl i) : Eases s u pl ∧ (u.entry pl i).dues < (s.entry pl i).dues :=
    ⟨h.toEases, h.out ▸ pos⟩
  unfold State.serveDue; dsimp only
  cases at' : (s.entry pl i).state with
  | waiting => exact gone .lapseEntry
  | scheduled => exact gone .passBeat
  | watching =>
    cases fresh : (s.entry pl i).crossed with
    | true => exact gone .avoidEntry
    | false =>
      show Eases s (s.crossEntry ..) pl ∧ _
      unfold State.crossEntry; split
      exacts [gone (.strikeEntry 0), eases_cross at' fresh]
  | held => exact gone (.completeTail true)
  | slipping =>
    dsimp only; split
    · rename_i slip
      simp [State.nextDueOf, at', slip] at next
    · exact gone (.completeTail _)
  | free | reserved | judged | final => simp [State.nextDueOf, at'] at next

/-- The due times the player's pool still has to serve. -/
def State.load (s : State) (pl : Player) : Nat := ∑ k ∈ Finset.range (s.judge pl).pool.length, (s.entry pl k).dues

theorem Eases.load_lt (h : Eases s t pl) (less : (t.entry pl i).dues < (s.entry pl i).dues) : t.load pl < s.load pl := by
  have low : i < (s.judge pl).pool.length := lt_of_entry_ne_free
    (fun free => by rw [Entry.dues.eq_def (s.entry pl i), free] at less; cases less)
  rw [State.load, h.pool]
  exact Finset.sum_lt_sum (fun k _ => h.dues k) ⟨i, Finset.mem_range.mpr low, less⟩

theorem load_lt_dueFuel : s.load pl < (s.judge pl).dueFuel := by
  have each := Finset.sum_le_card_nsmul (Finset.range (s.judge pl).pool.length) (fun k => (s.entry pl k).dues) 2
    (fun k _ => dues_le_two _)
  rw [Finset.card_range, smul_eq_mul] at each
  rw [State.load, Judge.dueFuel]
  omega

/-! ### Every reached due time is served, whatever fuel is left (R87, R89) -/

theorem state_endJudgeStep (playing : ((s.endJudgeStep pl).session pl).state = .playing) : s.endJudgeStep pl = s := by
  unfold State.endJudgeStep at playing ⊢
  split at playing
  · rw [state_enterClosing] at playing; cases playing
  · rename_i h; exact if_neg h

theorem firstDue_some {l : List Nat} {r : Int × Nat} (first : s.firstDue pl v l = some (i, r)) :
    i ∈ l ∧ ∃ due, s.nextDueOf pl (s.entry pl i) = some due ∧ due ≤ v ∧ r = (due, (s.entry pl i).chartNo) := by
  induction l generalizing r with
  | nil => cases first
  | cons k l ih =>
    unfold State.firstDue at first
    dsimp only at first
    have later (h : s.firstDue pl v l = some (i, r)) := (ih h).imp_left (List.mem_cons_of_mem k)
    cases next : s.nextDueOf pl (s.entry pl k) with
    | none => rw [next] at first; exact later first
    | some due =>
      rw [next] at first
      dsimp only at first
      split at first
      · rename_i reached
        have here (h : some (k, (due, (s.entry pl k).chartNo)) = some (i, r)) : i ∈ k :: l
            ∧ ∃ due, s.nextDueOf pl (s.entry pl i) = some due ∧ due ≤ v ∧ r = (due, (s.entry pl i).chartNo) := by
          obtain ⟨rfl, rfl⟩ := Prod.mk.inj (Option.some.inj h)
          exact ⟨List.mem_cons_self .., due, next, reached, rfl⟩
        cases rest : s.firstDue pl v l with
        | none => rw [rest] at first; exact here first
        | some best =>
          rw [rest] at first
          dsimp only at first
          split at first
          exacts [later (rest.trans first), here first]
      · exact later first

/-- R89: the due time that is served first is the lowest, and of equal ones the one earlier in the chart. -/
theorem firstDue_of_least {l : List Nat} (mem : i ∈ l) (next : s.nextDueOf pl (s.entry pl i) = some due) (reached : due ≤ v)
    (least : ∀ k other, k ≠ i → k ∈ l → s.nextDueOf pl (s.entry pl k) = some other → other ≤ v →
      due < other ∨ (due = other ∧ (s.entry pl i).chartNo < (s.entry pl k).chartNo)) :
    s.firstDue pl v l = some (i, (due, (s.entry pl i).chartNo)) := by
  induction l with
  | nil => cases mem
  | cons k l ih =>
    have tail (within : i ∈ l) := ih within (fun k other ne mem => least k other ne (List.mem_cons_of_mem _ mem))
    unfold State.firstDue
    dsimp only
    by_cases here : k = i
    · subst here
      rw [next]
      dsimp only
      rw [if_pos reached]
      cases rest : s.firstDue pl v l with
      | none => rfl
      | some best =>
        obtain ⟨j, r⟩ := best
        obtain ⟨within, other, nextJ, reachedJ, rfl⟩ := firstDue_some rest
        refine if_neg ?_
        rw [dueBefore, decide_eq_true_iff]
        by_cases same : j = k
        · subst same
          obtain rfl := Option.some.inj (next.symm.trans nextJ)
          rintro (low | ⟨-, low⟩) <;> exact absurd low (lt_irrefl _)
        · have := least j other same (List.mem_cons_of_mem _ within) nextJ reachedJ
          dsimp only
          omega
    · rw [tail ((List.mem_cons.mp mem).resolve_left (Ne.symm here))]
      cases nextK : s.nextDueOf pl (s.entry pl k) with
      | none => rfl
      | some other =>
        dsimp only
        split
        · rename_i reachedK
          exact if_pos (decide_eq_true (least k other here (List.mem_cons_self ..) nextK reachedK))
        · rfl

/-- With more fuel than due times left, the fuel decides nothing. -/
theorem serveDues_fuel (seen : PerPad Pad) : ∀ (m n : Nat) (s : State), s.load pl < m → s.load pl < n →
    s.serveDues seen pl v m = s.serveDues seen pl v n
  | 0, _, s, less, _ => absurd less (Nat.not_lt_zero _)
  | _, 0, s, _, less => absurd less (Nat.not_lt_zero _)
  | m + 1, n + 1, s, lessM, lessN => by
    unfold State.serveDues
    split
    · cases first : s.firstDue pl v (List.range (s.judge pl).pool.length) with
      | none => rfl
      | some best =>
        obtain ⟨i, r⟩ := best
        obtain ⟨-, due, next, -, -⟩ := firstDue_some first
        obtain ⟨eases, less⟩ := serveDue_eases seen next
        dsimp only
        by_cases playing : (((s.serveDue seen pl i).endJudgeStep pl).session pl).state = .playing
        · have load := eases.load_lt less
          rw [state_endJudgeStep playing]
          exact serveDues_fuel seen m n _ (by omega) (by omega)
        · rw [serveDues_of_rest playing, serveDues_of_rest playing]
    · rfl

end serving

end Sys2Proof.Machine

namespace Sys2Proof.Machine

/-! ### A value handed over (R87, R89) -/

section handing
variable {s : State} {pl : Player} {i : Nat} {due v : Int}

theorem nextDueOf_takeTime (e : Entry) : (s.takeTime pl v).nextDueOf pl e = s.nextDueOf pl e := by
  unfold State.nextDueOf
  cases pl <;> rfl

theorem entry_takeTime (k : Nat) : (s.takeTime pl v).entry pl k = s.entry pl k := by cases pl <;> rfl

theorem serving_takeTime (playing : (s.session pl).state = .playing) (running : s.clock.state = .running) :
    Serving (s.takeTime pl v) pl := ⟨playing, running, by cases pl <;> rfl⟩

theorem judged_takeTime : ((s.takeTime pl v).judge pl).judged = v := by cases pl <;> rfl

theorem takeTime_of_taken (judged : (s.judge pl).judged = v) (serving : (s.judge pl).serving = true) : s.takeTime pl v = s := by
  subst judged
  have same : { s.judge pl with judged := (s.judge pl).judged, serving := true } = s.judge pl := by rw [← serving]
  rw [State.takeTime, State.onJudge, same]
  cases pl <;> rfl

/-- R88, R89: the command that is a due time's row in the table. -/
def State.dueRow (s : State) (pl : Player) (i : Nat) : Instr :=
  let e := s.entry pl i
  match e.state with
  | .waiting => .lapseDue pl i
  | .scheduled => .beatDue pl i
  | .watching => if e.crossed then .avoidSettleDue pl i else .crossingDue pl i
  | .slipping => if e.slip.any (fun q => s.graceReachesEnd pl e q) then .settleDue pl i else .graceDue pl i
  | _ => .settleDue pl i

theorem dueRow_takeTime : (s.takeTime pl v).dueRow pl i = s.dueRow pl i := by
  have reaches (e : Entry) (q : Int) : (s.takeTime pl v).graceReachesEnd pl e q = s.graceReachesEnd pl e q := by cases pl <;> rfl
  simp only [State.dueRow, entry_takeTime, reaches]

/-- R87: the row of a reached due time serves it as a judge's step. -/
theorem exec_dueRow (op : s.run = .operating) (h : Serving s pl) (next : s.nextDueOf pl (s.entry pl i) = some due)
    (reached : due ≤ (s.judge pl).judged) :
    exec (s.dueRow pl i) s = .next ((s.serveDue s.pads pl i).endJudgeStep pl) := by
  have row {c : Instr} {is : Entry → Bool} (runs : exec c s = .next (s.whenOperating (fun s => s.dueEvent pl i is)))
      (kind : is (s.entry pl i) = true) : exec c s = .next ((s.serveDue s.pads pl i).endJudgeStep pl) := by
    rw [runs, whenOperating_of op, dueEvent_of h kind next reached]
  unfold State.dueRow
  dsimp only
  cases at' : (s.entry pl i).state with
  | waiting => exact row rfl (by rw [at']; rfl)
  | scheduled => exact row rfl (by rw [at']; rfl)
  | watching =>
    dsimp only; split
    · rename_i crossed; exact row rfl (by rw [at', crossed]; rfl)
    · rename_i fresh; exact row rfl (by rw [at', Bool.eq_false_iff.mpr fresh]; rfl)
  | held => exact row rfl (by rw [State.settlesHeld, at']; rfl)
  | slipping =>
    cases slip : (s.entry pl i).slip with
    | none => simp [State.nextDueOf, at', slip] at next
    | some q =>
      dsimp only
      rw [Option.any_some]
      split
      · rename_i reaches; exact row rfl (by rw [State.settlesHeld, at', slip, Option.any_some, reaches]; rfl)
      · rename_i short; exact row rfl (by rw [State.slipsToDrop, at', slip, Option.any_some, Bool.eq_false_iff.mpr short]; rfl)
  | free | reserved | judged | final => simp [State.nextDueOf, at'] at next

theorem handOver_of_none (seen : PerPad Pad)
    (none : ∀ i < (s.judge pl).pool.length, ∀ due, s.nextDueOf pl (s.entry pl i) = some due → v < due) :
    s.handOver seen pl v = (s.setJudge pl { s.judge pl with judged := v, serving := false }).clearingCheck pl := by
  have length : ((s.takeTime pl v).judge pl).pool.length = (s.judge pl).pool.length := by cases pl <;> rfl
  have idle : (s.takeTime pl v).firstDue pl v (List.range ((s.takeTime pl v).judge pl).pool.length) = .none :=
    firstDue_eq_none (fun i mem due next => by
      rw [entry_takeTime, nextDueOf_takeTime] at next
      exact none i (length ▸ List.mem_range.mp mem) due next)
  rw [State.handOver, serveDues_of_none seen idle]
  cases pl <;> rfl

/-- R87, R89: once the first reached due time is served, the rest of the hand-over is the hand-over of what it left. -/
theorem handOver_of_first (seen : PerPad Pad) (playing : (s.session pl).state = .playing) (running : s.clock.state = .running)
    {r : Int × Nat}
    (first : (s.takeTime pl v).firstDue pl v (List.range ((s.takeTime pl v).judge pl).pool.length) = some (i, r)) :
    s.handOver seen pl v = (((s.takeTime pl v).serveDue seen pl i).endJudgeStep pl).handOver seen pl v := by
  have ready := serving_takeTime (v := v) playing running
  have judged : ((s.takeTime pl v).judge pl).judged = v := judged_takeTime
  rw [State.handOver]
  generalize s.takeTime pl v = w at first ready judged
  obtain ⟨-, due, next, -, -⟩ := firstDue_some first
  obtain ⟨eases, less⟩ := serveDue_eases seen next
  have ended := eases.trans Eases.endJudgeStep
  have step : w.serveDues seen pl v (w.judge pl).dueFuel =
      ((w.serveDue seen pl i).endJudgeStep pl).serveDues seen pl v (2 * (w.judge pl).pool.length) := by
    rw [Judge.dueFuel, State.serveDues, if_pos ⟨ready.playing, ready.running⟩, first]
  have fuel : ((w.serveDue seen pl i).endJudgeStep pl).serveDues seen pl v (2 * (w.judge pl).pool.length) =
      ((w.serveDue seen pl i).endJudgeStep pl).serveDues seen pl v (((w.serveDue seen pl i).endJudgeStep pl).judge pl).dueFuel := by
    by_cases on : (((w.serveDue seen pl i).endJudgeStep pl).session pl).state = .playing
    · have all := load_lt_dueFuel (s := w) (pl := pl)
      have fewer := eases.load_lt less
      rw [Judge.dueFuel] at all
      rw [state_endJudgeStep on]
      exact serveDues_fuel seen _ _ _ (by omega) load_lt_dueFuel
    · rw [serveDues_of_rest on, serveDues_of_rest on]
  rw [State.handOver, takeTime_of_taken (ended.judged.trans judged) (ended.serving.trans ready.serving), step, fuel]

end handing
end Sys2Proof.Machine

namespace Sys2Proof.Machine

/-! ### A panel that is not pressed, in one round (R19, R24, R28) -/

/-- What is seen of a fold, told by the part of the list that is done. -/
theorem foldl_done {ι σ : Type} {f : σ → ι → σ} {Inv : List ι → σ → Prop} {s : σ} (start : Inv [] s)
    (step : ∀ done x t, x ∉ done → Inv done t → Inv (done ++ [x]) (f t x)) (l : List ι) (once : l.Nodup) :
    Inv l (l.foldl f s) := by
  induction l using List.reverseRecOn with
  | nil => exact start
  | append_singleton l x ih =>
    obtain ⟨before, -, apart⟩ := List.nodup_append.mp once
    rw [List.foldl_append]
    exact step l x _ (fun mem => apart x mem x (List.mem_singleton_self x) rfl) (ih before)

/-- R24: the round brings the panel DOWN. -/
def Panel.confirms (x : Panel) (f : Profile) (healthy load : Nat) : Prop :=
  healthy ≠ 0 ∧ f.tOn ≤ load ∧ (x.state = .up ∧ f.dOn = 0 ∨ x.state = .rising ∧ f.dOn ≤ x.confirm)

section round
variable {x : Panel} {f : Profile} {healthy load : Nat} {stamp : Int}

theorem roundUp_of_unpressed (alive : healthy ≠ 0) (up : x.state = .up ∨ x.state = .rising) :
    ((x.round f healthy load stamp).presses = true ↔ x.confirms f healthy load)
      ∧ ((x.round f healthy load stamp).panel.state = .down ↔ x.confirms f healthy load) := by
  by_cases low : load < f.tOn
  · have no : ¬ x.confirms f healthy load := fun h => absurd h.2.1 (Nat.not_le.mpr low)
    rw [round_of_unpressed alive up, roundUp_of_low low]
    simp [PanelRound.presses, no]
  · have high := Nat.not_lt.mp low
    rcases up with up | rising
    · have is : x.confirms f healthy load ↔ f.dOn + 1 ≤ 1 := by simp [Panel.confirms, alive, high, up]
      rw [round_of_up alive up high, is]
      split <;> simp [*, Panel.pressRound, Panel.confirmPress, PanelRound.presses]
    · have is : x.confirms f healthy load ↔ f.dOn + 1 ≤ x.confirm + 1 := by simp [Panel.confirms, alive, high, rising]
      rw [round_of_rising alive rising high, is]
      split <;> simp [*, Panel.pressRound, Panel.confirmPress, PanelRound.presses]

/-- R24, R27, R28: which rounds press, and that these and no others leave DOWN a panel that was not pressed. -/
theorem round_unpressed (up : x.state.pressed = false) :
    ((x.round f healthy load stamp).presses = true ↔ x.confirms f healthy load)
      ∧ ((x.round f healthy load stamp).panel.state = .down ↔ x.confirms f healthy load) := by
  by_cases off : x.state = .off
  · rw [round_of_off off]
    simp [PanelRound.presses, Panel.confirms, off]
  by_cases none : healthy = 0
  · rw [none, round_of_unhealthy off, up]
    simp [PanelRound.presses, Panel.confirms, Panel.die, up]
  by_cases dead : x.state = .dead
  · rw [round_of_dead none dead]
    simp [PanelRound.presses, Panel.confirms, Panel.revive, dead]
  · refine roundUp_of_unpressed none ?_
    revert up off dead
    cases x.state <;> simp [PanelState.pressed]

end round

/-- Holds decide nothing of whether a panel's round presses. -/
theorem roundOf_clearHolds_confirms {pad : Pad} {p : PanelId} {stamp : Int} (up : (pad.panels.get p).state.pressed = false) :
    ((pad.clearHolds.roundOf p stamp).presses = (pad.roundOf p stamp).presses)
      ∧ ((pad.roundOf p stamp).panel.state = .down ↔ (pad.roundOf p stamp).presses = true) := by
  have cleared : (pad.clearHolds.panel p).state.pressed = false := by
    rw [Pad.panel, Pad.clearHolds, Tab.get_mapIdx]; exact up
  refine ⟨?_, (round_unpressed up).2.trans (round_unpressed up).1.symm⟩
  rw [Bool.eq_iff_iff]
  refine (round_unpressed cleared).1.trans (Iff.trans ?_ (round_unpressed up).1.symm)
  rw [Pad.panel, Pad.clearHolds, Tab.get_mapIdx]
  rfl

theorem AtPanel.clearHolds {p : PanelId} {x y : Pad} (h : AtPanel p x y) : AtPanel p x.clearHolds y.clearHolds :=
  ⟨h.profile, by simp only [Pad.clearHolds, Tab.get_mapIdx, h.panel], h.sensor⟩

end Sys2Proof.Machine

namespace Sys2Proof.Machine

/-! ### One avoid note alone in a player's pool (R79, R104 to R106) -/

/-- What decides the failure of a player (R123 to R125). -/
def Score.vitals (c : Score) : Int × Bool × StageOutcome := (c.life, c.noFail, c.outcome)

theorem outcome_struck_of_vitals {c d : Score} (h : c.vitals = d.vitals) (delta : Int) :
    (c.apply (.struck delta)).outcome = (d.apply (.struck delta)).outcome := by
  obtain ⟨life, rest⟩ := Prod.mk.inj h
  obtain ⟨noFail, outcome⟩ := Prod.mk.inj rest
  simp only [Score.apply, Score.addLife, Score.checkLife, life, noFail, outcome]
  split_ifs <;> simp_all [Score.setFlag]

/-- The player `pl` of `s` is PLAYING, and its avoid note `i` watches a lane whose panel is `(pad, p)`; a strike does not fail
the player. -/
structure Watched (s : State) (pl : Player) (i l : Nat) (pad : PadId) (p : PanelId) : Prop where
  playing : (s.session pl).state = .playing
  target : s.laneTargetOf pl l = some (pad, p)
  watching : (s.entry pl i).state = .watching
  fresh : (s.entry pl i).crossed = false
  lane : (s.entry pl i).record.lane = l
  standing : (s.scoreUnit pl).outcome ≠ .failed
  bears : ((s.scoreUnit pl).apply (.struck (s.params pl).struckDelta)).outcome ≠ .failed

/-- The entry has been struck and is FINAL. -/
def Entry.isStruck (e : Entry) : Prop := e.own = .struck ∧ e.state = .final

/-- In `t` the note is still watched as in `s`, or it has been struck; no other entry can settle, and nobody else plays. -/
structure Lone (s : State) (pl : Player) (i l : Nat) (t : State) : Prop where
  running : t.clock.state = .running
  session : t.session pl = s.session pl
  other : (t.session pl.other).state = .idle
  profile : ∀ k, (t.pad k).profile = (s.pad k).profile
  params : t.params pl = s.params pl
  rest : ∀ k, k ≠ i → (t.entry pl k).state ∈ [.free, .reserved, .final]
  lanes : ∀ k, k ≠ l → i ∉ (t.judge pl).lane k
  record : (t.entry pl i).record = (s.entry pl i).record
  life : (t.entry pl i).state = .watching ∧ (t.scoreUnit pl).vitals = (s.scoreUnit pl).vitals
    ∨ (t.entry pl i).isStruck ∧ (t.scoreUnit pl).outcome ≠ .failed

section lone
variable {s t u : State} {pl : Player} {i l : Nat} {pad : PadId} {p : PanelId}

/-- What is told of the judge's times and of counts that fail nobody decides nothing. -/
theorem Lone.of_same (h : Lone s pl i l t) (clock : u.clock.state = t.clock.state) (sessions : ∀ k, u.session k = t.session k)
    (profile : ∀ k, (u.pad k).profile = (t.pad k).profile) (params : u.params pl = t.params pl)
    (entries : ∀ k, u.entry pl k = t.entry pl k) (lanes : ∀ k, (u.judge pl).lane k = (t.judge pl).lane k)
    (vitals : (u.scoreUnit pl).vitals = (t.scoreUnit pl).vitals) : Lone s pl i l u where
  running := clock.trans h.running
  session := (sessions pl).trans h.session
  other := by rw [sessions]; exact h.other
  profile k := (profile k).trans (h.profile k)
  params := params.trans h.params
  rest k other := by rw [entries]; exact h.rest k other
  lanes k other := by rw [lanes]; exact h.lanes k other
  record := by rw [entries]; exact h.record
  life := by
    rw [entries, vitals, show (u.scoreUnit pl).outcome = (t.scoreUnit pl).outcome from congrArg (·.2.2) vitals]
    exact h.life

/-- A change of counts alone. -/
theorem Lone.of_counts (h : Lone s pl i l t) {but : List Part} (keeps : Keeps but t u) (clock : Part.clock ∉ but)
    (sessions : ∀ k, Part.session k ∉ but) (pads : ∀ k, Part.pad k ∉ but) (judge : Part.judge pl ∉ but)
    (vitals : (u.scoreUnit pl).vitals = (t.scoreUnit pl).vitals) : Lone s pl i l u := by
  have same : u.judge pl = t.judge pl := keeps.2 _ judge
  exact h.of_same (congrArg Clock.state (keeps.2 _ clock)) (fun k => keeps.2 _ (sessions k))
    (fun k => congrArg Pad.profile (keeps.2 _ (pads k)))
    (congrArg Judge.params same) (fun k => congrArg (Judge.entry · k) same) (fun k => congrArg (Judge.lane · k) same) vitals

theorem Lone.used (h : Lone s pl i l t) : (t.entry pl i).state ≠ .free := by
  rcases h.life with ⟨watching, -⟩ | ⟨⟨-, final⟩, -⟩
  · rw [watching]; decide
  · rw [final]; decide

theorem Lone.state (h : Lone s pl i l t) (k : Nat) : (t.entry pl k).state ∈ [.free, .reserved, .watching, .final] := by
  by_cases same : k = i
  · rcases h.life with ⟨watching, -⟩ | ⟨⟨-, final⟩, -⟩
    · rw [same, watching]; decide
    · rw [same, final]; decide
  · have rest := h.rest k same
    simp only [List.mem_cons, List.not_mem_nil, or_false] at rest ⊢
    tauto

theorem Lone.strike (h : Lone s pl i l t) (w : Watched s pl i l pad p) (watching : (t.entry pl i).state = .watching) (d : Int) :
    Lone s pl i l (t.strikeEntry pl i d) ∧ ((t.strikeEntry pl i d).entry pl i).isStruck := by
  obtain ⟨done, score, -, keeps⟩ := strikeEntry_effect (lt_of_entry_ne_free h.used) d
  have params := params_strikeEntry (s := t) (pl := pl) (i := i) d
  generalize t.strikeEntry pl i d = u at done score keeps params
  have vitals : (t.scoreUnit pl).vitals = (s.scoreUnit pl).vitals := by
    rcases h.life with ⟨-, vitals⟩ | ⟨⟨-, final⟩, -⟩
    · exact vitals
    · rw [watching] at final; cases final
  have struck : (u.entry pl i).isStruck := by rw [done.entry]; exact ⟨rfl, rfl⟩
  refine ⟨?_, struck⟩
  exact {
    running := by rw [show u.clock = t.clock from keeps.2 .clock (by simp)]; exact h.running
    session := (keeps.2 (.session pl) (by simp)).trans h.session
    other := by rw [show u.session pl.other = t.session pl.other from keeps.2 (.session _) (by simp)]; exact h.other
    profile := fun k => (congrArg Pad.profile (keeps.2 (.pad k) (by simp))).trans (h.profile k)
    params := params.trans h.params
    rest := fun k other => by rw [done.others k other]; exact h.rest k other
    lanes := fun k other => by
      rw [done.lanes, h.record, w.lane, if_neg other]
      exact h.lanes k other
    record := by rw [done.entry]; exact h.record
    life := .inr ⟨struck, by rw [score, h.params, outcome_struck_of_vitals vitals]; exact w.bears⟩ }

end lone
end Sys2Proof.Machine

namespace Sys2Proof.Machine

section lone
variable {s t u : State} {pl : Player} {i l : Nat} {pad : PadId} {p : PanelId}

theorem eq_or_eq_other (pl q : Player) : q = pl ∨ q = pl.other := by cases pl <;> cases q <;> decide

theorem Lone.standing (h : Lone s pl i l t) (w : Watched s pl i l pad p) : (t.scoreUnit pl).outcome ≠ .failed := by
  rcases h.life with ⟨-, vitals⟩ | ⟨-, standing⟩
  · exact ne_of_eq_of_ne (congrArg (·.2.2) vitals) w.standing
  · exact standing

theorem Lone.playing (h : Lone s pl i l t) (w : Watched s pl i l pad p) : (t.session pl).state = .playing := by
  rw [h.session]; exact w.playing

/-- R79, R105: a press strikes the note when it is on the note's panel and within the avoid window, else it changes no entry. -/
theorem Lone.judgePress (h : Lone s pl i l t) (w : Watched s pl i l pad p) (q : Player) (at' : PadId) (p' : PanelId) (stamp : Int) :
    Lone s pl i l (t.judgePress q at' p' stamp) ∧ ((t.judgePress q at' p' stamp).entry pl i = t.entry pl i
      ∨ (at', p') = (pad, p) ∧ ((t.judgePress q at' p' stamp).entry pl i).isStruck) := by
  rcases eq_or_eq_other pl q with rfl | rfl
  · cases lane : t.laneOf q at' p' with
    | none => rw [judgePress_ignored (.inl lane)]; exact ⟨h, .inl rfl⟩
    | some m =>
      have steady : ∀ k ∈ (t.judge q).lane m, (t.entry q k).state ≠ .slipping := fun k _ at' => by
        have := h.state k; simp [at'] at this
      have unmatched : ∀ k ∈ (t.judge q).lane m, ¬ t.gradesAt q stamp k := fun k _ grades => by
        have := h.state k; simp [(gradesAt_iff.mp grades).1] at this
      have only : ∀ k, k ≠ i → ¬ t.strikesAt q stamp k := fun k other strikes => by
        have := h.rest k other; simp [strikes.1] at this
      have counts (v : State) (g : Lone s q i l v) : Lone s q i l (v.onScore q Score.freeStep) :=
        g.of_counts ((Keeps.refl (but := [.score q]) v).onScore Score.freeStep) (by simp) (by simp) (by simp) (by simp)
          (by rw [scoreUnit_freeStep]; rfl)
      by_cases hit : i ∈ (t.judge q).lane m ∧ t.strikesAt q stamp i
      · obtain ⟨mem, strikes⟩ := hit
        have same : m = l := by_contra fun ne => h.lanes m ne mem
        obtain ⟨struck, entry⟩ := h.strike w strikes.1 (stamp - (t.judge q).effective (t.entry q i))
        have lone := counts _ struck
        have used := matchOrFree_of_strikes (lt_of_entry_ne_free h.used) mem strikes (fun k _ => only k) unmatched
        rw [judgePress_used lane (h.playing w) h.running steady used (lone.standing w)]
        refine ⟨lone, .inr ⟨?_, ?_⟩⟩
        · have target := laneTargetOf_of_laneOf lane
          rw [State.laneTargetOf, h.session, same] at target
          exact Option.some.inj (target.symm.trans w.target)
        · exact entry
      · have misses : ∀ k ∈ (t.judge q).lane m, ¬ t.strikesAt q stamp k := fun k mem strikes => by
          by_cases same : k = i
          · exact hit ⟨same ▸ mem, same ▸ strikes⟩
          · exact only k same strikes
        have lone := counts _ h
        rw [judgePress_used lane (h.playing w) h.running steady (matchOrFree_of_misses misses unmatched) (lone.standing w)]
        exact ⟨lone, .inl rfl⟩
  · rw [judgePress_ignored (.inr (.inl (by rw [h.other]; decide)))]
    exact ⟨h, .inl rfl⟩

theorem vitals_flagOwner (f : BitVec 16) (at' : PadId) (q : Player) :
    ((t.flagOwner at' f).scoreUnit q).vitals = (t.scoreUnit q).vitals := by
  unfold State.flagOwner; split
  · rfl
  · rename_i r _
    cases q <;> cases r <;> rfl

theorem Lone.flagOwner (h : Lone s pl i l t) (f : BitVec 16) (at' : PadId) : Lone s pl i l (t.flagOwner at' f) := by
  have keeps := (Keeps.refl (but := [.score .p0, .score .p1]) t).flagOwner at' f (by simp)
  exact h.of_counts keeps (by simp) (by simp) (by simp) (by simp) (vitals_flagOwner f at' pl)

/-- R26: an event of a panel changes no entry but by a press on the note's panel, which may strike the note. -/
theorem Lone.emitAll (h : Lone s pl i l t) (w : Watched s pl i l pad p) (at' : PadId) (p' : PanelId) (e : Option PadEvent) :
    Lone s pl i l (t.emitAll at' p' e) ∧ ((t.emitAll at' p' e).entry pl i = t.entry pl i
      ∨ ((at', p') = (pad, p) ∧ ∃ stamp, e = some (.press stamp)) ∧ ((t.emitAll at' p' e).entry pl i).isStruck) := by
  cases e with
  | none => exact ⟨h, .inl rfl⟩
  | some e =>
    cases e with
    | press stamp =>
      cases owned : t.owner at' with
      | none => rw [State.emitAll, emit_press_of_unowned owned]; exact ⟨h, .inl rfl⟩
      | some q =>
        have is : t.emitAll at' p' (some (.press stamp)) = t.judgePress q at' p' stamp := by
          rw [State.emitAll, State.emit, owned]
        rw [is]
        obtain ⟨lone, same | ⟨here, struck⟩⟩ := h.judgePress w q at' p' stamp
        exacts [⟨lone, .inl same⟩, ⟨lone, .inr ⟨⟨here, stamp, rfl⟩, struck⟩⟩]
    | release stamp forced =>
      have free : NoHold t at' p' := fun q m _ _ => by
        rcases eq_or_eq_other pl q with rfl | rfl
        · refine .inr (.inr (List.find?_eq_none.mpr fun k _ held => ?_))
          have := h.state k
          rw [show (t.entry q k).state = .held from of_decide_eq_true held] at this
          simp at this
        · exact .inl (by rw [h.other]; decide)
      rw [State.emitAll, emit_release_of_noHold free]
      split
      · exact ⟨h.flagOwner _ _, .inl (by rw [flagOwner_eq]; rfl)⟩
      · exact ⟨h, .inl rfl⟩

end lone
end Sys2Proof.Machine

namespace Sys2Proof.Machine

/-! ### A value handed over to the judge of one avoid note (R87, R104, R106) -/

section lone
variable {s t : State} {pl : Player} {i l : Nat} {pad : PadId} {p : PanelId} {v : Int}

/-- A change of a judge's times alone. -/
theorem Lone.setTimes (h : Lone s pl i l t) (q : Player) (serving : Bool) :
    Lone s pl i l (t.setJudge q { t.judge q with judged := v, serving }) := by
  refine h.of_same rfl (fun _ => rfl) (fun _ => rfl) ?_ (fun k => ?_) (fun k => ?_) rfl
  all_goals cases pl <;> cases q <;> rfl

theorem entry_setTimes (q : Player) (serving : Bool) (k : Nat) :
    (t.setJudge q { t.judge q with judged := v, serving }).entry pl k = t.entry pl k := by
  cases pl <;> cases q <;> rfl

theorem Lone.nextDueOf_rest (h : Lone s pl i l t) {k : Nat} (other : k ≠ i) : t.nextDueOf pl (t.entry pl k) = none := by
  have rest := h.rest k other
  simp only [List.mem_cons, List.not_mem_nil, or_false] at rest
  rcases rest with at' | at' | at' <;> rw [State.nextDueOf, at']

/-- R87: a hand-over that reaches no due time of the note. -/
theorem Lone.handOver_early (h : Lone s pl i l t) (seen : PerPad Pad)
    (early : ∀ due, t.nextDueOf pl (t.entry pl i) = some due → v < due) :
    Lone s pl i l (t.handOver seen pl v) ∧ (t.handOver seen pl v).entry pl i = t.entry pl i := by
  have is := handOver_of_none (s := t) (v := v) seen (fun k _ due next => by
    by_cases same : k = i
    · exact early due (same ▸ next)
    · rw [h.nextDueOf_rest same] at next; cases next)
  have used : ((t.setJudge pl { t.judge pl with judged := v, serving := false }).entry pl i).state ≠ .free := by
    rw [entry_setTimes]; exact h.used
  rw [is, clearingCheck_of_inUse used]
  exact ⟨h.setTimes pl false, entry_setTimes pl false i⟩

theorem Lone.handOver_struck (h : Lone s pl i l t) (struck : (t.entry pl i).isStruck) (seen : PerPad Pad) :
    Lone s pl i l (t.handOver seen pl v) ∧ (t.handOver seen pl v).entry pl i = t.entry pl i :=
  h.handOver_early seen (fun due next => by rw [State.nextDueOf, struck.2] at next; cases next)

theorem Lone.handOver_other (h : Lone s pl i l t) (seen : PerPad Pad) :
    Lone s pl i l (t.handOver seen pl.other v) ∧ (t.handOver seen pl.other v).entry pl i = t.entry pl i := by
  rw [handOver_of_rest (by rw [h.other]; decide)]
  exact ⟨h.setTimes pl.other false, entry_setTimes pl.other false i⟩

theorem Lone.laneTargetOf (h : Lone s pl i l t) (m : Nat) : t.laneTargetOf pl m = s.laneTargetOf pl m := by
  rw [State.laneTargetOf, h.session]; rfl

theorem Lone.effectiveDue (h : Lone s pl i l t) : t.effectiveDue pl (t.entry pl i) = s.effectiveDue pl (s.entry pl i) := by
  show capTime ((t.entry pl i).record.time + (t.params pl).offset) = _
  rw [h.record, h.params]; rfl

theorem Lone.avoidSettleDue (h : Lone s pl i l t) : t.avoidSettleDue pl (t.entry pl i) = s.avoidSettleDue pl (s.entry pl i) := by
  have dOn : t.laneDOn pl (s.entry pl i).record.lane = s.laneDOn pl (s.entry pl i).record.lane := by
    unfold State.laneDOn
    rw [h.laneTargetOf]
    split
    exacts [rfl, congrArg Profile.dOn (h.profile _)]
  rw [State.avoidSettleDue, State.avoidSettleDue, h.params, h.record, dOn]

/-- R87, R104: a hand-over that reaches the crossing of the note that is watched serves it first. -/
theorem Lone.handOver_crossing (h : Lone s pl i l t) (w : Watched s pl i l pad p) (seen : PerPad Pad)
    (same : t.entry pl i = s.entry pl i) (reached : s.effectiveDue pl (s.entry pl i) ≤ v) :
    (((seen.get pad).panels.get p).state.pressed = true →
        Lone s pl i l (t.handOver seen pl v) ∧ ((t.handOver seen pl v).entry pl i).isStruck)
      ∧ (((seen.get pad).panels.get p).state.pressed = false → v < s.avoidSettleDue pl (s.entry pl i) →
        Lone s pl i l (t.handOver seen pl v) ∧ (t.handOver seen pl v).entry pl i = { s.entry pl i with crossed := true }) := by
  have ready : Lone s pl i l (t.takeTime pl v) := h.setTimes pl true
  have entry : (t.takeTime pl v).entry pl i = s.entry pl i := (entry_takeTime i).trans same
  have low : i < ((t.takeTime pl v).judge pl).pool.length := lt_of_entry_ne_free ready.used
  have watching : ((t.takeTime pl v).entry pl i).state = .watching := by rw [entry]; exact w.watching
  have next : (t.takeTime pl v).nextDueOf pl ((t.takeTime pl v).entry pl i) = some (s.effectiveDue pl (s.entry pl i)) := by
    rw [nextDueOf_of_watching watching, entry, w.fresh, ← ready.effectiveDue, entry]; rfl
  have first := firstDue_of_least (List.mem_range.mpr low) next reached (fun k other ne _ due => by
    rw [ready.nextDueOf_rest ne] at due; cases due)
  have panel : (t.takeTime pl v).lanePanelIn seen pl ((t.takeTime pl v).entry pl i).record.lane = ((seen.get pad).panels.get p).state := by
    rw [State.lanePanelIn, entry, ready.laneTargetOf, w.lane, w.target]
  have served := serveDue_of_watching seen watching
  rw [show ((t.takeTime pl v).entry pl i).crossed = false by rw [entry]; exact w.fresh, if_neg (by decide), panel] at served
  rw [handOver_of_first seen (h.playing w) h.running first, served]
  generalize t.takeTime pl v = r at ready entry watching low
  refine ⟨fun pressed => ?_, fun up late => ?_⟩
  · obtain ⟨lone, struck⟩ := ready.strike w watching 0
    rw [if_pos pressed, endJudgeStep_of_standing (lone.standing w)]
    obtain ⟨after, stays⟩ := lone.handOver_struck (v := v) struck seen
    exact ⟨after, by rw [stays]; exact struck⟩
  · have crossed : (r.onEntry pl i (fun e => { e with crossed := true })).entry pl i = { s.entry pl i with crossed := true } := by
      rw [entry_onEntry_same _ low, entry]
    have lone : Lone s pl i l (r.onEntry pl i (fun e => { e with crossed := true })) := {
      running := ready.running
      session := ready.session
      other := ready.other
      profile := ready.profile
      params := (params_onEntry _).trans ready.params
      rest := fun k other => by rw [entry_onEntry_ne _ other]; exact ready.rest k other
      lanes := fun k other => by rw [judge_onEntry]; exact ready.lanes k other
      record := by rw [crossed]
      life := by
        rcases ready.life with ⟨-, vitals⟩ | ⟨⟨-, final⟩, -⟩
        · exact .inl ⟨by rw [crossed]; exact w.watching, vitals⟩
        · rw [watching] at final; cases final }
    rw [up, if_neg (by decide), endJudgeStep_of_standing (lone.standing w)]
    obtain ⟨after, stays⟩ := lone.handOver_early (v := v) seen (fun due next => by
      have is := Option.some.inj ((nextDueOf_of_watching (by rw [crossed]; exact w.watching)).symm.trans next)
      rw [if_pos (by rw [crossed]), lone.avoidSettleDue] at is
      exact is ▸ late)
    exact ⟨after, stays.trans crossed⟩

end lone
end Sys2Proof.Machine

namespace Sys2Proof.Machine

/-! ### The note's panel through the parts of a round (R19, R24, R31) -/

section tracked
variable {now y : Pad} {pad : PadId} {p : PanelId} {v : Int} (pre seen : PerPad Pad) (handed : Bool)

theorem panelState_of_clearHolds {x y : Pad} (h : x.clearHolds.panels.get p = y.clearHolds.panels.get p) :
    (x.panels.get p).state = (y.panels.get p).state := by
  have cleared (z : Pad) : (z.clearHolds.panels.get p).state = (z.panels.get p).state := by rw [Pad.clearHolds, Tab.get_mapIdx]
  rw [← cleared, h, cleared]

/-- What judges do to the holds of a panel that is not pressed decides nothing of its round. -/
theorem roundOf_of_holds (up : (now.panels.get p).state.pressed = false) (h : AtPanel p now.clearHolds y.clearHolds) :
    (y.roundOf p v).presses = (now.roundOf p v).presses
      ∧ ((y.roundOf p v).panel.state = .down ↔ (now.roundOf p v).presses = true) := by
  have mine := roundOf_clearHolds_confirms (stamp := v)
    (show (y.panels.get p).state.pressed = false by rw [panelState_of_clearHolds h.panel]; exact up)
  have same : (y.roundOf p v).presses = (now.roundOf p v).presses := by
    rw [← mine.1, h.roundOf, (roundOf_clearHolds_confirms up).1]
  exact ⟨same, by rw [← same]; exact mine.2⟩

/-- What is known of the panel while the parts `done` of the round are over. -/
def Tracked (now : Pad) (pad : PadId) (p : PanelId) (v : Int) (done : List RoundItem) (t : State) : Prop :=
  if .panel pad p ∈ done then (((t.pad pad).panels.get p).state = .down ↔ (now.roundOf p v).presses = true)
  else AtPanel p now.clearHolds (t.pad pad).clearHolds

theorem Tracked.roundItem {done : List RoundItem} {x : RoundItem} {t : State} (h : Tracked now pad p v done t)
    (up : (now.panels.get p).state.pressed = false) (active : (pre.get pad).state = .active)
    (within : p.val < now.profile.panelCount) (fresh : x ∉ done) :
    Tracked now pad p v (done ++ [x]) (t.roundItem pre seen v handed x) := by
  have stays {u : State} (other : x ≠ .panel pad p) (same : AtPanel p (t.pad pad).clearHolds (u.pad pad).clearHolds) :
      Tracked now pad p v (done ++ [x]) u := by
    have mem : RoundItem.panel pad p ∈ done ++ [x] ↔ .panel pad p ∈ done := by simp [Ne.symm other]
    unfold Tracked at h ⊢
    simp only [mem]
    split
    · rename_i passed
      rw [if_pos passed] at h
      rw [panelState_of_clearHolds same.panel]
      exact h
    · rename_i ahead
      rw [if_neg ahead] at h
      exact h.trans same
  by_cases mine : x = .panel pad p
  · subst mine
    rw [Tracked, if_neg fresh] at h
    have still : p.val < (t.pad pad).profile.panelCount := by
      rw [show (t.pad pad).profile = now.profile from h.profile]; exact within
    have step : (t.roundItem pre seen v handed (.panel pad p)).unjudged = (t.setPad pad ((t.pad pad).rounded p v)).unjudged := by
      rw [State.roundItem, if_pos active, roundPanel_eq, if_pos still]
      exact unjudged_emitAll ..
    rw [Tracked, if_pos (by simp), panelState_of_clearHolds (congrArg (fun z : Pad => z.panels.get p) (clearHolds_of_unjudged step pad)),
      State.pad_setPad_same, Pad.rounded, if_pos still, panels_afterPanel, if_pos rfl]
    exact (roundOf_of_holds up h).2
  · rcases roundItem_cases pre seen v handed t x with same | ⟨j, q, is, -, step⟩
    · exact stays mine (clearHolds_of_unjudged same pad ▸ .refl _)
    · refine stays mine ?_
      rw [clearHolds_of_unjudged step pad, State.pad_setPad]
      split
      · rename_i here
        subst here
        exact (AtPanel.of_other (by rintro rfl; exact mine is) _ v).clearHolds
      · exact .refl _

end tracked
end Sys2Proof.Machine

namespace Sys2Proof.Machine

/-! ### The parts of a round, one avoid note being alone (R19, R87, R104) -/

section roundItems
variable {s t : State} {pl : Player} {i l : Nat} {pad : PadId} {p : PanelId} {v : Int} (pre seen : PerPad Pad) (handed : Bool)

theorem profile_rounded (x : Pad) (q : PanelId) : (x.rounded q v).profile = x.profile := by
  unfold Pad.rounded; split
  · rw [afterPanel_eq]; rfl
  · rfl

theorem Lone.setPad (h : Lone s pl i l t) (k : PadId) (x : Pad) (profile : x.profile = (t.pad k).profile) :
    Lone s pl i l (t.setPad k x) := by
  refine h.of_same rfl (fun _ => rfl) (fun j => ?_) rfl (fun _ => rfl) (fun _ => rfl) rfl
  rw [State.pad_setPad]
  split
  · rename_i same; rw [same]; exact profile
  · rfl

/-- R19: the round of a panel strikes the note when it confirms a press on the note's panel, else it changes no entry. -/
theorem Lone.panel (h : Lone s pl i l t) (w : Watched s pl i l pad p) (k : PadId) (q : PanelId) :
    Lone s pl i l (t.roundItem pre seen v handed (.panel k q))
      ∧ ((t.roundItem pre seen v handed (.panel k q)).entry pl i = t.entry pl i
        ∨ ((k, q) = (pad, p) ∧ ((t.pad k).roundOf q v).presses = true)
          ∧ ((t.roundItem pre seen v handed (.panel k q)).entry pl i).isStruck) := by
  by_cases active : (pre.get k).state = .active
  · rw [State.roundItem, if_pos active, roundPanel_eq]
    split
    · obtain ⟨lone, same | ⟨⟨here, stamp, press⟩, struck⟩⟩ := (h.setPad k _ (profile_rounded ..)).emitAll w k q
        ((t.pad k).roundOf q v).event
      · exact ⟨lone, .inl same⟩
      · exact ⟨lone, .inr ⟨⟨here, by rw [PanelRound.presses, press]⟩, struck⟩⟩
    · exact ⟨h, .inl rfl⟩
  · rw [State.roundItem, if_neg active]; exact ⟨h, .inl rfl⟩

theorem Lone.countdown (h : Lone s pl i l t) : Lone s pl i l (t.roundItem pre seen v handed .countdown)
    ∧ (t.roundItem pre seen v handed .countdown).entry pl i = t.entry pl i := by
  rw [State.roundItem]
  generalize t.lamps.countDownAll = x
  exact ⟨h.of_counts ((Keeps.refl (but := [.lamps]) t).setLamps x) (by simp) (by simp) (by simp) (by simp) rfl, rfl⟩

/-- R104, log entry 33: the note's panel is seen pressed. -/
theorem Lone.strikes (h : Lone s pl i l t) (w : Watched s pl i l pad p) (reached : s.effectiveDue pl (s.entry pl i) ≤ v)
    (same : t.entry pl i = s.entry pl i) (pressed : ((seen.get pad).panels.get p).state.pressed = true) (order : List RoundItem) :
    Lone s pl i l (t.roundItems pre seen v true (inOrder order allItems))
      ∧ ((t.roundItems pre seen v true (inOrder order allItems)).entry pl i).isStruck := by
  have all := foldl_done (f := fun u x => State.roundItem u pre seen v true x) (s := t)
    (Inv := fun done u => Lone s pl i l u ∧ ((u.entry pl i).isStruck ∨ u.entry pl i = s.entry pl i ∧ .handOver pl ∉ done))
    ⟨h, .inr ⟨same, by simp⟩⟩ (fun done x u fresh ⟨lone, now⟩ => ?_) (inOrder order allItems) (nodup_inOrder ..)
  · exact ⟨all.1, all.2.resolve_right fun no => no.2 (mem_inOrder (by cases pl <;> decide))⟩
  · have keep {u' : State} (other : x ≠ .handOver pl) (kept : Lone s pl i l u' ∧ u'.entry pl i = u.entry pl i) :
        Lone s pl i l u' ∧ ((u'.entry pl i).isStruck ∨ u'.entry pl i = s.entry pl i ∧ .handOver pl ∉ done ++ [x]) := by
      refine ⟨kept.1, ?_⟩
      rw [kept.2]
      exact now.imp_right fun ⟨still, ahead⟩ => ⟨still, by simp [ahead, Ne.symm other]⟩
    cases x with
    | handOver q =>
      rw [State.roundItem, if_pos rfl]
      rcases eq_or_eq_other pl q with rfl | rfl
      · rcases now with struck | ⟨still, -⟩
        · obtain ⟨lone, kept⟩ := lone.handOver_struck (v := v) struck seen
          exact ⟨lone, .inl (by rw [kept]; exact struck)⟩
        · obtain ⟨lone, struck⟩ := (lone.handOver_crossing w seen still reached).1 pressed
          exact ⟨lone, .inl struck⟩
      · exact keep (by cases pl <;> decide) (lone.handOver_other seen)
    | panel k q =>
      obtain ⟨lone, kept | ⟨-, struck⟩⟩ := lone.panel pre seen true w k q
      · exact keep (by simp) ⟨lone, kept⟩
      · exact ⟨lone, .inl struck⟩
    | countdown => exact keep (by simp) (lone.countdown pre seen true)

/-- R104, R107: the note's panel is not seen pressed, and no round of it presses. -/
theorem Lone.crosses (h : Lone s pl i l t) (w : Watched s pl i l pad p) (reached : s.effectiveDue pl (s.entry pl i) ≤ v)
    (late : v < s.avoidSettleDue pl (s.entry pl i)) (same : t.entry pl i = s.entry pl i)
    (unseen : ((seen.get pad).panels.get p).state.pressed = false) (up : ((t.pad pad).panels.get p).state.pressed = false)
    (active : (pre.get pad).state = .active) (within : p.val < (t.pad pad).profile.panelCount)
    (silent : ¬ ((t.pad pad).roundOf p v).presses = true) (order : List RoundItem) :
    Lone s pl i l (t.roundItems pre seen v true (inOrder order allItems))
      ∧ (t.roundItems pre seen v true (inOrder order allItems)).entry pl i = { s.entry pl i with crossed := true } := by
  have all := foldl_done (f := fun u x => State.roundItem u pre seen v true x) (s := t)
    (Inv := fun done u => Lone s pl i l u ∧ Tracked (t.pad pad) pad p v done u
      ∧ u.entry pl i = if .handOver pl ∈ done then { s.entry pl i with crossed := true } else s.entry pl i)
    ⟨h, .refl _, same⟩ (fun done x u fresh ⟨lone, tracked, now⟩ => ?_) (inOrder order allItems) (nodup_inOrder ..)
  · exact ⟨all.1, all.2.2.trans (if_pos (mem_inOrder (by cases pl <;> decide)))⟩
  · have next := tracked.roundItem pre seen true up active within fresh
    have keep {u' : State} (other : x ≠ .handOver pl) (kept : Lone s pl i l u' ∧ u'.entry pl i = u.entry pl i) :
        Lone s pl i l u' ∧ u'.entry pl i =
          if .handOver pl ∈ done ++ [x] then { s.entry pl i with crossed := true } else s.entry pl i := by
      refine ⟨kept.1, ?_⟩
      rw [kept.2, now]
      simp [Ne.symm other]
    suffices Lone s pl i l (u.roundItem pre seen v true x) ∧ (u.roundItem pre seen v true x).entry pl i =
        if .handOver pl ∈ done ++ [x] then { s.entry pl i with crossed := true } else s.entry pl i from ⟨this.1, next, this.2⟩
    cases x with
    | handOver q =>
      rw [State.roundItem, if_pos rfl]
      rcases eq_or_eq_other pl q with rfl | rfl
      · rw [if_neg fresh] at now
        rw [if_pos (by simp)]
        exact (lone.handOver_crossing w seen now reached).2 unseen late
      · exact keep (by cases pl <;> decide) (lone.handOver_other seen)
    | panel k q =>
      obtain ⟨lone, kept | ⟨⟨here, press⟩, -⟩⟩ := lone.panel pre seen true w k q
      · exact keep (by simp) ⟨lone, kept⟩
      · obtain ⟨rfl, rfl⟩ := Prod.mk.inj here
        rw [Tracked, if_neg fresh] at tracked
        exact absurd ((roundOf_of_holds up tracked).1.symm.trans press) silent
    | countdown => exact keep (by simp) (lone.countdown pre seen true)

/-- R24: the panel is DOWN after the round when the round pressed it, and not else. -/
theorem roundItems_panel (up : ((t.pad pad).panels.get p).state.pressed = false) (active : (pre.get pad).state = .active)
    (within : p.val < (t.pad pad).profile.panelCount) (order : List RoundItem) :
    (((t.roundItems pre seen v handed (inOrder order allItems)).pad pad).panels.get p).state = .down
      ↔ ((t.pad pad).roundOf p v).presses = true := by
  have all := foldl_done (f := fun u x => State.roundItem u pre seen v handed x) (s := t)
    (Inv := Tracked (t.pad pad) pad p v) (.refl _)
    (fun done x u fresh tracked => tracked.roundItem pre seen handed up active within fresh) (inOrder order allItems) (nodup_inOrder ..)
  rw [Tracked, if_pos (mem_inOrder (mem_allItems_panel pad p))] at all
  exact all

end roundItems
end Sys2Proof.Machine

namespace Sys2Proof.Machine

/-! ### A strobe up to its hand-over (R1, R3, R7, R18 to R21, R35) -/

/-- What the readings of a round leave: the profiles of the pads, and of the scores what decides a failure. -/
structure Sensed (s t : State) : Prop where
  keeps : Keeps [.pad .pad0, .pad .pad1, .score .p0, .score .p1, .notice, .fault, .work, .slot .slot0] s t
  profile : ∀ k, (t.pad k).profile = (s.pad k).profile
  vitals : ∀ q, (t.scoreUnit q).vitals = (s.scoreUnit q).vitals

theorem mem_padParts (k : PadId) (but : List Part) : Part.pad k ∈ .pad .pad0 :: .pad .pad1 :: but := by cases k <;> simp

section sensed
variable {s t u : State}

theorem Sensed.refl (s : State) : Sensed s s := ⟨.refl s, fun _ => rfl, fun _ => rfl⟩

theorem Sensed.trans (h : Sensed s t) (k : Sensed t u) : Sensed s u :=
  ⟨h.keeps.trans k.keeps, fun j => (k.profile j).trans (h.profile j), fun q => (k.vitals q).trans (h.vitals q)⟩

theorem sensed_healthStep (s : State) (n : SensorName) : Sensed s (s.healthStep n) := by
  have count : Keeps [.pad .pad0, .pad .pad1, .score .p0, .score .p1, .notice, .fault, .work, .slot .slot0] s
      (s.onSensor n Sensor.countRun) := (Keeps.refl s).setPad _ (mem_padParts ..)
  have profile (k : PadId) : ((s.healthStep n).pad k).profile = (s.pad k).profile := by
    rw [pad_healthStep]
    split
    · rename_i same; rw [checkSensor_eq, same]
    · rfl
  by_cases tracked : (s.pad n.pad).tracked n.panel n.sensor = true
  · refine ⟨?_, profile, fun q => ?_⟩
    all_goals rw [healthStep_of_tracked s n tracked, failSensor_eq, recoverSensor_eq]
    · split
      · exact (((count.setPad _ (mem_padParts ..)).raise _).flagOwner _ _ (by simp)).logFault _ _ _ _ (by simp)
      · split
        · exact ((count.setPad _ (mem_padParts ..)).raise _).flagOwner _ _ (by simp)
        · exact count
    · split
      · exact vitals_flagOwner _ _ q
      · split
        · exact vitals_flagOwner _ _ q
        · rfl
  · rw [healthStep_of_untracked s n tracked]; exact .refl s

theorem sensed_calibrationRound (s : State) (k : PadId) (stamp : Int) : Sensed s (s.calibrationRound k stamp) := by
  obtain ⟨keeps, profile, -⟩ := calibrationRound_keeps s k stamp
  refine ⟨keeps.mono (by cases k <;> simp), fun j => ?_, fun q => congrArg Score.vitals (keeps.2 (.score q) (by simp))⟩
  by_cases same : j = k
  · rw [same]; exact profile
  · exact congrArg Pad.profile (keeps.2 (.pad j) (by simpa using same))

theorem sensed_senseRound (s : State) (r : Readings) (sensors : List SensorName) (stamp : Int) :
    Sensed s (s.senseRound r sensors stamp) := by
  have converted : Sensed s (s.convertAll r) :=
    ⟨((Keeps.refl s).setPad _ (by simp)).setPad _ (by simp), fun k => by rw [pad_convertAll]; rfl, fun _ => rfl⟩
  have health : Sensed s (s.healthRound r sensors) :=
    List.foldlRecOn (motive := Sensed s) _ _ converted (fun t h n _ => h.trans (sensed_healthStep t n))
  rw [senseRound_eq]
  exact (health.trans (sensed_calibrationRound ..)).trans (sensed_calibrationRound ..)

theorem Lone.sensed {pl : Player} {i l : Nat} (h : Lone s pl i l t) (k : Sensed t u) : Lone s pl i l u := by
  have judge : u.judge pl = t.judge pl := k.keeps.2 (.judge pl) (by simp)
  exact h.of_same (congrArg Clock.state (k.keeps.2 .clock (by simp))) (fun q => k.keeps.2 (.session q) (by simp)) k.profile
    (congrArg Judge.params judge)
    (fun j => congrArg (Judge.entry · j) judge) (fun j => congrArg (Judge.lane · j) judge) (k.vitals pl)

/-- R1, R3, R7: what a strobe leaves of a clock RUNNING and LOCKED, its song time aside. -/
theorem clockStrobe_of_locked {first : Player} (running : s.clock.state = .running) (locked : s.clock.mode = .locked) :
    let v := min (min (s.clock.songTime + 1) (s.clock.lastPulse + 7)) 8388607
    let b := s.clockStrobe first
    Keeps [.clock, .notice, .score .p0, .score .p1] s b.state ∧ b.state.clock.state = .running ∧ b.state.clock.songTime = v
      ∧ (∀ q, (b.state.scoreUnit q).vitals = (s.scoreUnit q).vitals) ∧ (v ≠ s.clock.songTime → b.handOver = true) := by
  intro v b
  have is : b = _ := clockStrobe_locked first running locked
  rw [is, State.strobeLocked]
  dsimp only
  have flags (t : State) (f : BitVec 16) (q : Player) : ((t.reportSync f).scoreUnit q).vitals = (t.scoreUnit q).vitals := by
    cases q <;> rfl
  refine ⟨?_, ?_, ?_, fun q => ?_, fun moves => decide_eq_true moves⟩
  all_goals split
  · exact ((((Keeps.refl s).onClock _).onClock _).onClock _).reportSync _ (by simp)
  · exact ((Keeps.refl s).onClock _).onClock _
  · exact running
  · exact running
  · rfl
  · rfl
  · exact flags _ _ q
  · rfl

end sensed
end Sys2Proof.Machine

namespace Sys2Proof.Machine

/-! ### A whole strobe around the crossing of one avoid note (R104, R108, log entry 33) -/

section strobe
variable {s : State} {pl : Player} {i l : Nat} {pad : PadId} {p : PanelId}

/-- Log entry 33: a panel that a hand-over of the round sees pressed. -/
theorem pressed_seenInRound {before now : Pad} {v : Int} (active : before.state = .active) (within : p.val < now.profile.panelCount) :
    ((before.seenInRound now v).panels.get p).state.pressed = true ↔
      (before.panels.get p).state.pressed = true ∨ (now.roundOf p v).presses = true := by
  rw [Pad.seenInRound, if_pos active]
  dsimp only
  rw [Tab.get_mapIdx]
  by_cases presses : (now.roundOf p v).presses = true
  · rw [if_pos ⟨within, presses⟩]
    simp [presses, PanelState.pressed]
  · rw [if_neg (fun h => presses h.2)]
    simp [presses]

theorem endRound_judges (s : State) : s.endRound.judges = s.judges := by
  obtain ⟨_, _, ended⟩ := endRound_eq s
  obtain ⟨_, _, captured⟩ := captureIfDue_eq s.shownRound.dumpRoundEnd
  obtain ⟨_, due⟩ := dumpRoundEnd_eq s.shownRound
  rw [ended, captured, due]
  rfl

theorem Watched.lone (w : Watched s pl i l pad p) (running : s.clock.state = .running) (other : (s.session pl.other).state = .idle)
    (lanes : ∀ k, k ≠ l → i ∉ (s.judge pl).lane k) (rest : ∀ k, k ≠ i → (s.entry pl k).state ∈ [.free, .reserved, .final]) :
    Lone s pl i l s where
  running := running
  session := rfl
  other := other
  profile _ := rfl
  params := rfl
  rest := rest
  lanes := lanes
  record := rfl
  life := .inl ⟨w.watching, rfl⟩

/-- The state of a strobe when its freely ordered parts begin. -/
def State.sensed (s : State) (r : Readings) (order : RoundOrder) : State :=
  (s.clockStrobe order.first).state.senseRound r order.sensors (s.clockStrobe order.first).state.clock.songTime

theorem roundStrobe_eq (s : State) (r : Readings) (order : RoundOrder) : ∃ seen : PerPad Pad,
    (∀ k, seen.get k = ((s.clockStrobe order.first).state.pad k).seenInRound ((s.sensed r order).pad k)
      (s.clockStrobe order.first).state.clock.songTime)
    ∧ s.roundStrobe r order = ((s.sensed r order).roundItems (s.clockStrobe order.first).state.pads seen
        (s.clockStrobe order.first).state.clock.songTime (s.clockStrobe order.first).handOver (inOrder order.items allItems)).endRound :=
  ⟨⟨_, _⟩, fun k => by cases k <;> rfl, rfl⟩

/-- R87, R104, log entry 33: a strobe that hands over a value at or past the crossing strikes the note whose panel was pressed
or is pressed by this round, and else lets it cross. -/
theorem roundStrobe_crossing (w : Watched s pl i l pad p) (lone : Lone s pl i l s) (locked : s.clock.mode = .locked)
    (active : (s.pad pad).state = .active) (cal : (s.pad pad).cal = none) (within : p.val < (s.pad pad).profile.panelCount)
    (r : Readings) (order : RoundOrder) :
    let v := min (min (s.clock.songTime + 1) (s.clock.lastPulse + 7)) 8388607
    let t := s.roundStrobe r order
    let down : Prop := ((s.pad pad).panels.get p).state.pressed = true ∨ ((t.pad pad).panels.get p).state = .down
    v ≠ s.clock.songTime → s.effectiveDue pl (s.entry pl i) ≤ v →
      (down → (t.entry pl i).isStruck)
        ∧ (¬ down → v < s.avoidSettleDue pl (s.entry pl i) → t.entry pl i = { s.entry pl i with crossed := true }) := by
  intro v t down moves reached
  obtain ⟨keeps, running, time, vitals, handed⟩ := clockStrobe_of_locked (first := order.first) lone.running locked
  replace time : (s.clockStrobe order.first).state.clock.songTime = v := time
  obtain ⟨seen, sees, strobe⟩ := roundStrobe_eq s r order
  have sensed := sensed_senseRound (s.clockStrobe order.first).state r order.sensors (s.clockStrobe order.first).state.clock.songTime
  have judge : (s.clockStrobe order.first).state.judge pl = s.judge pl := keeps.2 (.judge pl) (by simp)
  have strobed : Lone s pl i l (s.clockStrobe order.first).state :=
    lone.of_same (running.trans lone.running.symm) (fun k => keeps.2 (.session k) (by simp))
      (fun k => congrArg Pad.profile (keeps.2 (.pad k) (by simp))) (congrArg Judge.params judge)
      (fun k => congrArg (Judge.entry · k) judge) (fun k => congrArg (Judge.lane · k) judge) (vitals pl)
  have begun : Lone s pl i l (s.sensed r order) := strobed.sensed sensed
  have same : (s.sensed r order).entry pl i = s.entry pl i :=
    congrArg (Judge.entry · i) ((sensed.keeps.2 (.judge pl) (by simp)).trans judge)
  have before : (s.clockStrobe order.first).state.pad pad = s.pad pad := keeps.2 (.pad pad) (by simp)
  have panels : ((s.sensed r order).pad pad).panels = (s.pad pad).panels := by
    rw [State.sensed, pad_senseRound_of_none (by rw [before]; exact cal), pad_healthRound, before]
  have within' : p.val < ((s.sensed r order).pad pad).profile.panelCount := by rw [begun.profile]; exact within
  have active' : ((s.clockStrobe order.first).state.pads.get pad).state = .active := (congrArg Pad.state before).trans active
  have seenPressed := pressed_seenInRound (v := v) (before := (s.clockStrobe order.first).state.pad pad) active' within'
  rw [handed moves, time] at strobe
  rw [time] at sees
  rw [← sees, before] at seenPressed
  generalize s.sensed r order = now at begun same panels within' seenPressed strobe
  generalize (s.clockStrobe order.first).state.pads = pre at active' strobe
  have pad' : t.pad pad = (now.roundItems pre seen v true (inOrder order.items allItems)).pad pad :=
    (congrArg (State.pad · pad) strobe).trans (congrArg (PerPad.get · pad) (endRound_same _).1)
  have entry' : t.entry pl i = (now.roundItems pre seen v true (inOrder order.items allItems)).entry pl i :=
    (congrArg (State.entry · pl i) strobe).trans (congrArg (fun j => (PerPlayer.get j pl).entry i) (endRound_judges _))
  have presses (up : ((s.pad pad).panels.get p).state.pressed = false) :
      ((t.pad pad).panels.get p).state = .down ↔ ((now.pad pad).roundOf p v).presses = true := by
    rw [pad']
    exact roundItems_panel pre seen true (by rw [panels]; exact up) active' within' order.items
  by_cases pressed : ((seen.get pad).panels.get p).state.pressed = true
  · refine ⟨fun _ => ?_, fun up => ?_⟩
    · rw [entry']
      exact (begun.strikes pre seen w reached same pressed order.items).2
    · refine absurd ?_ up
      rcases seenPressed.mp pressed with was | presses'
      · exact .inl was
      · by_cases was : ((s.pad pad).panels.get p).state.pressed = true
        · exact .inl was
        · exact .inr ((presses (Bool.eq_false_iff.mpr was)).mpr presses')
  · have was := Bool.eq_false_iff.mpr fun was => pressed (seenPressed.mpr (.inl was))
    have silent := fun now => pressed (seenPressed.mpr (.inr now))
    refine ⟨fun here => ?_, fun _ late => ?_⟩
    · rcases here with up | down
      · exact absurd (seenPressed.mpr (.inl up)) pressed
      · exact absurd ((presses was).mp down) silent
    · rw [entry']
      exact (begun.crosses pre seen w reached late same (Bool.eq_false_iff.mpr pressed) (by rw [panels]; exact was) active' within'
        silent order.items).2

end strobe
end Sys2Proof.Machine

namespace Sys2Proof.Machine

theorem entry_of_judge {s t : State} {pl : Player} (h : t.judge pl = s.judge pl) (k : Nat) : t.entry pl k = s.entry pl k := by
  rw [State.entry, h]; rfl

theorem capTime_le {x v : Int} (h : min 8388607 x ≤ v) : capTime x ≤ v := (min_comm x 8388607).trans_le h

theorem clock_handOver (s : State) (seen : PerPad Pad) (pl : Player) (v : Int) : (s.handOver seen pl v).clock = s.clock :=
  (congrArg State.clock (State.unjudged_handOver s pl seen v) :)

theorem handToBoth_eq {s : State} {v : Int} (first : Player) (time : s.clock.songTime = v) : s.handToBoth first =
    (s.handOver s.pads first v).handOver (s.handOver s.pads first v).pads first.other v := by
  rw [State.handToBoth, State.eachPlayer, clock_handOver, time]

/-- R3, R87: a pulse in RUNNING and LOCKED with no PAUSE pending. -/
theorem actPulse_locked {s : State} (first : Player) (running : s.clock.state = .running) (locked : s.clock.mode = .locked)
    (steady : s.clock.change ≠ .pause) : s.actPulse first =
      if (s.clock.pulseLocked).songTime ≠ s.clock.songTime then (s.onClock Clock.pulseLocked).handToBoth first
      else s.onClock Clock.pulseLocked := by
  have clock : (if (s.clock.pulseLocked).songTime ≠ s.clock.songTime then (s.onClock Clock.pulseLocked).handToBoth first
      else s.onClock Clock.pulseLocked).clock = s.clock.pulseLocked := by
    split
    · exact (congrArg State.clock (State.unjudged_handToBoth (s.onClock Clock.pulseLocked) first) :)
    · rfl
  rw [State.actPulse, running]
  dsimp only
  rw [State.pulseRunning, locked]
  exact if_neg (fun pause => steady ((congrArg Clock.change clock).symm.trans pause))

/-- Settles O47: a row is the one step that the judge takes for a reached due time, and a hand-over takes them one by one; through
a strobe the only note in use is followed with what a hand-over sees of its panel. -/
theorem dueTimesAreServed : Obligations.DueTimesAreServed := by
  refine ⟨fun s pl i op playing running serving => ?rows, fun s pl i still c mem => ?still, fun s pl v op playing running => ?handOver,
    fun s first op taking running locked change good => ?pulse,
    fun s r order pl i l pad p op running locked playing other owned active cal within lane => ?strobe⟩
  case rows =>
    have h : Serving s pl := ⟨playing, running, serving⟩
    refine ⟨fun u waiting tap alone unit reached standing => ?_,
      fun u v waiting hold alone unit tail reached standing => ?_, fun scheduled reached standing => ?_,
      fun watching fresh reached => ⟨fun up standing => ?_, fun pressed standing => ?_⟩,
      fun watching crossed reached standing => ?_⟩
    · obtain ⟨t, runs, done⟩ := lapseDue_tap op h waiting alone (capTime_le reached) unit tap standing
      exact ⟨t, runs, ⟨done.entry, done.writer, done.others⟩, done.lanes, done.score, done.keeps⟩
    · obtain ⟨t, runs, done⟩ := lapseDue_hold op h waiting alone (capTime_le reached) unit hold tail standing
      exact ⟨t, runs, done.entry, done.writer, done.others, done.lanes, done.score, done.keeps⟩
    · have low := lt_of_entry_ne_free (by rw [scheduled]; decide)
      obtain ⟨t, runs, lit, lamps⟩ := beatDue_row op h scheduled (capTime_le reached) standing
      have judge := lit.2 (.judge pl) (by simp)
      refine ⟨t, runs, ⟨?_, ?_, fun k other => ?_⟩, ?_, lamps, (keeps_passed.mono (by simp)).trans (lit.mono (by simp))⟩
      · exact (entry_of_judge judge i).trans (entry_passed low)
      · exact (lit.2 (.writer pl) (by simp)).trans writer_passed
      · exact (entry_of_judge judge k).trans (entry_passed_ne other)
      · exact (congrArg Judge.beats judge).trans beats_passed
    · have low := lt_of_entry_ne_free (by rw [watching]; decide)
      refine ⟨_, crossingDue_row op h watching fresh (capTime_le reached) (if_neg (by rw [up]; decide)) standing,
        entry_onEntry_same _ low, (Keeps.refl s).onEntry i _⟩
    · have low := lt_of_entry_ne_free (by rw [watching]; decide)
      obtain ⟨done, score, lamps, keeps⟩ := strikeEntry_effect low 0
      exact ⟨_, crossingDue_row op h watching fresh (capTime_le reached) (if_pos pressed) (by rw [score]; exact standing),
        ⟨done.entry, done.writer, done.others⟩, done.lanes, score, lamps, keeps⟩
    · obtain ⟨t, runs, done⟩ := avoidSettleDue_row op h watching crossed (capTime_le reached) standing
      exact ⟨t, runs, ⟨done.entry, done.writer, done.others⟩, done.lanes, done.score, done.keeps⟩
  case still =>
    have none (is : Entry → Bool) : s.whenOperating (fun s => s.dueEvent pl i is) = s := by
      unfold State.whenOperating; split
      exacts [dueEvent_of_not still, rfl]
    simp only [List.mem_cons, List.not_mem_nil, or_false] at mem
    rcases mem with rfl | rfl | rfl | rfl | rfl | rfl
    all_goals exact congrArg Host.Outcome.next (none _)
  case handOver =>
    refine ⟨fun none => handOver_of_none _ (fun i low due next => Int.not_le.mp fun reached => none i due ⟨low, next, reached⟩),
      fun i due reached least => ?_⟩
    obtain ⟨low, next, early⟩ := reached
    have length : ((s.takeTime pl v).judge pl).pool.length = (s.judge pl).pool.length := by cases pl <;> rfl
    have first := firstDue_of_least (s := s.takeTime pl v) (pl := pl) (v := v) (due := due)
      (l := List.range ((s.takeTime pl v).judge pl).pool.length) (List.mem_range.mpr (length ▸ low))
      (by rw [entry_takeTime, nextDueOf_takeTime]; exact next) early (fun k other ne mem nextK reachedK => by
        rw [entry_takeTime, nextDueOf_takeTime] at nextK
        rw [entry_takeTime, entry_takeTime]
        exact least k other ne ⟨length ▸ List.mem_range.mp mem, nextK, reachedK⟩)
    have row := exec_dueRow (s := s.takeTime pl v) (i := i) (due := due) op (serving_takeTime playing running)
      (by rw [entry_takeTime, nextDueOf_takeTime]; exact next) (by rw [judged_takeTime]; exact early)
    refine ⟨_, ?_, handOver_of_first _ playing running first⟩
    rw [dueRow_takeTime] at row
    exact row
  case pulse =>
    rw [exec_syncPulse op taking, checkSpacing_of_good good,
      actPulse_locked (s := s.setClock { s.clock with phase := 0, anomalyRun := 0 }) first running locked change]
    exact ⟨fun moves => congrArg _ ((if_pos moves).trans (handToBoth_eq first rfl)),
      fun stays => congrArg _ (if_neg (not_not.mpr stays))⟩
  case strobe =>
    intro e q t' v watching fresh record lanes rest moves reached standing bears
    have w : Watched s pl i l pad p := ⟨playing, laneTargetOf_of_laneOf lane, watching, fresh, record, standing, bears⟩
    obtain ⟨strikes, crosses⟩ := roundStrobe_crossing w (w.lone running other lanes rest) locked active cal within r order moves
      (capTime_le reached)
    refine ⟨_, exec_roundStrobe op r order, strikes, fun up late => crosses up ?_⟩
    rw [State.avoidSettleDue, record]
    exact lt_capTime late
end Sys2Proof.Machine
